-- ==== Sys2Proof/Word.lean ====
section
/-!
DEFINITION. The word types of the module: bytes, half-words, the 32-bit word of a lamp register and of a
register window, and the sparse tables that hold memories and register banks.
-/
namespace Sys2Proof

/-- One byte of a memory or of a record. -/
abbrev Byte := BitVec 8

/-- A half-word of D-space or IO-space (R104). -/
abbrev Half := BitVec 16

/-- A 32-bit word: a lamp register, a memory word, a register of a keeper window. -/
abbrev Word := BitVec 32

/-- A lamp register number g0 to g31 (R128). -/
abbrev Reg := BitVec 5

/-- A sparse table: entries at rising keys, an unlisted key reads as the table's default. -/
abbrev Tab (α : Type) := List (Nat × α)

end Sys2Proof
end

