-- ==== Sys2Proof/Syntax/Req.lean ====
section
/-!
DEFINITION. A keeper command as it travels: its origin, header and argument words (R416, R436).
-/
namespace Sys2Proof

/-- The role of a session, in the order of MBX_m_BIND.ROLE (R474). -/
inductive Role where
  | viewer | operator | engineer | securityOfficer | vendorService
  deriving DecidableEq, Repr

/-- Where a command comes from. -/
inductive Origin where
  /-- Host-session mailbox m, 0 to 7. -/
  | host (m : Nat)
  /-- The CAN command port (R428). -/
  | can (port : Nat)
  /-- A scheduled action's slot (R401). -/
  | slot (k : Nat)
  /-- The partner of the twin (R442). -/
  | partner
  deriving DecidableEq, Repr

/-- A command request: its header fields and argument words w1 onward. -/
structure Req where
  origin : Origin
  opcode : Nat
  tag    : Nat
  len    : Nat
  args   : List Word
  role   : Role
  /-- Identity of the session, the first 16 bytes of the certificate hash (R479), as a number. -/
  ident  : Nat := 0
  /-- Sent in a claim session of an UNOWNED module (R469). -/
  claim  : Bool := false
  deriving DecidableEq, Repr

/-- A value reported by the outside world: whether a signature chain verified, and why not. -/
inductive SigCheck where
  | good
  /-- The cause of the refusal, by its position in the owning rule. -/
  | bad (cause : Nat)
  deriving DecidableEq, Repr

end Sys2Proof
end

