-- ==== Sys2Proof/Syntax/Operand.lean ====
section
/-!
DEFINITION. What commands carry in from the field and the buses: frames, responses and measured values.
-/
namespace Sys2Proof

/-- What a memory word read carries: no error, a single-bit error, an uncorrectable one (R116 to R118). -/
inductive EccMark where
  | ok | single | double
  deriving DecidableEq, Repr

/-- What every lamp instruction carries: the lamp, 32 × gallery + 2 × physical range + lamp; the contents of the
fields its format marks 0 (R127); the errors met by its fetch and its data access; its interconnect wait in fc. -/
structure LampOp where
  lamp  : Nat
  z     : Nat := 0
  fetchErr : EccMark := .ok
  dataErr  : EccMark := .ok
  wait  : Nat := 0
  deriving DecidableEq, Repr

/-- The operand of a rung instruction: an IO-space bit (format RA) or a register bit (format RR). -/
inductive RungBit where
  | io (addr : BitVec 20) (bit : BitVec 3)
  | reg (r : Reg) (bit : BitVec 5)
  deriving DecidableEq, Repr

/-- A CAN frame. -/
structure CanFrame where
  id   : Nat
  ide  : Bool
  fdf  : Bool
  brs  : Bool
  esi  : Bool := false
  data : List Byte
  deriving DecidableEq, Repr

/-- The measurements of one 1 ms loop window: input currents in nA, supply voltages in mV, the supplies in current
limit, and output readbacks in nA. -/
structure LoopSample where
  cur : List Int
  us  : List Nat
  lim : BitVec 16
  rb  : List Int
  deriving DecidableEq, Repr

/-- A HART frame as received. -/
structure HartMsg where
  burst : Bool := false
  /-- The check byte is wrong. -/
  bad   : Bool := false
  resp  : Nat := 0
  /-- Field device status. -/
  fds   : Nat := 0
  /-- Unique identifier and HART revision of a command 0 response. -/
  uid   : Nat := 0
  rev   : Nat := 0
  /-- Loop current and the variables with their unit codes, of a command 3 response. -/
  loopMa : Word := 0
  vars  : List (Word × Nat) := []
  data  : List Byte := []
  deriving DecidableEq, Repr

/-- The kind of a received PTP message. -/
inductive PtpKind where
  | announce | sync | delayResp
  deriving DecidableEq, Repr

/-- A PTP message as the port takes it: the grandmaster's data set from Announce, the offset estimate that Sync and
Delay_Resp complete, and the message interval in ns. -/
structure PtpMsg where
  kind   : PtpKind
  gm     : Nat := 0
  prio1  : Nat := 128
  prio2  : Nat := 128
  clockClass : Nat := 248
  accuracy : Nat := 0xFE
  variance : Nat := 0xFFFF
  interval : Nat := 1000000000
  utc    : Option Nat := none
  offset : Option Int := none
  deriving DecidableEq, Repr

/-- The header of a twin-link frame (R206): SEQ, the INCOMPLETE and SECTOR_FAIL flags, the CARRY bits; the judgement of
its CRC-32, and the misses and frames of undefined TYPE since the frame before (R207, R210). -/
structure TwinHdr where
  seq   : Nat := 0
  crcOk : Bool := true
  misses : Nat := 0
  incomplete : Bool := false
  secFail : Bool := false
  carry : BitVec 4 := 0
  deriving DecidableEq, Repr

/-- A DIGEST frame (R217): CRC-64 values as numbers, DO commands with their mask, AO commands, and the TS64 at which
OUT completed. -/
structure Digest where
  cycle : Nat
  t0    : Nat
  incomplete : Bool
  hash  : Nat
  dig1  : Nat
  dig2  : Nat
  doCmd  : Word
  doMask : Word
  ao    : List (Nat × Nat)
  outTs : Nat
  deriving DecidableEq, Repr

/-- EtherType of a received frame, as the port sorts it (R366). -/
inductive EthKind where
  | ipv4 | arp | prpSup | other
  deriving DecidableEq, Repr

/-- A frame at an Ethernet port: the judgement of its FCS, its source address, its PRP trailer as sequence number and
LAN, its IPv4 addresses and ports; `open_` names the TCP connection it begins to port 7410. -/
structure EthFrame where
  fcsOk : Bool := true
  src   : Nat := 0
  kind  : EthKind := .ipv4
  rct   : Option (Nat × Nat) := none
  proto : Nat := 17
  sip   : Word := 0
  dip   : Word := 0
  sport : Nat := 0
  dport : Nat := 0
  open_ : Option Nat := none
  deriving DecidableEq, Repr

/-- A Beam frame as received (R374): `tagOk` is the verdict of its TAG under the key of its KEY_EPOCH, `same` that the
two safety channels agree on it (R375, R376). -/
structure BeamFrame where
  version : Nat := 1
  typ   : Nat := 1
  flags : Nat := 0
  src   : Nat := 0
  dst   : Nat := 0
  conn  : Nat := 0
  epoch : Nat := 0
  seq   : Nat := 0
  ts    : Nat := 0
  len   : Nat := 0
  data  : List Byte := []
  scrc  : Word := 0
  tagOk : Bool := true
  same  : Bool := true
  deriving DecidableEq, Repr

/-- A partner heartbeat that authenticates (R229, R381): role, execution and power mode as MOD_MODE encodes them,
ROLE_EPOCH and the TS64 at which it began, link receipt, CARRY bits, TS64 of sending. -/
structure Heartbeat where
  role  : Nat
  exec  : Nat
  power : Nat
  epoch : Nat := 0
  epochTs : Nat := 0
  linkRx : Bool := false
  carry : BitVec 4 := 0
  sentTs : Nat := 0
  deriving DecidableEq, Repr

/-- The end of a TLS handshake: the client's identity and the role of its certificate, or the reason of the failure by
its place in R478 with the certificate hash received. -/
inductive HsEnd where
  | ok (ident : Nat) (role : Role)
  | fail (reason : Nat) (cert : Nat)
  deriving DecidableEq, Repr

end Sys2Proof
end

