-- ==== Sys2Proof/Syntax/Image.lean ====
section
/-!
DEFINITION. The program image as the loader sees it: task characters, the chart, the placement of memory,
timers and slots, and the settings of the I/O and network blocks. Octok's binary form of an image lies outside
the manual, so an image is carried decoded (assumption log, entry 10).
-/
namespace Sys2Proof

/-- What starts a cycle of an event task (R45). -/
inductive Trigger where
  | none
  /-- Event-request bit n of the output image. -/
  | eventBit (n : Nat)
  /-- A scheduled TS64 instant, set by the scheduled action. -/
  | instant
  /-- A change of one digital input: rising, falling or both. -/
  | diChange (ch : Nat) (rising falling : Bool)
  /-- A receipt at one CAN acceptance filter. -/
  | canFilter (port filter : Nat)
  /-- A receipt on one Beam connection. -/
  | beamConn (c : Nat)
  deriving DecidableEq, Repr

/-- The character of a task (R27). Times are in whole microseconds; `tOut` and `tIn` are in fc, as Octok writes them. -/
structure TaskCfg where
  used        : Bool := false
  period      : Nat := 0
  phase       : Nat := 0
  strobeOffset : Nat := 0
  watchdog    : Nat := 0
  priority    : Nat := 8
  vital       : Bool := true
  retain      : Bool := false
  runAhead    : Bool := false
  legacy      : Bool := false
  autoRestart : Bool := false
  sector      : Nat := 0
  trigger     : Trigger := .none
  /-- Declared 256-byte pages of the input image, by page number (R35). -/
  pages       : List Nat := []
  /-- T_OUT in fc, computed by Octok and checked by the loader (R44). -/
  tOut        : Nat := 0
  /-- The task writes retain variables (R28). -/
  writesRetain : Bool := false
  /-- The task's code uses the free-running timer bank (R28, R56). -/
  usesFrt     : Bool := false
  /-- The task's code addresses a LOCAL register with a constant address (R108). -/
  constLocal  : Bool := false
  /-- The task writes a retain variable that another task also writes (R28). -/
  retainShared : Bool := false
  deriving DecidableEq, Repr

/-- A declared slot read of a rung group: the version it requires is publish `ord` of the current cycle, or the
final version of the previous cycle when `prev` (chapter 3, Signal slots). -/
structure SlotRead where
  slot      : Nat
  prev      : Bool
  ord       : Nat
  /-- The chart marks the read as a run-ahead consumer (R83). -/
  consumer  : Bool := false
  /-- The chart marks the read as a start wait (R31). -/
  startWait : Bool := false
  deriving DecidableEq, Repr

/-- A declared publish of a rung group: it creates version `ord` of the cycle. -/
structure SlotPub where
  slot : Nat
  ord  : Nat
  deriving DecidableEq, Repr

/-- One rung group of a task's chart, in chart order. `place` is the logical lamp: the logical range in a locked
sector, 2k or 2k + 1 in a split one (R64). -/
structure GroupCfg where
  gallery : Nat
  place   : Nat
  entry   : Nat
  /-- Words of code from `entry`, for the load checks. -/
  len     : Nat
  reads   : List SlotRead := []
  pubs    : List SlotPub := []
  /-- Worst-case execution time in fc as Octok computes it (R28). -/
  wcet    : Nat := 0
  deriving DecidableEq, Repr

/-- A signal slot the image declares (R70, R74). -/
structure SlotCfg where
  slot    : Nat
  owner   : Nat
  token   : Bool
  init    : Word
  /-- W: publishes of the slot per cycle. -/
  width   : Nat
  deriving DecidableEq, Repr

/-- The assignment of a 256-byte page of gallery data or global memory (R67). -/
inductive PageUse where
  | unassigned
  | task (k : Nat)
  | exchange (owner : Nat)
  deriving DecidableEq, Repr

/-- KIND of a timer/counter block (R146). -/
inductive TcKind where
  | unused | ton | tof | tp | ctu | ctd
  deriving DecidableEq, Repr

/-- A timer/counter block's initial content (R146, R154). -/
structure TimerCfg where
  kind   : TcKind := .unused
  preset : Word := 0
  retain : Bool := false
  deriving DecidableEq, Repr

/-- The start-up kind the image names (R268). -/
inductive StartKind where
  | stop | cold | warm
  deriving DecidableEq, Repr

/-- A gallery's share of the image: its code, its initial data and its pages. -/
structure GalleryCfg where
  /-- Sector of the gallery, if it belongs to one (R30). -/
  sector : Option Nat := none
  /-- The sector is split (R30). -/
  split  : Bool := false
  spares : Nat := 1
  imem   : Tab Word := []
  data   : Tab Byte := []
  deriving DecidableEq, Repr

/-- An owner of a run of output-image bytes (R37). -/
structure OutOwner where
  off  : Nat
  len  : Nat
  task : Nat
  deriving DecidableEq, Repr

end Sys2Proof
end

