-- ==== Sys2Proof/Machine/StFabric.lean ====
section
/-!
DEFINITION. State types of the lamp fabric: lamps, ranges, galleries, signal slots, timer/counter blocks, tasks
(chapters 2 to 5 and 7).
-/
namespace Sys2Proof.Machine

/-- Trap causes (R114). -/
inductive TrapCause where
  | illegalOp | fetchFault | misaligned | dUnmapped | ioAccess | imagePage
  /-- CHART_VIOLATION with its cause 1 to 6, the slot, the versions seen and required (R77). -/
  | chart (cause slot seen required : Nat)
  | bitStack | divZero
  /-- ECC_UNCORRECTABLE with its memory code and byte offset (R117). -/
  | ecc (mem off : Nat)
  | legacyDenied | legacyBcd | localDenied
  | user (code : Nat)
  deriving DecidableEq, Repr

/-- A trap as R115 records it: the cause, the I-space address and the data address. -/
structure Trap where
  cause : TrapCause
  pc    : Nat
  addr  : Nat := 0
  deriving DecidableEq, Repr

/-- Where a buffered store goes. -/
inductive StoreSpace where
  /-- Range scratch of this lamp's range, gallery data of its gallery, or global memory, by D-space address. -/
  | dspace
  /-- Output image, timer/counter block word or legacy shadow, by IO-space address. -/
  | io
  /-- A signal-slot publish: the address is the slot, the value its new value. -/
  | slot
  deriving DecidableEq, Repr

/-- One store-buffer entry: a 32-bit word with the bits it writes (R82). -/
structure BufStore where
  space : StoreSpace
  addr  : Nat
  value : Word
  mask  : Word
  task  : Nat
  deriving DecidableEq, Repr

/-- What a read-set entry names (R81). -/
inductive ReadSpace where
  | view | exchange | otherOut | cycleStart
  deriving DecidableEq, Repr

/-- One read-set entry: a word, the bits read and their value (R81). -/
structure ReadEnt where
  space : ReadSpace
  addr  : Nat
  mask  : Word
  value : Word
  deriving DecidableEq, Repr

/-- The metadata and value of a signal slot. `epoch` and `ord` are VER's two bytes. -/
structure Slot where
  value : Word := 0
  epoch : Nat := 0
  ord   : Nat := 0
  quota : Nat := 0
  token : Bool := false
  owner : Nat := 0
  prov  : Bool := false
  depth : Nat := 0
  deriving DecidableEq, Repr

/-- A slot's state before a provisional publish, to be restored by a squash (R85). -/
structure SlotSave where
  slot : Nat
  old  : Slot
  deriving DecidableEq, Repr

/-- One speculative rung group of a lamp (R79 to R85). -/
structure SpecGroup where
  task   : Nat
  group  : Nat
  cycle  : Nat
  reads  : List ReadEnt := []
  stores : List BufStore := []
  pubs   : List SlotSave := []
  /-- Provisional slots read as a run-ahead consumer, with the version read. -/
  used   : List (Nat × Nat) := []
  /-- A QUOTA this group has decremented, to be given back by a squash. -/
  quotas : List Nat := []
  trap   : Option Trap := none
  /-- The group has executed its GEND. -/
  done   : Bool := false
  instrs : Nat := 0
  fc     : Nat := 0
  /-- Instructions of the group that had executed when it became speculative. -/
  before : Nat := 0
  deriving DecidableEq, Repr

/-- What a lamp is doing. -/
inductive LampMode where
  | idle
  | exec
  /-- Stalled in a slot read of `slot` for register `rd` (R71). -/
  | slotWait (slot : Nat) (rd : Reg)
  /-- A pending SPUB of `slot` (R156). -/
  | pubWait (slot : Nat) (value : Word)
  /-- FENCE waiting on store visibility (R157). -/
  | fenceWait
  /-- GEND waiting on an implicit read or publish (R73). -/
  | gendWait
  /-- A speculative group stopped until validation (R81, R82, R84). -/
  | specWait
  deriving DecidableEq, Repr

/-- A lamp: its registers (chapter 4, Registers), its place in the chart and its stalls. -/
structure Lamp where
  mode  : LampMode := .idle
  /-- g0 to g31; entry 0 is never written and reads 0 (R131). -/
  regs  : Vector Word 32 := Vector.replicate 32 0
  lk    : Word := 0
  ba    : Bool := false
  /-- The bit stack, top first, at most 16 entries (R112). -/
  bits  : List Bool := []
  pc    : Nat := 0
  task  : Nat := 0
  group : Nat := 0
  cycle : Nat := 0
  spec  : Bool := false
  /-- fc since the group's first instruction. -/
  fc    : Nat := 0
  instrs : Nat := 0
  /-- fc at which the lamp's last store is visible (R137). -/
  visAt : Nat := 0
  /-- Slots this rung group has read, and has published with the value published. -/
  readSlots : List Nat := []
  pubSlots  : List (Nat × Word) := []
  /-- Highest DEPTH of a provisional slot read (R83). -/
  depth : Nat := 0
  specs : List SpecGroup := []
  /-- Committed store-buffer entries not yet drained (R86). -/
  drain : List BufStore := []
  /-- RCTL_ECC_CORR_CNT and RCTL_ECC_ADDR (R107). -/
  eccCnt  : Nat := 0
  eccAddr : Word := 0
  /-- Staging words 1 to 15 of the gallery mailbox's TK direction (R419). -/
  staging : Tab Word := []
  deriving DecidableEq, Repr

/-- FAB_n_RANGE_r.STATE. -/
inductive RangeState where
  | off | inService | spare | lent | lbist | half | retired
  deriving DecidableEq, Repr

/-- OUTCOME of FAB_n_LS_r_STATUS. -/
inductive LsOutcome where
  | none | transient | lamp0 | lamp1 | range | running
  deriving DecidableEq, Repr

/-- Cause of an LBIST run (FAB_n_LS_r_LBIST). -/
inductive LbistCause where
  | wake | mismatch | warm | retest
  deriving DecidableEq, Repr

/-- A range with its lockstep registers (R96, R201). -/
structure Range where
  st      : RangeState := .off
  split   : Bool := false
  compare : Bool := false
  warm    : Bool := false
  lamp0Ok : Bool := false
  lamp1Ok : Bool := false
  /-- HALF or RETIRED recorded in the settings area (R193). -/
  persist : Bool := false
  outcome : LsOutcome := .none
  mismatchCnt  : Nat := 0
  transientCnt : Nat := 0
  lbistCnt  : Nat := 0
  lastTs    : Nat := 0
  sigValid  : Bool := false
  sigWarm   : Bool := false
  sig       : Nat := 0
  sigTask   : Nat := 0
  sigGroup  : Nat := 0
  lastMain  : Word := 0
  lastChk   : Word := 0
  lbDone    : Bool := false
  lb1Pass   : Bool := false
  lb0Pass   : Bool := false
  lbCause   : LbistCause := .wake
  lbUs      : Nat := 0
  snapCnt   : Nat := 0
  snapStall : Nat := 0
  joinCnt   : Nat := 0
  splitCnt  : Nat := 0
  /-- A snapshot has been taken since the range's last GEND, and when the last one was taken (R196). -/
  snapSinceGend : Bool := false
  snapTs    : Option Nat := none
  /-- A split or join is in progress: the rung groups of the range wait (R200). Its trigger by R197's list, 1 to 4, and
  whether it is a split. -/
  changing  : Bool := false
  chgTrig   : Nat := 0
  chgSplit  : Bool := false
  /-- The state the range returns to after LBIST and join, and the start of the LBIST run. -/
  was       : RangeState := .off
  lbTs      : Nat := 0
  /-- Runs of a range-retest still to come, and the pass bits so far, with the request to answer (R193). -/
  retest    : Nat := 0
  retestBits : Nat := 0
  deriving DecidableEq, Repr

/-- FAB_n_STATUS.POWER. -/
inductive GalPower where
  | off | waking | on | draining
  deriving DecidableEq, Repr

/-- FAB_n_SECTOR.SSTATE. -/
inductive SectorState where
  | unassigned | stop | run | shadow | safe
  deriving DecidableEq, Repr

/-- The last chart violation of a gallery (FAB_n_VIOL_0 to 3). -/
structure Violation where
  valid : Bool := false
  cause : Nat := 0
  task  : Nat := 0
  range : Nat := 0
  slot  : Nat := 0
  seen  : Nat := 0
  required : Nat := 0
  group : Nat := 0
  addr  : Nat := 0
  deriving DecidableEq, Repr

/-- A gallery: its power domain, its memories and its FAB_ registers (chapters 3 and 7). -/
structure Gallery where
  power     : GalPower := .off
  memReady  : Bool := false
  powerFault : Bool := false
  sparesCfg : Nat := 1
  sector    : Nat := 0
  sstate    : SectorState := .unassigned
  split     : Bool := false
  spare     : BitVec 16 := 0x8000
  lent      : BitVec 16 := 0
  /-- Physical range of each logical range; an unlisted one maps to itself (R64). -/
  lmap      : Tab (Option Nat) := []
  viol      : Violation := {}
  eccCorr   : Nat := 0
  eccUncorr : Nat := 0
  eccAddr   : Word := 0
  raCommit  : Nat := 0
  raSquash  : Nat := 0
  raSquashFc : Nat := 0
  raFull    : Nat := 0
  slotWaitFc : Nat := 0
  groupCnt  : Nat := 0
  wakeCnt   : Nat := 0
  relocCnt  : Nat := 0
  raSuspend : BitVec 8 := 0
  /-- The instant of the fabric clock at which the gallery came ON: RCTL_FC_CNT counts from it. -/
  wakeTs    : Nat := 0
  /-- What woke it: 1 sector, 2 proof run, 3 mailbox (R93). -/
  wakeCause : Nat := 0
  wakePending : Bool := false
  imem      : Tab Word := []
  data      : Tab Byte := []
  /-- Range scratch, 32 KiB per physical range. -/
  scratch   : Tab Byte := []
  ranges    : Tab Range := []
  /-- Bus-state of the scrubber: the next 64-byte line (R118). -/
  scrubLine : Nat := 0
  deriving DecidableEq, Repr

/-- A timer/counter block (R146). -/
structure TcBlock where
  preset  : Word := 0
  elapsed : Word := 0
  last    : BitVec 48 := 0
  kind    : TcKind := .unused
  retain  : Bool := false
  new     : Bool := false
  pulse   : Bool := false
  inp     : Bool := false
  q       : Bool := false
  deriving DecidableEq, Repr

/-- A free-running timer (R110). -/
structure Frt where
  /-- Count at the instant `since` of the fabric clock. -/
  cnt : Word := 0
  run : Bool := false
  since : Nat := 0
  deriving DecidableEq, Repr

/-- The phase of a task's cycle (R40 to R43). -/
inductive Phase where
  /-- No cycle runs. -/
  | idle
  /-- IN in a twin: the snapshot is sent, the agreed image is awaited. -/
  | agree
  /-- LOGIC. -/
  | logic
  /-- OUT in a twin: the digest is sent, the outcome is awaited. -/
  | digest
  /-- The strobe is armed. -/
  | armed
  deriving DecidableEq, Repr

/-- How a task stands (TASK_STATUS, w2). -/
inductive TaskMode where
  | undefined | running
  /-- Stopped under R53. -/
  | stopped
  | sectorSafe | notScanning
  deriving DecidableEq, Repr

/-- How the task's first cycle began (FLAGS COLD, WARM, REJOIN). -/
inductive FirstKind where
  | none | cold | warm | rejoin
  deriving DecidableEq, Repr

/-- A legacy word written through the window: its value and the bits written (R122). -/
structure LegacyShadow where
  value : Half := 0
  mask  : Half := 0
  deriving DecidableEq, Repr

/-- A forced point (R275): its kind and index as FORCE encodes them, its value and the time of forcing. -/
structure ForcePoint where
  kind  : Nat
  index : Nat
  value : Word
  ts    : Nat
  vital : Bool
  deriving DecidableEq, Repr

/-- A task at run time. -/
structure Task where
  mode     : TaskMode := .undefined
  phase    : Phase := .idle
  /-- The 64 KiB view of the input image (R35). -/
  view     : Tab Byte := []
  cycle    : Nat := 0
  /-- Cycle-start TS64. -/
  start    : Nat := 0
  /-- Scheduled instant of the cycle. -/
  sched    : Nat := 0
  /-- TS64 at which the next cycle is due; none while nothing is due (event tasks). -/
  nextAt   : Option Nat := none
  first    : FirstKind := .none
  lateUs   : Nat := 0
  late     : Bool := false
  pendFlag : Bool := false
  skipFlag : Bool := false
  overFlag : Bool := false
  overrunCnt : Nat := 0
  skipCnt  : Nat := 0
  lostCnt  : Nat := 0
  /-- This cycle has passed its logic deadline (R49). -/
  stretched : Bool := false
  /-- Late start of the cycle that follows a stretched one, and the instants it skips. -/
  lateNext : Bool := false
  skipNext : Nat := 0
  /-- TS64 of the strobe the cycle is bound for. -/
  strobeAt : Nat := 0
  /-- TS64 at which OUT completes, once LOGIC has ended. -/
  outAt    : Nat := 0
  /-- Output-image bytes as the task writes them (R38). -/
  work     : Tab Byte := []
  /-- Output bytes staged by OUT (R42). -/
  staged   : Tab Byte := []
  /-- The bytes committed at the latest strobe, before forcing, and its CYCLE. -/
  commit   : Tab Byte := []
  commitCycle : Nat := 0
  /-- The committed output image and exchange pages this cycle reads (R69). -/
  outSnap  : Tab Byte := []
  exSnap   : Tab Byte := []
  /-- Rung groups taken, and completed, in this cycle. -/
  taken    : List Nat := []
  doneG    : List Nat := []
  /-- Rung groups of the next cycle taken speculatively. -/
  takenNext : List Nat := []
  shadow   : Tab LegacyShadow := []
  /-- A held trigger's instant (R47). -/
  held     : Option Nat := none
  /-- A cycle has started since the last restart (R452). -/
  started  : Bool := false
  strobed  : Bool := false
  /-- The forced points in effect in this cycle, taken from the forcing table at the cycle start (R277). -/
  forces   : List ForcePoint := []
  /-- The forced output points applied since the task's latest strobe. -/
  outForces : List ForcePoint := []
  /-- TS64 up to which the previous IN took receive slots and areas (R347). -/
  lastCut  : Option Nat := none
  /-- The stop of R274 has taken the task's last strobe. -/
  ended    : Bool := false
  /-- Run-ahead window (R88): cycles, squashed and committed groups, cycles of suspension left. -/
  raCycles : Nat := 0
  raSquashed : Nat := 0
  raCommitted : Nat := 0
  raSuspended : Nat := 0
  deriving DecidableEq, Repr

/-- The fabric: lamps, galleries, shared store and tasks. -/
structure Fabric where
  /-- Lamp 32 × gallery + 2 × physical range + lamp. -/
  lamps   : Tab Lamp := []
  gal     : Tab Gallery := []
  slots   : Tab Slot := []
  blocks  : Tab TcBlock := []
  frt     : Tab Frt := []
  /-- Global memory, 8 MiB, by offset from 0x0100_0000. -/
  gmem    : Tab Byte := []
  /-- Exchange pages as last committed, by the key of `PageUse` (R69). -/
  exPub   : Tab Byte := []
  /-- The output image as committed, before forcing. -/
  outImg  : Tab Byte := []
  tasks   : Tab Task := []
  /-- Error marks of memory words (R116 to R118). -/
  ecc     : Tab EccMark := []
  icxFail : Bool := false
  icxActive : Bool := true
  /-- Automatic restarts of each sector, newest first, by sector (R191). -/
  autoRestarts : Tab (List Nat) := []
  /-- The forcing table (R275 to R278). -/
  forces  : List ForcePoint := []
  /-- This is the copy a shadow runs on (R249), and the trap its run has met: reason, task and cycle. -/
  isShadow : Bool := false
  shTrap  : Option (Nat × Nat × Nat) := none
  deriving DecidableEq, Repr

end Sys2Proof.Machine
end

