-- ==== Sys2Proof/Syntax/ImageIo.lean ====
section
/-!
DEFINITION. The settings a program image gives the field I/O: digital inputs and outputs (chapter 11), the reflex
network (chapter 6), current loops (12), CAN ports (14), Beam connections (15) and the twin (8).
-/
namespace Sys2Proof

/-- Combine rule of a DI decision or pair value (R214). -/
inductive DiRule where
  | principal | conj | disj | agree
  deriving DecidableEq, Repr

/-- Combine rule of a loop input value (R214). -/
inductive LoopRule where
  | principal | low | high | mean
  deriving DecidableEq, Repr

/-- Combine rule of a CAN message or Beam connection (R214). -/
inductive ItemRule where
  | newest | principal
  deriving DecidableEq, Repr

/-- Settings of one digital input (DIN_DEB_n). -/
structure DiChCfg where
  deb   : Nat := 0
  tpEn  : Bool := false
  tpSrc : Nat := 0
  /-- Twin combine rule of the decision (R214). -/
  rule  : DiRule := .agree
  deriving DecidableEq, Repr

/-- Settings of one test-pulse source (DIN_TP_s): WIDTH in µs, PERIOD in ms (R287). -/
structure TpCfg where
  en     : Bool := false
  width  : Nat := 0
  period : Nat := 0
  deriving DecidableEq, Repr

/-- Settings of one dual-channel pair (DIN_PAIR_k); `tDisc` in µs. -/
structure PairCfg where
  en        : Bool := false
  anti      : Bool := false
  autoClear : Bool := false
  tDisc     : Nat := 0
  deriving DecidableEq, Repr

/-- Test settings of one digital output (DOUT_CH_n): `period` in units of 100 ms. -/
structure DoChCfg where
  olEn    : Bool := false
  darkEn  : Bool := false
  pulseUs : Nat := 0
  period  : Nat := 0
  deriving DecidableEq, Repr

/-- Digital I/O settings of an image. -/
structure DioCfg where
  di    : Tab DiChCfg := []
  tp    : Tab TpCfg := []
  pairs : Tab PairCfg := []
  dout  : Tab DoChCfg := []
  /-- DOUT_CFG.STUCK_FILTER in µs and CUT_TEST_PERIOD in hours. -/
  stuckFilter : Nat := 100
  cutPeriod   : Nat := 8
  deriving DecidableEq, Repr

/-- One reflex cell: its four selectors and its truth table (R161). -/
structure RfxCell where
  sel0  : Nat := 0
  sel1  : Nat := 0
  sel2  : Nat := 0
  sel3  : Nat := 0
  truth : BitVec 16 := 0
  deriving DecidableEq, Repr

/-- The reflex configuration of an image (R177). -/
structure RfxCfg where
  /-- CRC-32 of the configuration, as the image states it. -/
  id     : Word := 0
  cells  : Tab RfxCell := []
  /-- Tap t: byte offset in the output image and bit. -/
  taps   : Tab (Option (Nat × Nat)) := []
  offCell : Tab (Option Nat) := []
  onCell  : Tab (Option Nat) := []
  /-- Safe values of the reflex-request bits. -/
  safe   : BitVec 64 := 0
  deriving DecidableEq, Repr

/-- Settings of one loop input (ALP_LI_CFG_n, R_LOOP, HART_PERIOD). `utMin` in 0.1 V, `rLoop` in ohm,
`hartPeriod` in units of 100 ms, `band` in µA. -/
structure LoopInCfg where
  supplyEn : Bool := false
  namurEn  : Bool := false
  hartEn   : Bool := false
  filter5  : Bool := false
  namurFilter : Nat := 0
  utMin    : Nat := 0
  rLoop    : Nat := 0
  hartPeriod : Nat := 0
  rule     : LoopRule := .principal
  band     : Nat := 200
  deriving DecidableEq, Repr

/-- Settings of one loop output (ALP_LO_CFG_n); `rbTol` in µA. -/
structure LoopOutCfg where
  failOnComp : Bool := false
  /-- SAFE_MA: true is 3.6 mA. -/
  safe36 : Bool := false
  rbTol  : Nat := 100
  deriving DecidableEq, Repr

/-- Loop settings of an image. -/
structure LoopCfg where
  ins  : Tab LoopInCfg := []
  outs : Tab LoopOutCfg := []
  deriving DecidableEq, Repr

/-- An acceptance filter (R345). `action`: 0 REJECT, 1 SLOT, 2 FIFO. -/
structure CanFlt where
  en      : Bool := false
  ide     : Bool := false
  id      : Nat := 0
  mask    : Nat := 0
  format  : Nat := 0
  action  : Nat := 0
  prio    : Nat := 0
  /-- Receive slot offset from 0x0_1000 in 16-byte units. -/
  slot    : Nat := 0
  /-- RX_TIMEOUT in ms, 0 for none (R348). -/
  timeout : Nat := 0
  rule    : ItemRule := .newest
  deriving DecidableEq, Repr

/-- A transmit buffer (R352). -/
structure CanTxb where
  en      : Bool := false
  ide     : Bool := false
  id      : Nat := 0
  fdf     : Bool := false
  brs     : Bool := false
  request : Bool := false
  divi    : Nat := 0
  /-- Transmit entry offset from 0x1_1000 in 16-byte units. -/
  map     : Nat := 0
  deriving DecidableEq, Repr

/-- Settings of one CAN port. -/
structure CanCfg where
  fdEn    : Bool := false
  listen  : Bool := false
  shared  : Bool := false
  termEn  : Bool := false
  cmdEn   : Bool := false
  boAuto  : Bool := false
  fifoTask : Option Nat := none
  /-- FIFO window offset from 0x0_1000. -/
  fifoOff : Nat := 0
  boDelay : Nat := 0
  triple  : Bool := false
  sjw : Nat := 0
  tseg2 : Nat := 0
  tseg1 : Nat := 0
  brp : Nat := 0
  dsjw : Nat := 0
  dtseg2 : Nat := 0
  dtseg1 : Nat := 0
  dbrp : Nat := 0
  tdcEn : Bool := false
  tdco : Nat := 0
  /-- Declared bit rates in bit/s (R342). -/
  rate : Nat := 0
  drate : Nat := 0
  flts : Tab CanFlt := []
  txbs : Tab CanTxb := []
  deriving DecidableEq, Repr

/-- Twin settings of an image (TWN_CONFIG, TWN_NODES). `startupWait` in units of 100 ms, `xcutFilter` in µs. -/
structure TwinCfg where
  en : Bool := false
  autoRejoin : Bool := false
  startupWait : Nat := 0
  xcutFilter : Nat := 100
  partnerNode : Nat := 0
  twinNode : Nat := 0
  deriving DecidableEq, Repr

end Sys2Proof
end

