-- ==== Sys2Proof/Syntax/Program.lean ====
section
/-!
DEFINITION. The whole program image as the loader sees it, and the delta image of an online edit (chapter 9).
-/
namespace Sys2Proof

/-- A Beam receive connection of an image (chapter 15). Times in µs. -/
structure BeamRxCfg where
  en      : Bool := false
  /-- Source node and connection number. -/
  node    : Nat := 0
  conn    : Nat := 0
  cls     : Nat := 0
  len     : Nat := 0
  /-- Receive area offset in the input image. -/
  off     : Nat := 0
  timeout : Nat := 0
  /-- AGE_LIMIT in µs (R382). -/
  ageLimit : Nat := 0
  /-- Combine rule in a twin (R214). -/
  rule    : ItemRule := .newest
  /-- SAFETY_ID (R375). -/
  safety  : Word := 0
  deriving DecidableEq, Repr

/-- A Beam transmit connection of an image (chapter 15). -/
structure BeamTxCfg where
  en    : Bool := false
  conn  : Nat := 0
  cls   : Nat := 0
  len   : Nat := 0
  /-- Transmit area offset in the output image. -/
  off   : Nat := 0
  task  : Nat := 0
  divi  : Nat := 1
  dest  : Word := 0
  /-- A twin connection (R226). -/
  twin  : Bool := false
  /-- Safe payload (R380). -/
  safe  : List Byte := []
  /-- SAFETY_ID (R375). -/
  safety : Word := 0
  deriving DecidableEq, Repr

/-- A program image, decoded. -/
structure ProgImage where
  /-- Image identity, the hash of the image, as a number. -/
  id      : Nat
  start   : StartKind := .stop
  tasks   : Tab TaskCfg := []
  /-- The chart: rung groups of each task, in chart order. -/
  chart   : Tab (List GroupCfg) := []
  slots   : List SlotCfg := []
  gal     : Tab GalleryCfg := []
  timers  : Tab TimerCfg := []
  gmem    : Tab Byte := []
  /-- Use of the 256-byte pages: page p of gallery g's data at 2,048 × g + p, page p of global memory at 65,536 + p,
  page p of the timer/counter blocks (blocks 16p to 16p + 15) at 131,072 + p (R67, R103). -/
  pages   : Tab PageUse := []
  /-- Binding of legacy timer j of task k, at 256 × k + j, to a block (R124). -/
  legacyTimers : Tab (Option Nat) := []
  /-- The task each free-running timer is assigned to (R110). -/
  frt     : Tab (Option Nat) := []
  outOwners : List OutOwner := []
  /-- Safe values of output-image bytes (R52). -/
  safeOut : Tab Byte := []
  /-- Retain layout identity and the retain ranges of D-space: address and length (R59). -/
  layout  : Nat := 0
  retain  : List (Nat × Nat) := []
  dio     : DioCfg := {}
  rfx     : Option RfxCfg := none
  loop    : LoopCfg := {}
  can     : Tab (Option CanCfg) := []
  beamRx  : Tab BeamRxCfg := []
  beamTx  : Tab BeamTxCfg := []
  twin    : TwinCfg := {}
  /-- RATE and BURST of recorder codes (R520). -/
  limits  : List (Nat × Nat × Nat) := []
  /-- SNAP_PERIOD in s and SNAP_VITAL (R515). -/
  snapPeriod : Nat := 0
  snapVital  : Bool := false
  deriving DecidableEq, Repr

/-- What the loader makes of a transferred program image: refused for its signature or its format, with check class, byte
offset of the failing item, cause and signer, or decoded; `off` is then the byte offset of the first item that fails a
later check, if one does. -/
inductive Loaded where
  | bad (cls off cause signer : Nat)
  | good (p : ProgImage) (off signer : Nat)
  deriving DecidableEq, Repr

/-- State-mapping entries of a delta (R247). -/
inductive MapEnt where
  | move (old new len : Nat)
  | initAt (addr : Nat) (bytes : List Byte)
  | blockPreset (b : Nat) (preset : Word)
  | blockInit (b : Nat) (cfg : TimerCfg)
  | slotInit (slot : Nat) (value : Word)
  | dropMem (addr len : Nat)
  | dropBlock (b : Nat)
  | dropSlot (slot : Nat)
  deriving DecidableEq, Repr

/-- A run of the expected-change mask: output-image byte offset, byte count, bit mask of every byte (R245). -/
structure MaskRun where
  off  : Nat
  len  : Nat
  bits : Byte
  deriving DecidableEq, Repr

/-- A shadow placement: for each affected task its groups as placed, and the ranges (gallery, range) it needs. -/
structure Placement where
  chart  : Tab (List GroupCfg) := []
  ranges : List (Nat × Nat) := []
  /-- Galleries a GALLERY placement names. -/
  gals   : List Nat := []
  deriving DecidableEq, Repr

/-- A delta image, decoded: its parts and the program that results from applying it. -/
structure Delta where
  base     : Nat
  serial   : Nat
  stopEdit : Bool
  cutAuto  : Bool
  n        : Nat
  affected : List Nat
  /-- The resulting program. -/
  image    : ProgImage
  spare    : Option Placement := none
  gallery  : Option Placement := none
  /-- The delta carries a new reflex configuration. -/
  rfxChange : Bool := false
  map      : List MapEnt := []
  mask     : List MaskRun := []
  rfxMask  : BitVec 64 := 0
  /-- Worst case in fc of the first new cycle of each affected task, without its mapping, as Octok gives it (R257). -/
  worst    : Tab Nat := []
  deriving DecidableEq, Repr

/-- What the module makes of a transferred delta: refused for its signature (`sig`) or its format, with serial, cause and
signer, or decoded. -/
inductive DeltaIn where
  | bad (sig : Bool) (serial cause signer : Nat)
  | good (d : Delta) (signer : Nat)
  deriving DecidableEq, Repr

/-- A message of the twin mailbox (R442; assumption log, entry 23): a command passed on, with the image or the delta of a
load, the answer to one by its tag and opcode, and the declaration of its instant. -/
inductive TwinMsg where
  | command (q : Req)
  | load (q : Req) (x : Loaded)
  | edit (q : Req) (d : Delta) (host signer : Nat)
  | answer (op tag rc : Nat)
  | declare (q : Req) (ts : Nat)
  deriving DecidableEq, Repr

/-- Proof traffic of the twin (R250, R252): the CRC of a task's owned bytes in a cycle, the assistant's judgement of it, and
a failed proof. -/
inductive ProofMsg where
  | crc (k cycle crc : Nat)
  | verdict (k cycle : Nat) (equal : Bool)
  | failed
  deriving DecidableEq, Repr

end Sys2Proof
end

