-- ==== Sys2Proof/Syntax/Parts.lean ====
section
/-!
DEFINITION. What twin-link frames of a rejoin and of STATUS carry (R212, R224, R238 to R241).
-/
namespace Sys2Proof

/-- One piece of a principal's state (R239): a page of 256 bytes by its key (R67), an exchange page as committed, a
timer/counter block, a slot with its metadata, bytes of the output image, a task with its status, the forcing table,
SEQ_BASE of a transmit connection, the twin epoch (R484). -/
inductive RejoinItem where
  | line (key : Nat) (data : List Byte)
  | exchange (key : Nat) (data : List Byte)
  | block (b : Nat) (c : Machine.TcBlock)
  | slot (n : Nat) (c : Machine.Slot)
  | outs (bytes : List (Nat × Byte))
  | task (k : Nat) (t : Machine.Task)
  | forces (l : List Machine.ForcePoint)
  | seqBase (c n : Nat)
  | epoch (e : Nat)
  deriving DecidableEq, Repr

/-- REJOIN_CTRL (R238 to R241): an attempt begins, a pass has ended with its page list, T_join, T_assist, an attempt has
failed with its RESULT code. -/
inductive RejoinMsg where
  | start
  | progress (pass dirty : Nat) (pages : List Nat)
  | join (ts : Nat)
  | assist (ts : Nat)
  | failed (result : Nat)
  deriving DecidableEq, Repr

/-- What the comparison at a rejoin start finds (R238): all identities equal, another protocol version, or another image
with what the loader makes of the one the principal sends. -/
inductive RejoinCmp where
  | same
  | protocol
  | image (x : Loaded)
  deriving DecidableEq, Repr

/-- A STATUS frame as taken (R207, R212, R224): the sender's role, modes and ROLE_EPOCH with the TS64 at which it began,
the selected reference of its time unit, the offset partner minus own and the path time that the exchange of TS64 gives,
and announced pulses as channel and TS64 of the end. -/
structure TwinStatus where
  role    : Nat := 0
  exec    : Nat := 0
  power   : Nat := 0
  epoch   : Nat := 0
  epochTs : Nat := 0
  sel     : Nat := 3
  off     : Int := 0
  path    : Nat := 0
  ann     : List (Nat × Nat) := []
  deriving DecidableEq, Repr

end Sys2Proof
end

