-- ==== Sys2Proof/Syntax.lean ====
section
/-!
DEFINITION. The commands of the module: one constructor per row of the opcode table, with the facts each carries.
-/
namespace Sys2Proof

/-- The commands: lamp instructions, events of the module's own engines and of the field, and keeper commands. -/
inductive Instr where
  /-- Lamp adds two registers into rd, wrapping modulo 2^32 (R132). -/
  | add (o : LampOp) (rd rs1 rs2 : Reg)
  /-- Lamp subtracts rs2 from rs1 into rd (R132). -/
  | sub (o : LampOp) (rd rs1 rs2 : Reg)
  /-- Lamp writes the bitwise AND of two registers to rd (R132). -/
  | and (o : LampOp) (rd rs1 rs2 : Reg)
  /-- Lamp writes the bitwise OR of two registers to rd (R132). -/
  | or (o : LampOp) (rd rs1 rs2 : Reg)
  /-- Lamp writes the bitwise XOR of two registers to rd (R132). -/
  | xor (o : LampOp) (rd rs1 rs2 : Reg)
  /-- Lamp writes the bitwise NOR of two registers to rd (R132). -/
  | nor (o : LampOp) (rd rs1 rs2 : Reg)
  /-- Lamp sets rd to 1 when rs1 is less than rs2 as signed values (R132). -/
  | slt (o : LampOp) (rd rs1 rs2 : Reg)
  /-- Lamp sets rd to 1 when rs1 is less than rs2 as unsigned values (R132). -/
  | sltu (o : LampOp) (rd rs1 rs2 : Reg)
  /-- Lamp shifts rs1 left by rs2[4:0] into rd (R132). -/
  | sll (o : LampOp) (rd rs1 rs2 : Reg)
  /-- Lamp shifts rs1 right with zero fill by rs2[4:0] into rd (R132). -/
  | srl (o : LampOp) (rd rs1 rs2 : Reg)
  /-- Lamp shifts rs1 right with sign fill by rs2[4:0] into rd (R132). -/
  | sra (o : LampOp) (rd rs1 rs2 : Reg)
  /-- Lamp counts the leading zero bits of rs1 into rd (R132). -/
  | clz (o : LampOp) (rd rs1 : Reg)
  /-- Lamp copies lk into rd (R132). -/
  | mflk (o : LampOp) (rd : Reg)
  /-- Lamp copies rs1 into lk (R132). -/
  | mtlk (o : LampOp) (rs1 : Reg)
  /-- Lamp adds a sign-extended immediate to rs1 into rd (R132). -/
  | addi (o : LampOp) (rd rs1 : Reg) (imm : BitVec 16)
  /-- Lamp ANDs rs1 with a zero-extended immediate into rd (R132). -/
  | andi (o : LampOp) (rd rs1 : Reg) (imm : BitVec 16)
  /-- Lamp ORs rs1 with a zero-extended immediate into rd (R132). -/
  | ori (o : LampOp) (rd rs1 : Reg) (imm : BitVec 16)
  /-- Lamp XORs rs1 with a zero-extended immediate into rd (R132). -/
  | xori (o : LampOp) (rd rs1 : Reg) (imm : BitVec 16)
  /-- Lamp compares rs1 with a sign-extended immediate as signed values (R132). -/
  | slti (o : LampOp) (rd rs1 : Reg) (imm : BitVec 16)
  /-- Lamp compares rs1 with a sign-extended immediate as unsigned values (R132). -/
  | sltiu (o : LampOp) (rd rs1 : Reg) (imm : BitVec 16)
  /-- Lamp loads the immediate times 65,536 into rd (R132). -/
  | lui (o : LampOp) (rd : Reg) (imm : BitVec 16)
  /-- Lamp shifts rs1 left by an immediate amount (R132). -/
  | slli (o : LampOp) (rd rs1 : Reg) (sh : BitVec 5)
  /-- Lamp shifts rs1 right logically by an immediate amount (R132). -/
  | srli (o : LampOp) (rd rs1 : Reg) (sh : BitVec 5)
  /-- Lamp shifts rs1 right arithmetically by an immediate amount (R132). -/
  | srai (o : LampOp) (rd rs1 : Reg) (sh : BitVec 5)
  /-- Lamp writes the low 32 bits of the product to rd (R133). -/
  | mul (o : LampOp) (rd rs1 rs2 : Reg)
  /-- Lamp writes the high 32 bits of the signed product to rd (R133). -/
  | mulh (o : LampOp) (rd rs1 rs2 : Reg)
  /-- Lamp writes the high 32 bits of the unsigned product to rd (R133). -/
  | mulhu (o : LampOp) (rd rs1 rs2 : Reg)
  /-- Lamp divides signed values in a data-dependent time, trapping DIV_ZERO on a zero divisor (R133). -/
  | div (o : LampOp) (rd rs1 rs2 : Reg)
  /-- Lamp divides unsigned values, trapping DIV_ZERO on a zero divisor (R133). -/
  | divu (o : LampOp) (rd rs1 rs2 : Reg)
  /-- Lamp writes the signed remainder to rd (R133). -/
  | rem (o : LampOp) (rd rs1 rs2 : Reg)
  /-- Lamp writes the unsigned remainder to rd (R133). -/
  | remu (o : LampOp) (rd rs1 rs2 : Reg)
  /-- Lamp extracts a bit field of rs1 zero-extended into rd (R134). -/
  | extr (o : LampOp) (rd rs1 : Reg) (pos lenm1 : BitVec 5)
  /-- Lamp extracts a bit field of rs1 sign-extended into rd (R134). -/
  | extrs (o : LampOp) (rd rs1 : Reg) (pos lenm1 : BitVec 5)
  /-- Lamp inserts the low bits of rs1 into a field of rd (R134). -/
  | insr (o : LampOp) (rd rs1 : Reg) (pos lenm1 : BitVec 5)
  /-- Lamp builds rd byte by byte from rs1 and old rd under a selector (R135). -/
  | perm (o : LampOp) (rd rs1 : Reg) (sel : BitVec 16)
  /-- Lamp loads a zero-extended D-space byte (R136). -/
  | ldb (o : LampOp) (rd rs1 : Reg) (imm : BitVec 16)
  /-- Lamp loads a zero-extended D-space half-word (R136). -/
  | ldh (o : LampOp) (rd rs1 : Reg) (imm : BitVec 16)
  /-- Lamp loads a D-space word (R136). -/
  | ldw (o : LampOp) (rd rs1 : Reg) (imm : BitVec 16)
  /-- Lamp stores a byte to D-space (R136). -/
  | stb (o : LampOp) (rs2 rs1 : Reg) (imm : BitVec 16)
  /-- Lamp stores a half-word to D-space (R136). -/
  | sth (o : LampOp) (rs2 rs1 : Reg) (imm : BitVec 16)
  /-- Lamp stores a word to D-space, replacing an uncorrectable word (R136). -/
  | stw (o : LampOp) (rs2 rs1 : Reg) (imm : BitVec 16)
  /-- Lamp reads a zero-extended IO-space byte (R136). -/
  | inb (o : LampOp) (rd rs1 : Reg) (imm : BitVec 16)
  /-- Lamp reads an IO-space half-word, or a legacy word through the legacy window (R136). -/
  | inh (o : LampOp) (rd rs1 : Reg) (imm : BitVec 16)
  /-- Lamp reads an IO-space word, a slot read under R71 in slot space (R136). -/
  | inw (o : LampOp) (rd rs1 : Reg) (imm : BitVec 16)
  /-- Lamp writes an IO-space byte (R136). -/
  | outb (o : LampOp) (rs2 rs1 : Reg) (imm : BitVec 16)
  /-- Lamp writes an IO-space half-word, or a legacy word into the legacy shadow (R136). -/
  | outh (o : LampOp) (rs2 rs1 : Reg) (imm : BitVec 16)
  /-- Lamp writes an IO-space word (R136). -/
  | outw (o : LampOp) (rs2 rs1 : Reg) (imm : BitVec 16)
  /-- Lamp reads one image bit into rd[0] (R138). -/
  | inbit (o : LampOp) (rd rs1 : Reg) (bit : BitVec 4) (off : BitVec 12)
  /-- Lamp writes rs2[0] to one image bit (R138). -/
  | outbit (o : LampOp) (rs2 rs1 : Reg) (bit : BitVec 4) (off : BitVec 12)
  /-- Rung read loads an IO-space or register bit into ba (R140). -/
  | ld (o : LampOp) (b : RungBit)
  /-- Rung read loads the inverse of a bit into ba (R140). -/
  | ldn (o : LampOp) (b : RungBit)
  /-- Rung read ANDs a bit into ba (R140). -/
  | rungAnd (o : LampOp) (b : RungBit)
  /-- Rung read ANDs the inverse of a bit into ba (R140). -/
  | andn (o : LampOp) (b : RungBit)
  /-- Rung read ORs a bit into ba (R140). -/
  | rungOr (o : LampOp) (b : RungBit)
  /-- Rung read ORs the inverse of a bit into ba (R140). -/
  | orn (o : LampOp) (b : RungBit)
  /-- Rung read XORs a bit into ba (R140). -/
  | rungXor (o : LampOp) (b : RungBit)
  /-- Rung write sets the target bit to ba (R143). -/
  | coil (o : LampOp) (b : RungBit)
  /-- Rung write sets the target bit to 1 when ba is 1 (R143). -/
  | set (o : LampOp) (b : RungBit)
  /-- Rung write clears the target bit when ba is 1 (R143). -/
  | rst (o : LampOp) (b : RungBit)
  /-- Lamp pushes ba onto the bit stack (R144). -/
  | bpush (o : LampOp) (mode : BitVec 2)
  /-- Lamp pops the bit stack into ba by LD, AND or OR mode (R144). -/
  | bpop (o : LampOp) (mode : BitVec 2)
  /-- Lamp reports a rising edge against a previous-state bit and updates it (R145). -/
  | edgep (o : LampOp) (rs1 : Reg) (bit : BitVec 5) (off : BitVec 16)
  /-- Lamp reports a falling edge against a previous-state bit and updates it (R145). -/
  | edgen (o : LampOp) (rs1 : Reg) (bit : BitVec 5) (off : BitVec 16)
  /-- Lamp evaluates an on-delay timer block after its time step (R150). -/
  | ton (o : LampOp) (rs1 : Reg) (blk : BitVec 12)
  /-- Lamp evaluates an off-delay timer block after its time step (R151). -/
  | tof (o : LampOp) (rs1 : Reg) (blk : BitVec 12)
  /-- Lamp evaluates a pulse timer block after its time step (R152). -/
  | tp (o : LampOp) (rs1 : Reg) (blk : BitVec 12)
  /-- Lamp evaluates an up counter block (R153). -/
  | ctu (o : LampOp) (rs1 : Reg) (blk : BitVec 12)
  /-- Lamp evaluates a down counter block (R153). -/
  | ctd (o : LampOp) (rs1 : Reg) (blk : BitVec 12)
  /-- Lamp reads a signal slot at its required version, stalling while the version precedes it (R155). -/
  | swait (o : LampOp) (rd rs1 : Reg) (imm : BitVec 16)
  /-- Lamp requests a publish of a signal slot under R72 (R155). -/
  | spub (o : LampOp) (rs2 rs1 : Reg) (imm : BitVec 16)
  /-- Lamp jumps relative to its address (R159). -/
  | j (o : LampOp) (off : BitVec 26)
  /-- Lamp writes lk and jumps relative to its address (R159). -/
  | jal (o : LampOp) (off : BitVec 26)
  /-- Lamp jumps to the address in rs1 (R159). -/
  | jr (o : LampOp) (rs1 : Reg)
  /-- Lamp writes lk and jumps to the address in rs1 (R159). -/
  | jalr (o : LampOp) (rs1 : Reg)
  /-- Lamp jumps to lk (R159). -/
  | ret (o : LampOp)
  /-- Lamp jumps to the old lk and writes lk with the next address (R159). -/
  | jrThroughLkWithLink (o : LampOp)
  /-- Lamp branches when the registers are equal (R159). -/
  | beq (o : LampOp) (rs1 rs2 : Reg) (off : BitVec 16)
  /-- Lamp branches when the registers differ (R159). -/
  | bne (o : LampOp) (rs1 rs2 : Reg) (off : BitVec 16)
  /-- Lamp branches when rs1 is less than rs2, signed (R159). -/
  | blt (o : LampOp) (rs1 rs2 : Reg) (off : BitVec 16)
  /-- Lamp branches when rs1 is at least rs2, signed (R159). -/
  | bge (o : LampOp) (rs1 rs2 : Reg) (off : BitVec 16)
  /-- Lamp branches when rs1 is less than rs2, unsigned (R159). -/
  | bltu (o : LampOp) (rs1 rs2 : Reg) (off : BitVec 16)
  /-- Lamp branches when rs1 is at least rs2, unsigned (R159). -/
  | bgeu (o : LampOp) (rs1 rs2 : Reg) (off : BitVec 16)
  /-- Lamp waits until every earlier store is visible (R157). -/
  | fence (o : LampOp)
  /-- Lamp issues nothing for n + 1 fc (R157). -/
  | yield (o : LampOp) (n : BitVec 8)
  /-- Lamp ends its rung group, performing implicit reads and publishes and, at the task's last group, the legacy
  merge (R73). -/
  | gend (o : LampOp)
  /-- Lamp raises the USER trap with its 16-bit code (R157). -/
  | trap (o : LampOp) (code : BitVec 16)
  /-- A lamp stalled in a slot read resumes once the awaited version is published (R75). -/
  | slotReadResume (i fc : Nat)
  /-- A pending SPUB issues once stores are visible and the version and QUOTA conditions hold, writing the slot
  (R156). -/
  | spubIssue (i fc : Nat)
  /-- A FENCE waiting on store visibility completes (R157). -/
  | fenceComplete (i : Nat)
  /-- A cyclic task reaches its grid instant and runs its IN phase, releasing its ranges (R40). -/
  | scheduledInstant (k : Nat)
  /-- A trigger starts an event-task cycle, or is held or lost while a cycle runs (R46). -/
  | eventTrigger (k : Nat)
  /-- In a twin the agreement deadline passes and the agreed image is formed, INCOMPLETE if partner frames are
  missing (R213). -/
  | agreementDeadline (k : Nat)
  /-- The last GEND of the task's chart completes and OUT staging begins (R42). -/
  | logicEnd (k t : Nat)
  /-- At the digest deadline or when both digests are present, each module decides the digest outcome (R218). -/
  | digestDeadline (k : Nat)
  /-- The strobe commits DO and AO commands, reflex requests, event requests and releases CAN and Beam frames (R43).
  -/
  | outputStrobe (k : Nat) (line drv : Word) (clamps : List (Nat × Nat)) (bad : List Nat)
  /-- A non-vital cyclic task passes its logic deadline and its cycle is stretched (R49). -/
  | logicDeadline (k : Nat)
  /-- After a stretched strobe the next cycle starts late, skipping grid instants (R50). -/
  | lateCycleStart (k : Nat)
  /-- A vital task passes WATCHDOG and its sector goes to the safe state (R52). -/
  | taskWdgVital (k : Nat)
  /-- A non-vital task passes WATCHDOG and is stopped with its points at safe values (R53). -/
  | taskWdgNonvital (k : Nat)
  /-- An idle range begins a rung group of the next cycle speculatively (R79). -/
  | speculativeStart (i : Nat)
  /-- Validation checks a speculative group's read set against the real view and commits or squashes it (R85). -/
  | validateGroup (i : Nat)
  /-- A committed store-buffer entry drains to its target (R86). -/
  | storeBufferDrain (i : Nat)
  /-- At the end of a 64-cycle window with more squashes than commits, run-ahead is suspended (R88). -/
  | raSuspended (k : Nat)
  /-- After 256 suspended cycles run-ahead resumes (R88). -/
  | raResumed (k : Nat)
  /-- The compare finds a mismatch, stopping the sector and starting LBIST (R186). -/
  | lockstepMismatch (g r code : Nat) (main chk : Word)
  /-- An LBIST run completes and decides the range's state and placement (R190). -/
  | lbistResult (g r : Nat) (p0 p1 : Bool)
  /-- A split of a range completes after drain and scratch zeroing (R198). -/
  | rangeSplit (g r d : Nat)
  /-- A join completes after its warm compare without mismatch (R199). -/
  | rangeJoined (g r d : Nat)
  /-- A warm compare finds a mismatch and LBIST follows (R199). -/
  | joinFailed (g r code : Nat) (main chk : Word) (fc : Nat)
  /-- A snapshot request stalls the main lamp 12 fc while its registers are read (R195). -/
  | observationStall (bad : Bool)
  /-- A gallery idle for 100 ms passes through DRAINING to OFF (R92). -/
  | gallerySleep (g : Nat)
  /-- A wake trigger brings a gallery domain to ON and starts memory initialization and LBIST (R93). -/
  | galleryWake (g us : Nat)
  /-- Gallery memory initialization completes and ranges may execute (R93). -/
  | memReady (g : Nat)
  /-- A gallery supply fails and its sector goes to the safe state (R94). -/
  | galleryPowerFault (g : Nat)
  /-- The interconnect checker finds a fault and the supervisor takes the module safe (R95). -/
  | interconnectFault (data : Bool)
  /-- The scrubber reads one memory line, correcting single-bit errors (R118). -/
  | scrubLine (mem g off : Nat) (mark : EccMark)
  /-- A write of CLEAR sets a free-running timer's count to 0 (R110). -/
  | frtClear (k : Nat)
  /-- A write of RUN starts or holds a free-running timer (R110). -/
  | frtRun (k : Nat) (run : Bool)
  /-- A write of word 0 of a mailbox direction copies the message atomically, setting FULL or COLLISION (R416). -/
  | mbxWord0Write (m : Nat) (tk : Bool) (ws : List Word)
  /-- A lamp's write of RCTL_MBX_IN_ACK takes the inbound message or is ignored (R420). -/
  | mbxInAckWrite (g : Nat) (w : Word)
  /-- A keeper write of WDG_KICK restarts the watchdog or expires it on a wrong value (R535). -/
  | wdgKick (w : Word)
  /-- A read of a low word latches its high word for a coherent pair read (R390). -/
  | latchedLowRead (a : Nat)
  /-- A write to a register without behaviour of its own stores its writable fields (R7). -/
  | registerWrite (o : LampOp) (a : Nat) (v : Word)
  /-- A reflex source change reaches each affected DO latch exactly 60 fc later (R171). -/
  | reflexSourceChange
  /-- The two copies' terms differ and the channel is held off (R174). -/
  | reflexMismatch (offB onB : Word)
  /-- The buoy finds the two lanes different and holds the channel (R174). -/
  | reflexLaneMismatch (laneB : Word)
  /-- A background configuration compare pass ends with its CRC check (R175). -/
  | reflexCfgCheckPass (diff : Option Nat) (crcA crcB : Word)
  /-- A DI terminal crossing changes the bypass decision and starts the debounce count (R283). -/
  | bypassDecisionChange (n : Nat) (v : Bool)
  /-- The debounce count expires and the debounced decision takes the new value (R283). -/
  | debounceExpiry (n : Nat)
  /-- A DI group supply below 15.0 V for 1 ms sets MISSING (R285). -/
  | diSupplyMissing (g mv : Nat)
  /-- A DI group supply below 19.2 V for 1 ms sets LOW (R285). -/
  | diSupplyLow (g mv : Nat)
  /-- A DI group supply above its clear threshold for 1 ms clears LOW or MISSING (R285). -/
  | diSupplyOk (g mv : Nat)
  /-- A DI test-pulse source switches off at its scheduled TS64 instant, opening the test window (R287). -/
  | testPulseStart (k : Nat)
  /-- A DI test pulse ends after WIDTH_s and the source switches on (R287). -/
  | testPulseEnd (k : Nat) (samples : BitVec 64)
  /-- The test window ends and held decisions and counts resume (R288). -/
  | testWindowEnd (k : Nat)
  /-- A source terminal not below 5 V within 100 µs sets SRC_FAULT (R289). -/
  | diTpSourceFault (k mv : Nat)
  /-- A pair's discrepancy count reaches T_DISC and the pair faults (R290). -/
  | diPairFault (k : Nat)
  /-- A line energized against commanded 0 for STUCK_FILTER opens the group cut in a solo module (R294). -/
  | doStuckOn (n : Nat)
  /-- DRV at 0 against commanded 1 for 1 ms sets STUCK_OFF (R294). -/
  | doStuckOff (n : Nat)
  /-- A channel in current limit for 2 ms is switched off and latched SHORT (R295). -/
  | doShort (n : Nat) (temp : Bool)
  /-- A group above 4.0 A for 20 ms is latched OVERLOAD (R295). -/
  | doGroupOverload (g ma : Nat)
  /-- The buoy above 12.0 A for 20 ms latches its highest group (R295). -/
  | doBuoyOverload (ma : Nat) (mas : List Nat)
  /-- A periodic or requested open-load or dark test pulse begins (R297). -/
  | doTestPulseStart (n : Nat) (requested : Bool)
  /-- A DO test pulse ends after PULSE_US and its result is judged (R297). -/
  | doTestPulseEnd (n ma : Nat) (drv : Bool)
  /-- On-state current below 2 mA for 100 ms sets OPEN (R297). -/
  | doOnStateOpen (n ma : Nat)
  /-- A twin line energized against commanded 0 for XCUT_FILTER opens the group cut (R222). -/
  | xcutOpen (n us : Nat)
  /-- Every CUT_TEST_PERIOD hours in RUN a group cut test starts (R301). -/
  | cutTestPeriodic
  /-- A cut element opening of 100 µs ends and its current is judged (R301). -/
  | cutTestElementEnd (ua : Nat)
  /-- The 1 ms loop conversion windows close and values, NAMUR, starvation and AO readback are evaluated (R307). -/
  | loopWindowEnd (m : LoopSample)
  /-- A loop supply enters current limit (R311). -/
  | loopSupplyLimit (n us : Nat)
  /-- Headroom below 1.5 V for 10 measurements sets COMPLIANCE (R319). -/
  | aoCompliance (n hr : Nat)
  /-- Headroom at 2.0 V or more for 10 ms clears COMPLIANCE (R319). -/
  | aoComplianceCleared (n hr : Nat)
  /-- The HART master sends command 0 every 5 s in IDENTIFY (R314). -/
  | hartIdentifyPoll (n : Nat)
  /-- The HART master sends command 3 once per HART_PERIOD (R314). -/
  | hartCyclicPoll (n : Nat)
  /-- A HART response or burst frame is received and judged (R314). -/
  | hartResponse (n : Nat) (m : HartMsg)
  /-- A missing response is retried or the transaction fails, entering NO_RESPONSE after 3 (R314). -/
  | hartResponseTimeout (n : Nat)
  /-- The mate-detect contact is stable for 50 ms and authentication begins (R328). -/
  | buoyInserted (b : Nat)
  /-- Buoy authentication completes with success or failure (R328). -/
  | buoyAuthDone (b step typ rev serial : Nat) (cnt : List Nat)
  /-- 10 s after a failed authentication it is tried again (R328). -/
  | buoyAuthRetry (b : Nat)
  /-- The buoy echoes its settings CRC, enabling the field side or retrying (R336). -/
  | buoyCfgEcho (b : Nat) (want echo : Word)
  /-- A buoy's mate contact opens, invalidating inputs or failing owning sectors (R335). -/
  | buoyRemoved (b : Nat)
  /-- One buoy field feed falls below 15.0 V for 1 ms (R326). -/
  | buoyFeedLost (b : Nat) (fb : Bool) (mv : Nat)
  /-- A surge event of 1 J or more is absorbed and committed (R331). -/
  | buoySurge (b uj : Nat) (ch : Option Nat)
  /-- Every 60 s the buoy adds its temperature-weighted hours (R330). -/
  | buoyThoursUpdate (b : Nat) (t : Int)
  /-- Every 10 min the buoy commits its life counters (R331). -/
  | buoyCounterCommit (b : Nat)
  /-- Every hour the module mirrors each buoy's counters (R331). -/
  | buoyMirrorUpdate
  /-- A configured buoy's field connector is mated for 100 ms and the socket leaves EXCHANGE (R337). -/
  | buoyExchangeEnd (b : Nat)
  /-- A CAN frame becomes valid and the winning filter's action applies (R346). -/
  | canFrameReceived (n : Nat) (x : CanFrame) (remote : Bool)
  /-- A CAN transmission attempt ends successfully and a waiting frame becomes pending (R354). -/
  | canTxComplete (n b : Nat) (tdcv : Option Nat)
  /-- A transmission loses arbitration and waits for retry (R353). -/
  | canArbLost (n b : Nat)
  /-- A bus error updates TEC and REC, changing error state or entering bus-off (R357). -/
  | canBusError (n lec : Nat) (inData : Bool) (tec rc : Nat) (tx : Option Nat)
  /-- BO_DELAY after bus-off the automatic recovery sequence starts (R358). -/
  | canBusOffDelay (n : Nat)
  /-- Recovery completes and the port is error-active again (R358). -/
  | canBusOn (n : Nat)
  /-- A receive slot's RX_TIMEOUT passes and it becomes stale (R348). -/
  | canRxStale (n i : Nat)
  /-- An authenticated CAN command request is accepted or discarded (R429). -/
  | canCmdRequest (p : Nat) (h : Word) (args : List Word) (counter : Nat) (tagOk : Bool)
  /-- An Ethernet port gains link (R364). -/
  | netLinkUp (p : Nat)
  /-- An Ethernet port loses link (R365). -/
  | netLinkDown (p : Nat)
  /-- A received frame passes PRP discard and the firewall before any service (R367). -/
  | ethernetFrameReceived (p : Nat) (f : EthFrame)
  /-- Every 2 s PRP supervision frames are sent on both LANs (R364). -/
  | prpSupervisionSend
  /-- A Beam frame is judged and delivered or discarded (R382). -/
  | beamReceive (p : Nat) (f : BeamFrame)
  /-- No delivery for RX_TIMEOUT sets STALE (R384). -/
  | beamRxTimeout (c : Nat)
  /-- A class 3 frame not on the wire within 1 ms is discarded (R379). -/
  | beamTxLate
  /-- The diagnostic connection sends every 1 s and after a MOD_STATUS change (R381). -/
  | diagFrameSend
  /-- Every 250 µs a partner heartbeat is sent on each ECN port (R229). -/
  | partnerHeartbeatSend
  /-- A partner heartbeat updates visibility, PARTNER_CARRIES and silence decisions (R229). -/
  | partnerHeartbeatReceived (h : Heartbeat)
  /-- A TLS handshake completes and the session is bound to a mailbox (R421). -/
  | kapSessionOpen (id : Nat) (e : HsEnd)
  /-- A handshake not complete in 5 s is closed (R476). -/
  | handshakeTimeout (id : Nat)
  /-- After 2^24 records or 3,600 s a KeyUpdate is sent (R477). -/
  | kapKeyUpdate (id : Nat)
  /-- A session closes by idle, rekey limit or peer, retaining its mailbox for 60 s (R426). -/
  | kapSessionClose (id cause : Nat)
  /-- A 300 s bar on a source address ends (R478). -/
  | kapLockoutEnd (peer : Nat)
  /-- A retained mailbox unclaimed for 60 s is cleared and released (R426). -/
  | mailboxRetentionExpiry (m : Nat)
  /-- KAP record writing a request into the session's own mailbox (R416). -/
  | mbxWrite (id no : Nat) (ws : List Word)
  /-- KAP record reading the FK reply, or NOT_READY (R422). -/
  | mbxRead (id no : Nat)
  /-- KAP record consuming the held reply by TAG (R423). -/
  | mbxAck (id no : Nat) (w : Word)
  /-- KAP record returning the TK acknowledge and flags (R421). -/
  | ackRead (id no : Nat)
  /-- KAP record reading up to 256 registers of one window (R427). -/
  | regRead (id no a n : Nat)
  /-- KAP record claiming a retained mailbox (R426). -/
  | resume (id no m : Nat)
  /-- The keeper takes a TK message, acknowledging and queueing or refusing it (R424). -/
  | keeperTakeMessage (m : Nat)
  /-- Every 1 ms the keeper compares its view with the data path and corrects it (R433). -/
  | viewCheck
  /-- The keeper resumes after a restart, increments the epoch and fixes outstanding replies (R432). -/
  | keeperResume (digestOk : Bool)
  /-- A PTP message is received and the candidate's offset updated (R392). -/
  | ptpMessage (p : Nat) (m : PtpMsg)
  /-- A candidate stable for 2 s becomes qualified, possibly starting or re-targeting a switch (R393). -/
  | timeRefQualified (k : Nat)
  /-- A candidate's Announce or Sync timeout or jump disqualifies it (R393). -/
  | timeRefLost (k cause : Nat)
  /-- The offset to the target falls below 1 µs and it becomes selected (R396). -/
  | timeSwitchDone (off : Int)
  /-- The twin TS64 offset is 2 µs or more for 10 ms (R212). -/
  | timeOffsetHigh
  /-- A scheduled action reaches its set time and executes or is refused as PAST (R400). -/
  | scheduledAction
  /-- An RTC alarm matches at a second boundary and fires (R407). -/
  | rtcAlarm (k : Nat)
  /-- A pending sub-second shift is applied at the next second boundary (R408). -/
  | rtcShiftApply
  /-- Every 60 s while qualified the keeper corrects the RTC against TS64 (R408). -/
  | rtcKeeperCorrection
  /-- The backup domain switches to its supercapacitor or cell, storing the first instant (R409). -/
  | rtcBackupSwitch (sup : Nat)
  /-- The lithium cell reads below 2.6 V (R409). -/
  | rtcCellLow (mv : Nat)
  /-- The sync search confirms two further sync words and the link locks (R209). -/
  | twinLock (ns rejects proto : Nat)
  /-- Four consecutive misses put the link out of lock (R210). -/
  | twinLockLost
  /-- No valid frame for 8 frame times makes the link silent (R211). -/
  | twinSilence
  /-- The partner is invisible for 20 ms and its CARRY bits clear (R229). -/
  | partnerInvisible
  /-- A partner SNAPSHOT frame is received for a task's agreement (R213). -/
  | snapshotFrame (h : TwinHdr) (k idx : Nat) (last : Bool) (cycle t0 : Nat) (data : List Byte)
  /-- A partner DIGEST frame is received for comparison (R217). -/
  | digestFrame (h : TwinHdr) (k : Nat) (d : Digest)
  /-- A RELINQUISH frame is received with T_sw and answered by ROLE_ACK (R232). -/
  | relinquish (h : TwinHdr) (ts epoch : Nat)
  /-- A partner SECTOR_FAIL frame marks the partner absent for the sector's tasks (R233). -/
  | sectorFail (h : TwinHdr) (sec cause : Nat)
  /-- A ROLE_ACK frame stops the repetition of RELINQUISH (R232). -/
  | roleAck (h : TwinHdr) (ts epoch : Nat)
  /-- A REJOIN_CTRL frame carries rejoin phases, T_join and page lists (R240). -/
  | rejoinCtrl (h : TwinHdr) (m : RejoinMsg)
  /-- A twin MAILBOX frame passes a twin-wide command or declaration (R230). -/
  | mailbox (h : TwinHdr) (m : TwinMsg)
  /-- A REJOIN_DATA frame delivers 1,024 bytes of state (R239). -/
  | rejoinData (h : TwinHdr) (l : List RejoinItem)
  /-- A PROOF frame carries proof-run and edit traffic (R252). -/
  | proof (h : TwinHdr) (m : ProofMsg)
  /-- A STATUS frame updates partner role, offset and test-pulse announcements (R212). -/
  | status (h : TwinHdr) (x : TwinStatus)
  /-- The start-up search ends and the module takes its twin role (R231). -/
  | startupSearchEnd
  /-- At T_sw the module's twin role changes (R237). -/
  | roleChange
  /-- A rejoin begins by comparing image, reflex and protocol identities (R238). -/
  | rejoinStart (x : RejoinCmp)
  /-- Link in lock for 1 s with partner PRINCIPAL lets an ISOLATED module rejoin (R235). -/
  | isolatedRejoinReady
  /-- A rejoin copy or pass completes and the join criterion is checked (R239). -/
  | rejoinPassEnd (last : List (Nat × Nat))
  /-- At the join instant each task's state is captured for the rejoining module (R240). -/
  | tJoin
  /-- No join instant within 2 s or a failed check ends the attempt (R239). -/
  | rejoinFailed
  /-- 10 s after a failed attempt the rejoin is retried (R239). -/
  | rejoinRetry
  /-- At T_assist full agreement starts and the module becomes ASSISTANT at its strobe (R241). -/
  | tAssist
  /-- At T_start affected tasks are captured into the shadow and EXEC becomes PROOF (R251). -/
  | proofStart
  /-- A held verdict waits 600 s without a cut-over command and the edit is discarded (R255). -/
  | editExpired
  /-- At the strobe of cycle C the program changes over, banks swap and the shadow stops (R256). -/
  | tCut
  /-- The 60 s rollback period ends and the old program is freed (R259). -/
  | editCommitted
  /-- Each task commits its first strobe at or after T_stop and stops (R274). -/
  | tStopReached
  /-- All tasks stopped and the stop save done, EXEC becomes STOP (R274). -/
  | stopDone
  /-- A vital point forced for 8 h is released at the next cycle start (R277). -/
  | forceAutoRelease (k : Nat)
  /-- The logic supply becomes valid and the start-up sequence runs (R268). -/
  | powerUp (off : Nat) (lost brown supA supB : Bool)
  /-- The root PLL reports lock and the clocks start together (R13). -/
  | rootPllLock
  /-- No lock within 5 ms keeps the module in reset, retrying every 100 ms (R13). -/
  | pllLockTimeout
  /-- Recovery of interrupted commit sets completes and READY is set (R507). -/
  | nvmRecovered (fates : List (Option Bool)) (bad : List Nat)
  /-- Slot verification completes and the lamp room releases the keeper (R472). -/
  | bootVerified (sigA sigB : Option (Nat × Nat)) (ringOk : Bool) (tag : Option Word)
  /-- A module reset occurs with its recorded cause (R539). -/
  | moduleReset (cause : Nat)
  /-- 500 ms after the SAFE_RESET reply the module resets (R448). -/
  | safeResetDelay
  /-- A stopped or off-frequency clock is detected and the supervisor takes the module safe (R12). -/
  | clockFault (c : Nat)
  /-- The keeper checker detects a core-pair fault and the supervisor takes the module safe (R9). -/
  | keeperCoreFault
  /-- The RC oscillator fails the majority vote (R532). -/
  | rcFault (dev : Int) (stopped : Bool)
  /-- The watchdog expires, trapping the keeper and starting the hard timer (R536). -/
  | wdgExpired
  /-- 1.0 ms after expiry the hard timer resets the module (R536). -/
  | wdgHardReset
  /-- No watchdog clock edge for 50 µs trips the monitor (R537). -/
  | wdgClockStopped
  /-- A frequency-counter gate completes and its counts are shown (R533). -/
  | freqGateComplete (cnt ref : Word)
  /-- A feed below 50.4 V for 100 µs is lost, starting RIDE_THROUGH if it is the second (R540). -/
  | feedLost (b : Bool) (mv : Nat)
  /-- A feed in range for 1 ms becomes OK, ending RIDE_THROUGH if within 10 ms (R540). -/
  | feedRestored (b : Bool) (mv : Nat)
  /-- A feed exceeds 137.5 V (R540). -/
  | feedOvervolt (b : Bool) (mv : Nat)
  /-- Over-voltage beyond its time disconnects the feed input (R540). -/
  | feedOvervoltDisconnect (b : Bool) (mv : Nat)
  /-- 10 ms after both feeds are lost SAVING begins and the power-down sequence runs (R543). -/
  | savingStart
  /-- The power-down sequence completes and domains power down or the module resets (R544). -/
  | powerDownDone
  /-- The hold-up bank crosses 44.0 V or 43.0 V, setting or clearing HOLDUP_READY (R597). -/
  | holdupReadyChange (mv : Nat)
  /-- An NVM page commit completes and is read back, retried or failed (R502). -/
  | pageCommit (p : Nat) (ok : Bool)
  /-- The staging buffer is committed when its oldest record has waited 1 s (R518). -/
  | recorderFlush
  /-- At each 100 ms check a suppressed flood is summarised (R520). -/
  | evrSuppressed
  /-- SNAP_PERIOD passes and a retain snapshot is taken at the next consistent instant (R515). -/
  | periodicSnapshotDue
  /-- Every 600 s the operating-seconds counter is committed (R509). -/
  | operatingSCommit
  /-- A TRNG health test fails and the source restarts (R491). -/
  | trngFail (test : Nat)
  /-- Start-up tests pass after a failure and waiting requests are served (R491). -/
  | trngRestored
  /-- 50 ms after a failure waiting requests fail with ENTROPY_FAIL (R491). -/
  | trngHoldExpiry
  /-- Hourly or on temperature change every fuse word is read at three references (R494). -/
  | fuseRead (ws : List (Nat × Nat × List Word)) (temp : Int)
  /-- After 3,600 s on a new image the anti-rollback counters are burned (R473). -/
  | rollbackAdvanced
  /-- A lamp-room firmware fault restarts the lamp room within 100 ms (R489). -/
  | lampRoomRestart
  /-- When the trace buffer has room a LOSS entry is captured for earlier drops (R567). -/
  | watchLossEntry
  /-- A tag write trigger writes a region copy (R590). -/
  | tagRegionWrite (r : Nat)
  /-- An RF field appears at the tag, stopping a keeper write (R591). -/
  | tagRfField
  /-- Every 250 ms a deferred tag write is retried (R591). -/
  | tagWriteRetry (r : Nat)
  /-- Command returning MOD_MODE, MOD_STATUS, MOD_UNITS, epoch and TS64 (R21). -/
  | moduleStatus
  /-- Command returning the mode and forcing words (R23). -/
  | modeRead
  /-- Command returning identity and firmware registers (R22). -/
  | identityRead
  /-- Command reading up to 8 registers (R17). -/
  | registerRead
  /-- Command taking the module to SAFE (R266). -/
  | safe
  /-- Command clearing SAFE_LATCHED and resetting the module (R267). -/
  | safeReset
  /-- Command entering maintenance mode SERVICE (R279). -/
  | serviceEnter
  /-- Command leaving SERVICE (R279). -/
  | serviceLeave
  /-- Command restarting the keeper firmware (R432). -/
  | keeperRestart
  /-- Command changing the watchdog clock source (R531). -/
  | clockSelect
  /-- Command selecting or reading a frequency measurement (R533). -/
  | clockMeasure
  /-- Command setting the watchdog timeout and clock (R534). -/
  | watchdogSet
  /-- Command opening a transfer of a given kind, length and CRC (R445). -/
  | transferOpen
  /-- Command carrying a block of transfer data at an offset (R446). -/
  | transferData
  /-- Command checking a transfer's length and CRC (R446). -/
  | transferClose
  /-- Command returning 14 words of the session's batch buffer (R447). -/
  | batchRead
  /-- Command verifying and activating a transferred program image (R449). -/
  | programLoad (x : Loaded)
  /-- Command returning the program identities and task counts (R449). -/
  | programInfo
  /-- Command starting the program with a cold or warm restart (R450). -/
  | run
  /-- Command declaring T_stop (R274). -/
  | stop
  /-- Command returning a task's state and status block (R39). -/
  | taskStatus
  /-- Command restarting a task stopped under R53 (R451). -/
  | taskRestart
  /-- Command restarting a sector in the safe state (R451). -/
  | sectorRestart
  /-- Command running LBIST three times on a HALF or RETIRED range (R193). -/
  | rangeRetest
  /-- Command reading words of a task's view or owned output bytes (R452). -/
  | imageRead
  /-- Command checking and accepting a delta image (R261). -/
  | editLoad (x : DeltaIn)
  /-- Command returning the edit status record (R262). -/
  | editStatus
  /-- Command declaring the cut-over of a held PASSED edit (R453). -/
  | cutOver
  /-- Command aborting a proof run or held verdict (R453). -/
  | proofAbort
  /-- Command declaring a cut-over back to the old program (R259). -/
  | rollback
  /-- Command ending the rollback period early (R259). -/
  | editCommit
  /-- Command forcing a point to a value (R454). -/
  | force
  /-- Command releasing one or all forced points (R454). -/
  | release
  /-- Command listing forced points into the batch (R277). -/
  | forceList
  /-- Command setting clear_pending for faulted pairs (R291). -/
  | pairClear
  /-- Command closing a cut opened by stuck-on or cross-cut (R455). -/
  | groupCutReset
  /-- Command running cut tests on named groups (R301). -/
  | cutTest
  /-- Command clearing an AO readback fault or safe latch (R455). -/
  | aoChannelReset
  /-- Command sending one HART command to a device (R316). -/
  | hartPassthrough
  /-- Command rewriting the reflex configuration and clearing held channels that agree (R176). -/
  | reflexReset (ok : Bool)
  /-- Command returning the twin status registers (R243). -/
  | twinStatus
  /-- Command making the principal relinquish (R456). -/
  | roleSwap
  /-- Command starting a rejoin (R456). -/
  | rejoin
  /-- Command returning TS64 and time status (R390). -/
  | timeRead
  /-- Command setting PTP, slew and late-window settings for the next reset (R457). -/
  | timeSettings
  /-- Command stepping TS64 to a host value while no task scans (R399). -/
  | timeStep
  /-- Command adding a scheduled action (R401). -/
  | schedule
  /-- Command removing a scheduled action (R457). -/
  | scheduleCancel
  /-- Command returning a coherent RTC reading (R406). -/
  | rtcRead (ok : Bool)
  /-- Command writing the RTC date and time (R405). -/
  | rtcSet
  /-- Command writing the weekday counter (R404). -/
  | weekdaySet
  /-- Command requesting a sub-second shift of the RTC (R408). -/
  | rtcShift
  /-- Command setting an RTC alarm (R407). -/
  | alarmSet
  /-- Command clearing an alarm's FIRED flag (R407). -/
  | alarmClear
  /-- Command clearing the backup switch-over record (R409). -/
  | backupRecordClear
  /-- Command reading recorder records into the batch (R521). -/
  | recorderRead
  /-- Command issuing a recorder-clear confirm token (R458). -/
  | clearPrepare
  /-- Command clearing the recorder with a valid token (R522). -/
  | clearConfirm
  /-- Command returning an NVM counter (R509). -/
  | counterRead
  /-- Command taking a retain snapshot (R459). -/
  | retainSnapshot
  /-- Command returning the last-light register (R524). -/
  | lastLightRead
  /-- Command returning the session binding and certificate hash (R479). -/
  | sessionInfo
  /-- Command generating a pending key pair and certificate request (R481). -/
  | enrollRequest (csr : List Byte) (key : Nat)
  /-- Command installing the LDevID chain and domain-key envelope (R482). -/
  | enrollInstall (chainOk : Bool) (key node : Nat) (env : Option (Nat × Nat))
  /-- Command installing a new owner certificate (R471). -/
  | ownerCertInstall (hash : Nat) (proofOk lock : Bool)
  /-- Command incrementing Beam or CAN key epochs (R484). -/
  | keyRotate
  /-- Command returning the marginal fuse words of the last read (R494). -/
  | fuseStatus
  /-- Command checking and writing a firmware image into the inactive slot (R553). -/
  | fwWrite (sign : Bool) (sig : SigCheck) (signer : Nat) (writeOk : Bool)
  /-- Command switching to the inactive firmware slot (R555). -/
  | activate
  /-- Command returning firmware versions, slots and counters (R461). -/
  | fwStatus
  /-- Command opening, changing or closing the trace stream (R562). -/
  | traceSet
  /-- Command selecting and zeroing a watch-port counter (R569). -/
  | counterSelect
  /-- Command requesting a register snapshot of a lamp (R462). -/
  | snapshot
  /-- Command returning a CAN port's status registers (R340). -/
  | canStatus
  /-- Command cancelling a pending CAN transmission (R355). -/
  | txCancel
  /-- Command starting bus-off recovery of a CAN port (R358). -/
  | portRestart
  /-- Command setting network addresses and diagnostic node for the next reset (R463). -/
  | networkSet
  /-- Command replacing the firewall table (R368). -/
  | firewallSet
  /-- Command returning a Beam receive connection's state (R382). -/
  | beamRxStatus
  /-- Command returning a socket's buoy state and life counters (R338). -/
  | buoyStatus
  /-- Command putting a socket in EXCHANGE (R333). -/
  | buoyExchange
  /-- Command reading a service tag region into the batch (R591). -/
  | tagRead
  /-- The RTC hour rolls from 23 to 0, incrementing the weekday counter and, after 2199-12-31, wrapping to 2000 and
  setting WRAPPED (R404). -/
  | rtcHourRollover
  /-- No RTC crystal edge within 100 ms clears the RTC crystal READY flag (R530). -/
  | rtcXtalStopped
  /-- An open transfer that has received no command for 60 s is discarded (R445). -/
  | transferTimeout
  /-- A long command running beside the queue finishes and its reply is written (R444). -/
  | longCommandComplete (op : Nat)
  /-- No partner answer to a twin-wide command within 10 ms answers STATE_CONFLICT (R442). -/
  | twinCommandTimeout
  /-- The declared instant of a twin-wide command or run start is reached and the command takes effect (R442). -/
  | declaredInstant
  /-- The keeper firmware's own fault handler starts a keeper restart, closing sessions and opening the restart
  window (R432). -/
  | keeperFirmwareFault
  /-- The lamp room every 1 µs and the supervisor every 10 µs poll their FK mailbox direction and take a held
  message (R415). -/
  | mailboxPoll (m : Nat)
  /-- Each twin-link frame slot the transmitter fills with the first eligible frame class, or a STATUS frame (R207).
  -/
  | twinFrameSlot
  /-- A twin-link lane loses block lock, taking the link out of lock (R205). -/
  | blockLockLost (lane : Nat)
  /-- The module sends a PTP message on its interval, as master Announce and Sync or as slave Delay_Req (R392). -/
  | ptpSend (p kind : Nat)
  /-- In the assistant, the end of an announced pulse plus XCUT_FILTER unmasks the channel from its cross-cut
  (R224). -/
  | xcutMaskExpiry (n : Nat)
  /-- The field supply of the DO or AIO buoy falls below 15.0 V for 1 ms, setting SUPPLY_MISSING and taking AO to 0
  mA (R321). -/
  | buoySupplyMissing (b mv : Nat)
  /-- The field supply of the DO or AIO buoy returns above its clear threshold for 1 ms (R285). -/
  | buoySupplyOk (b mv : Nat)
  /-- A buoy field feed returns to 15.0 V or more, setting FEED_A_OK or FEED_B_OK again (R326). -/
  | buoyFeedReturned (b : Nat) (fb : Bool) (mv : Nat)
  /-- A buoy's field connector is mated or withdrawn, changing FIELD_MATED and starting or abandoning the 100 ms
  mate count (R337). -/
  | fieldConnectorMateChange (b : Nat) (mated : Bool)
  /-- The RF field leaves the service tag and RF_FIELD clears (R591). -/
  | tagRfFieldLeaves
  /-- A keeper tag copy write, at one block per 40 µs, finishes with VERSION and is read back (R590). -/
  | tagWriteComplete (ok : Bool)
  /-- A KAP record of a TYPE not in the table, including a register-write request, is answered BAD_ARGUMENT (R421). -/
  | undefinedKapRecord (id no typ : Nat)
  deriving DecidableEq, Repr

end Sys2Proof
end

