-- ==== Sys2Proof/Decode.lean ====
section
/-!
DEFINITION. The words of the opcode table: its rows give no bits, so no word spells a command.
-/
namespace Sys2Proof

/-- The command a word of the opcode table spells. The table gives no row any bits: none. -/
def decodeTableWord (_nbits _w : Nat) : Option Instr := none

end Sys2Proof
end

