-- ==== Sys2Proof/Config.lean ====
section
/-!
DEFINITION. The values the manual leaves open: free values, which no proof can see.
-/
namespace Sys2Proof.Config

/-- A value the manual leaves open, by its index (assumption log, entry 4). -/
opaque freeWord : Nat → BitVec 32

end Sys2Proof.Config
end

