-- ==== Sys2Proof/Machine/StComm.lean ====
section
/-!
DEFINITION. State types of the management path and the train network: mailboxes, KAP sessions and the keeper's
queue (chapters 17 and 18), ports, firewall and Beam (chapter 15).
-/
namespace Sys2Proof.Machine

/-- The acknowledge register of a mailbox direction. -/
structure Ack where
  valid : Bool := false
  tag   : Nat := 0
  rc    : Nat := 0
  deriving DecidableEq, Repr

/-- One direction of a mailbox (R415 to R418). -/
structure MbxDir where
  /-- Words 0 to 15 of the held or last message, as they read. -/
  words    : List Word := []
  full     : Bool := false
  collision : Bool := false
  collCnt  : Nat := 0
  ack      : Ack := {}
  deriving DecidableEq, Repr

/-- A reply waiting for its mailbox: its words and the epoch it was written under. -/
structure Reply where
  opcode : Nat
  tag    : Nat
  rc     : Nat
  data   : List Word := []
  epoch  : Nat := 0
  deriving DecidableEq, Repr

/-- A mailbox: its two directions and, for a host session, its binding (R426). -/
structure Mbx where
  tk : MbxDir := {}
  fk : MbxDir := {}
  fkEpoch : Nat := 0
  /-- The session bound to it. -/
  session : Option Nat := none
  /-- TS64 at which an unclaimed retention ends. -/
  retainUntil : Option Nat := none
  identity : Nat := 0
  role    : Role := .viewer
  port    : Nat := 0
  lastConsumed : Option Nat := none
  replyQ  : List Reply := []
  batch   : List Byte := []
  deriving DecidableEq, Repr

/-- A KAP session (R421, R476, R477). -/
structure Session where
  identity : Nat
  role     : Role
  port     : Nat
  peer     : Nat
  mailbox  : Option Nat
  openedTs : Nat
  lastTs   : Nat
  keyTs    : Nat
  keyRecs  : Nat := 0
  records  : Nat := 0
  /-- A claim session of an UNOWNED module (R469). -/
  claim    : Bool := false
  deriving DecidableEq, Repr

/-- A handshake in progress (R476). -/
structure Handshake where
  id   : Nat
  peer : Nat
  port : Nat
  ts   : Nat
  deriving DecidableEq, Repr

/-- The open transfer (R445, R446). -/
structure Transfer where
  kind   : Nat
  len    : Nat
  crc    : Word
  /-- Data words received, in order. -/
  data   : List Word := []
  /-- Offset and words of the last accepted block. -/
  last   : Option (Nat × List Word) := none
  closed : Bool := false
  /-- Mailbox and identity of the session that opened it. -/
  owner  : Nat
  ident  : Nat
  lastTs : Nat
  deriving DecidableEq, Repr

/-- A long command that runs beside the queue, with the reply it will write (R444). -/
structure LongRun where
  req  : Req
  /-- Its result is known; the reply is still to be written. -/
  done : Bool := false
  rc   : Nat := 0
  data : List Word := []
  deriving DecidableEq, Repr

/-- A unit of the management view (R433). -/
inductive UnitName where
  | gallery (g : Nat)
  | range (g r : Nat)
  | buoy (b : Nat)
  | partner
  deriving DecidableEq, Repr

/-- The conflict record of a unit (R433). -/
structure ViewState where
  name     : UnitName
  view     : Nat
  conflict : Bool := false
  since    : Nat := 0
  recorded : Bool := false
  /-- The data-path state at the previous sample. -/
  prev     : Nat := 0
  deriving DecidableEq, Repr

/-- Why the keeper restarts (R432). -/
inductive RestartCause where
  | activate | command | fault
  deriving DecidableEq, Repr

/-- The keeper: mailboxes, sessions, queue, long commands and views (chapters 17 and 18). -/
structure Keeper where
  /-- Released by the lamp room and serving (R472). -/
  ready    : Bool := false
  /-- MOD_KEEPER_EPOCH, in the backup domain (R432). -/
  epoch    : Nat := 0
  mbx      : Tab Mbx := []
  sessions : Tab (Option Session) := []
  nextSession : Nat := 1
  handshakes : List Handshake := []
  /-- Requests acknowledged OK and not yet executed, in order (R443). -/
  queue    : List Req := []
  long     : List LongRun := []
  /-- Replies of twin-wide commands that wait for the partner's answer (R442): the request and its deadline. -/
  twinWait : List (Req × Nat) := []
  /-- Messages that wait for the FK direction of the twin mailbox (R418). -/
  twinOut  : List (List Word) := []
  transfer : Option Transfer := none
  /-- The keeper is restarting: why, and since when. -/
  restart  : Option (RestartCause × Nat) := none
  /-- Confirm token of CLEAR_PREPARE: token, mailbox, expiry (R458). -/
  token    : Option (Word × Nat × Nat) := none
  views    : List ViewState := []
  lastRange : Option (Nat × Nat) := none
  canBusy  : Option Nat := none
  collisionCnt : Nat := 0
  unitDownCnt : Nat := 0
  restartCnt : Nat := 0
  busyRestartCnt : Nat := 0
  noteCnt  : Nat := 0
  ackIgnored : Nat := 0
  canReject : Nat := 0
  viewConflictCnt : Nat := 0
  mgmtBusy : Nat := 0
  deriving DecidableEq, Repr

/-- Network settings (R366, R381, R463). -/
structure NetSettings where
  ip    : Word := 0xC0A8FE01
  mask  : Word := 0xFFFFFF00
  gw    : Word := 0
  vlanBeam : Nat := 0
  vlanMgmt : Nat := 0
  diagNode : Nat := 0
  deriving DecidableEq, Repr

/-- One port: ECN A, ECN B or service (R387). -/
structure NetPort where
  link   : Bool := false
  linkTs : Nat := 0
  txCnt  : Nat := 0
  rxCnt  : Nat := 0
  fcsErr : Nat := 0
  nonIp  : Nat := 0
  linkLoss : Nat := 0
  deriving DecidableEq, Repr

/-- A firewall rule (R367). -/
structure FwRule where
  en     : Bool := false
  action : Nat := 0
  prio   : Nat := 4
  ports  : Nat := 0
  proto  : Nat := 0
  pfx    : Nat := 0
  src    : Word := 0
  low    : Nat := 0
  high   : Nat := 0
  deriving DecidableEq, Repr

/-- The firewall table after a settings reset (R368): 128 rules, four of them enabled. -/
def fwDefault : List FwRule :=
  [{ en := true, action := 1, ports := 4, proto := 6, low := 7410, high := 7410 },
   { en := true, action := 1, ports := 3, proto := 17, low := 319, high := 320 },
   { en := true, action := 1, ports := 3, proto := 17, low := 7411, high := 7411 },
   { en := true, action := 1, ports := 3, proto := 6, low := 7410, high := 7410 }] ++ List.replicate 124 ({} : FwRule)

/-- A PRP duplicate-discard entry: source, sequence number, LAN and time (R364). -/
structure PrpSeen where
  src : Nat
  seq : Nat
  lan : Nat
  ts  : Nat
  both : Bool := false
  deriving DecidableEq, Repr

/-- The network block (R364 to R371, R387). -/
structure Net where
  /-- Settings in force, none until configured; and those for the next reset. -/
  cur     : Option NetSettings := none
  next    : NetSettings := {}
  mac     : BitVec 48 := 0
  ports   : Tab NetPort := []
  fw      : List FwRule := fwDefault
  fwHit   : Tab Nat := []
  fwNoMatch : Nat := 0
  prp     : List PrpSeen := []
  prpSeq  : Nat := 0
  prpDup  : Nat := 0
  prpWrong : Nat := 0
  prpUniqA : Nat := 0
  prpUniqB : Nat := 0
  prpUntagged : Nat := 0
  prpSup  : Nat := 0
  /-- TS64 of the last supervision frames sent. -/
  prpSupTs : Nat := 0
  deriving DecidableEq, Repr

/-- What a receive area holds (chapter 15, Receive area of a connection). -/
structure BeamArea where
  seq   : Nat := 0
  ts    : Nat := 0
  safe  : Bool := false
  forced : Bool := false
  holdover : Bool := false
  data  : List Byte := []
  deriving DecidableEq, Repr

/-- A Beam receive connection (R382 to R385). -/
structure BeamRx where
  synced : Bool := false
  seq    : Nat := 0
  ts     : Nat := 0
  /-- Bit b: c.seq − b has been seen. -/
  window : BitVec 64 := 0
  lost   : Nat := 0
  stale  : Bool := true
  never  : Bool := true
  staleTs : Nat := 0
  lastTs : Nat := 0
  area   : BeamArea := {}
  /-- Earlier contents with the instant each was delivered, newest first (R385). -/
  past   : List (Nat × BeamArea) := []
  /-- Frames missing since each task's previous IN. -/
  lostFor : Tab Nat := []
  /-- Accepted epoch e_c (R486), kept in the settings area. -/
  epoch  : Nat := 0
  deriveTs : Option Nat := none
  /-- Epochs above e_c whose keys the engine holds. -/
  keys    : List Nat := []
  deriving DecidableEq, Repr

/-- A Beam transmit connection (R378 to R380). -/
structure BeamTx where
  /-- NET_BTX_c_STATE.STATE: 0 closed, 1 sending, 2 SAFE frames, 3 silent. -/
  state   : Nat := 0
  seqBase : Nat := 0
  /-- The owner's first strobe after the opening has still to fix SEQ_BASE. -/
  opening : Bool := false
  safeLeft : Nat := 0
  lastSeq : Nat := 0
  deriving DecidableEq, Repr

/-- A class 3 frame queued for the wire (R379), with its header arguments and payload. -/
structure QFrame where
  conn : Nat
  ts   : Nat
  args : List Nat
  data : List Byte
  deriving DecidableEq, Repr

/-- The Beam engine (R372 to R387). -/
structure Beam where
  rx : Tab BeamRx := []
  tx : Tab BeamTx := []
  checkFault : Bool := false
  queued : List QFrame := []
  diagTs : Nat := 0
  diagSeq : Nat := 0
  diagStatus : Word := 0
  txCnt  : Nat := 0
  rxCnt  : Nat := 0
  noConn : Nat := 0
  auth   : Nat := 0
  crc    : Nat := 0
  format : Nat := 0
  time   : Nat := 0
  dup    : Nat := 0
  late   : Nat := 0
  old    : Nat := 0
  resync : Nat := 0
  conflict : Nat := 0
  txLate : Nat := 0
  deriving DecidableEq, Repr

end Sys2Proof.Machine
end

