-- ==== Sys2Proof/Machine/StIo.lean ====
section
/-!
DEFINITION. State types of the field I/O: digital I/O (chapter 11), the reflex network (6), current loops and HART
(12), buoys (13), CAN ports (14), and of time and the RTC (16).
-/
namespace Sys2Proof.Machine

/-- One digital input's decision chain (R283, R288, R289, R596). -/
structure DiCh where
  /-- The comparator of R282. -/
  term    : Bool := false
  /-- The bypass decision. -/
  byp     : Bool := false
  /-- The debounced decision before R286 and R289 force it to 0. -/
  deb     : Bool := false
  /-- TS64 at which the running debounce count expires. -/
  due     : Option Nat := none
  /-- A debounce count paused by a test window: ns left (R288). -/
  left    : Option Nat := none
  /-- The channel is inside its source's test window. -/
  inWin   : Bool := false
  /-- The bypass decision at the window start. -/
  winByp  : Bool := false
  tpFault : Bool := false
  /-- Consecutive pulses read 0 while under TP_FAULT. -/
  good    : Nat := 0
  deriving DecidableEq, Repr

/-- A field supply group (R285). -/
structure DiGroup where
  mv      : Nat := 0
  low     : Bool := false
  missing : Bool := false
  /-- TS64 at which the present condition began. -/
  since   : Nat := 0
  deriving DecidableEq, Repr

/-- A test-pulse source (R287 to R289). -/
structure TpSrc where
  /-- TS64 of the start of the pulse that runs or whose window is open. -/
  start    : Option Nat := none
  pulsing  : Bool := false
  srcFault : Bool := false
  /-- The terminal did not fall in the pulse that runs. -/
  bad      : Bool := false
  good     : Nat := 0
  deriving DecidableEq, Repr

/-- A dual-channel pair (R290). The discrepancy count is held as its accumulated ns and the TS64 it runs from. -/
structure Pair where
  value    : Bool := false
  fault    : Bool := false
  disc     : Bool := false
  /-- TS64 at which the disagreement began. -/
  start    : Nat := 0
  acc      : Nat := 0
  since    : Option Nat := none
  clearPend : Bool := false
  deriving DecidableEq, Repr

/-- A running output test pulse (R297 to R299). -/
structure DoTest where
  dark      : Bool
  requested : Bool
  start     : Nat
  deriving DecidableEq, Repr

/-- One digital output channel. -/
structure DoCh where
  short    : Bool := false
  overload : Bool := false
  isOpen   : Bool := false
  stuckOn  : Bool := false
  stuckOff : Bool := false
  /-- Last test not done (DOUT_TEST_NOT_DONE). -/
  notDone  : Bool := false
  /-- TEST_PASS and TEST_NOT_DONE of the input image (R298). -/
  reqPass  : Bool := false
  reqNotDone : Bool := false
  test     : Option DoTest := none
  /-- TS64 by which a requested test is due (R298). -/
  reqDue   : Option Nat := none
  /-- TS64 of the next periodic open-load and dark test. -/
  olNext   : Nat := 0
  darkNext : Nat := 0
  ma       : Nat := 0
  clampMj  : Nat := 0
  deriving DecidableEq, Repr

/-- One digital output group with its cut (R300). The safe state and a latched cause may hold it together (R455). -/
structure DoGroup where
  /-- Opened by the safe state. -/
  safe     : Bool := false
  /-- Latched cause: 0 none, 2 STUCK_ON, 3 cross-cut. -/
  latched  : Nat := 0
  aFail    : Bool := false
  bFail    : Bool := false
  overload : Bool := false
  ma       : Nat := 0
  /-- After an exchange the drivers wait for the next strobe of the group's owner (R337). -/
  waits    : Bool := false
  deriving DecidableEq, Repr

/-- The cut test in progress (R301): the groups still to test, the element under test and why it runs. -/
structure CutTest where
  group  : Nat
  elemB  : Bool
  /-- TS64 at which the element's opening ends. -/
  endTs  : Nat
  rest   : List Nat
  /-- A command waits for its result. -/
  forCmd : Bool
  /-- Bit 2g: element A of group g passed; bit 2g + 1: element B passed. -/
  passed : Nat := 0
  /-- Groups not tested because their cut was open. -/
  skipped : Nat := 0
  deriving DecidableEq, Repr

/-- The digital I/O block. -/
structure Dio where
  configured : Bool := false
  cfg    : DioCfg := {}
  di     : Tab DiCh := []
  groups : Tab DiGroup := []
  srcs   : Tab TpSrc := []
  pairs  : Tab Pair := []
  pairFaultCnt : Nat := 0
  tpFaultCnt   : Nat := 0
  missingCnt   : Nat := 0
  dch    : Tab DoCh := []
  dgrp   : Tab DoGroup := []
  /-- Terminal and switch readback (R293). -/
  line   : Word := 0
  /-- The terminal readback as it stood before the strobes of the instant `strobeTs` (R41). -/
  lineOld : Word := 0
  strobeTs : Option Nat := none
  drv    : Word := 0
  buoyMa : Nat := 0
  buoyOver : Bool := false
  /-- TS64 of the last group latched by a buoy overload (R295). -/
  buoyOverTs : Nat := 0
  supLow : Bool := false
  supMissing : Bool := false
  shortCnt : Nat := 0
  openCnt  : Nat := 0
  stuckCnt : Nat := 0
  testCnt  : Nat := 0
  skipCnt  : Nat := 0
  cutCnt   : Nat := 0
  clampCnt : Nat := 0
  cutTest  : Option CutTest := none
  /-- TS64 of the next periodic cut test. -/
  cutNext  : Nat := 0
  deriving DecidableEq, Repr

/-- Terms on their way to the DO latches, with the TS64 at which they reach them (R171). -/
structure RfxPath where
  due : Nat
  off : Word
  on  : Word
  deriving DecidableEq, Repr

/-- The reflex network. -/
structure Reflex where
  held     : Word := 0
  cfgFault : Bool := false
  bank     : Bool := false
  act      : Option RfxCfg := none
  alt      : Option RfxCfg := none
  proof    : Bool := false
  /-- Reflex-request bits as the network holds them. -/
  req      : BitVec 64 := 0
  /-- Terms of copy A, as evaluated now. -/
  off      : Word := 0
  on       : Word := 0
  /-- Terms as they stand at the DO latches. -/
  latOff   : Word := 0
  latOn    : Word := 0
  path     : List RfxPath := []
  /-- Channels whose terms, and whose lanes, differ now. -/
  termDiff : Word := 0
  laneDiff : Word := 0
  /-- The proof evaluator showed a difference at its last comparison. -/
  proofDiffNow : Bool := false
  mismatchCnt : Nat := 0
  laneCnt  : Nat := 0
  cfgFaultCnt : Nat := 0
  offActCnt : Nat := 0
  proofDiffCnt : Nat := 0
  lastTs   : Nat := 0
  lastMask : Word := 0
  deriving DecidableEq, Repr

/-- One loop input (R307 to R312). -/
structure LoopIn where
  /-- Latest value in nA and the last raw windows, newest first, at most 5. -/
  val     : Int := 0
  wins    : List Int := []
  faultLow  : Bool := false
  faultHigh : Bool := false
  /-- Consecutive values below, above and within the clear band. -/
  lowN    : Nat := 0
  highN   : Nat := 0
  okN     : Nat := 0
  faultTs : Nat := 0
  starved : Bool := false
  starvN  : Nat := 0
  starvOkN : Nat := 0
  starvTs : Nat := 0
  supLimit : Bool := false
  usMv    : Nat := 0
  utMv    : Int := 0
  deriving DecidableEq, Repr

/-- One loop output (R317 to R321). -/
structure LoopOut where
  /-- Committed command in nA, after forcing. -/
  cmd      : Nat := 0
  /-- The delivered command in nA, and the TS64 of its last change (R318). -/
  delivered : Nat := 0
  changeTs : Nat := 0
  rb       : Int := 0
  rbN      : Nat := 0
  comp     : Bool := false
  compTs   : Nat := 0
  rbFault  : Bool := false
  latchedSafe : Bool := false
  hrMv     : Nat := 0
  /-- The channel has taken a strobe since the last restart or exchange. -/
  live     : Bool := false
  deriving DecidableEq, Repr

/-- State of a HART channel. -/
inductive HartSt where
  | off | identify | cyclic | noResponse
  deriving DecidableEq, Repr

/-- The request a HART master has on the loop. -/
inductive HartTx where
  | none | cmd0 | cmd3 | pass
  deriving DecidableEq, Repr

/-- A pending HART pass-through (R316). -/
structure HartPass where
  req  : Req
  cmd  : Nat
  data : List Byte
  write : Bool
  deriving DecidableEq, Repr

/-- One HART channel (R314 to R316) with its block of the input image. -/
structure Hart where
  st      : HartSt := .off
  fails   : Nat := 0
  retries : Nat := 0
  tx      : HartTx := .none
  id      : Option Nat := none
  pv      : Word := 0
  sv      : Word := 0
  tv      : Word := 0
  qv      : Word := 0
  loopMa  : Word := 0
  units   : Word := 0
  resp    : Nat := 0
  fds     : Nat := 0
  cnt     : Nat := 0
  lastTs  : Option Nat := none
  /-- TS64 of the next poll. -/
  nextTs  : Nat := 0
  pass    : Option HartPass := none
  deriving DecidableEq, Repr

/-- The loop block. -/
structure Loop where
  configured : Bool := false
  cfg     : LoopCfg := {}
  ins     : Tab LoopIn := []
  outs    : Tab LoopOut := []
  hart    : Tab Hart := []
  /-- End instant of the latest window, TS64. -/
  winTs   : Nat := 0
  /-- Values of the latest windows: end instant and value per input, newest first (R308). -/
  past    : List (Nat × Tab Int) := []
  supMissing : Bool := false
  namurCnt : Nat := 0
  starvedCnt : Nat := 0
  compCnt : Nat := 0
  rbCnt   : Nat := 0
  hartTx  : Nat := 0
  hartErr : Nat := 0
  hartPt  : Nat := 0
  deriving DecidableEq, Repr

/-- BUY_b_STATE.STATE. -/
inductive SockSt where
  | empty | authenticating | configuring | inService | authFailed | cfgFailed
  deriving DecidableEq, Repr

/-- One buoy socket (R326 to R338). -/
structure Sock where
  st       : SockSt := .empty
  exch     : Bool := false
  mated    : Bool := false
  /-- TS64 since which the field connector reads mated. -/
  matedTs  : Nat := 0
  feedA    : Nat := 0
  feedB    : Nat := 0
  feedAOk  : Bool := false
  feedBOk  : Bool := false
  authStep : Nat := 0
  attempts : Nat := 0
  /-- TS64 of the next authentication attempt (R328). -/
  retryAt  : Option Nat := none
  typ      : Nat := 0
  rev      : Nat := 0
  serial   : Nat := 0
  /-- Serial of the buoy removed in EXCHANGE. -/
  oldSerial : Nat := 0
  /-- SURGE in µJ and CLAMP in mJ. -/
  surge    : Nat := 0
  clamp    : Nat := 0
  mate     : Nat := 0
  /-- THOURS in units of 10^-9 h. -/
  thoursN  : Nat := 0
  temp     : Int := 0
  /-- Counters as last committed to the buoy's memory (R331). -/
  saved    : List Nat := []
  cfgCrc   : Word := 0
  cfgTries : Nat := 0
  authCnt  : Nat := 0
  authFailCnt : Nat := 0
  surgeCnt : Nat := 0
  maint    : Bool := false
  eol      : Bool := false
  /-- TS64 at which it last left EXCHANGE, which delays the validity of its inputs (R337). -/
  exchEnd  : Option Nat := none
  deriving DecidableEq, Repr

/-- The three sockets; the mirrors are counter rings 16 to 79 of the NVM. -/
structure Buoys where
  socks   : Tab Sock := []
  deriving DecidableEq, Repr

/-- A received frame as a slot or FIFO entry shows it. -/
structure CanRx where
  frame : CanFrame
  flt   : Nat
  count : Nat
  ts    : Nat
  deriving DecidableEq, Repr

/-- A receive slot (R347, R348); `past` holds earlier frames, newest first. -/
structure CanSlot where
  cur   : Option CanRx := none
  past  : List CanRx := []
  stale : Bool := true
  staleTs : Nat := 0
  deriving DecidableEq, Repr

/-- CAN_n_TXB_b_CFG.STATE. -/
inductive TxSt where
  | idle | pending | onBus | retry
  deriving DecidableEq, Repr

/-- A transmit buffer's run-time state (R352 to R356). -/
structure CanTx where
  st      : TxSt := .idle
  frame   : Option CanFrame := none
  waiting : Option CanFrame := none
  retries : Nat := 0
  /-- The current attempt is not retried (R356). -/
  noRetry : Bool := false
  lastSeq : Nat := 0
  deriving DecidableEq, Repr

/-- Error state of a port. -/
inductive CanSt where
  | active | passive | busOff
  deriving DecidableEq, Repr

/-- One CAN port. -/
structure CanPort where
  configured : Bool := false
  cfg     : CanCfg := {}
  st      : CanSt := .active
  stTs    : Nat := 0
  tec     : Nat := 0
  rec_    : Nat := 0
  lec     : Nat := 0
  lecData : Bool := false
  busOffWait : Bool := false
  recovering : Bool := false
  byCommand : Bool := false
  /-- Another node holds the bus after a lost arbitration. -/
  busBusy : Bool := false
  fifo    : List CanRx := []
  fifoMax : Nat := 0
  /-- Overflows since the owning task's previous IN. -/
  ovfIn   : Nat := 0
  slots   : Tab CanSlot := []
  tx      : Tab CanTx := []
  hits    : Tab Nat := []
  tdcv    : Nat := 0
  tdcDone : Bool := false
  txCnt : Nat := 0
  rxCnt : Nat := 0
  noMatch : Nat := 0
  ovfCnt : Nat := 0
  lostCnt : Nat := 0
  cancelCnt : Nat := 0
  arbCnt : Nat := 0
  errCnt : Nat := 0
  busOffCnt : Nat := 0
  remoteCnt : Nat := 0
  /-- The status block's counts since restart. -/
  csDrop : Nat := 0
  csLost : Nat := 0
  csBusOff : Nat := 0
  deriving DecidableEq, Repr

/-- A time reference candidate (TIM_CAND_k). -/
structure Cand where
  present : Bool := false
  stable  : Bool := false
  qual    : Bool := false
  master  : Bool := false
  offset  : Int := 0
  /-- TS64 of the last offset estimate; none before the first. -/
  offTs   : Option Nat := none
  clockClass : Nat := 0
  accuracy : Nat := 0
  variance : Nat := 0
  gm      : Nat := 0
  /-- Data-set comparison key: priority1 and priority2. -/
  prio1   : Nat := 128
  prio2   : Nat := 128
  stableTs : Nat := 0
  annTs   : Nat := 0
  syncTs  : Nat := 0
  annIv   : Nat := 1000000000
  syncIv  : Nat := 1000000000
  /-- currentUtcOffset, when the grandmaster marks it valid. -/
  utc     : Option Nat := none
  deriving DecidableEq, Repr

/-- A scheduled action (R400). `st`: 0 free, 1 waiting, 2 executed, 3 refused. -/
structure Sched where
  ts      : Nat := 0
  kind    : Nat := 0
  task    : Nat := 0
  st      : Nat := 0
  outcome : Nat := 0
  lateNs  : Nat := 0
  cmd     : Option Req := none
  /-- Identity of the session that scheduled it. -/
  ident   : Nat := 0
  deriving DecidableEq, Repr

/-- The time unit (R389 to R402). -/
structure TimeUnit where
  ts       : Nat := 0
  /-- ns since power-up on the fabric clock, never stepped. -/
  mono     : Nat := 0
  ratePpb  : Int := 0
  offset   : Int := 0
  utcOff   : Nat := 37
  utcPtp   : Bool := false
  slewMax  : Nat := 100
  lateWin  : Nat := 1000
  ptpCfg   : Word := 0xF8F80001
  ptpNext  : Word := 0xF8F80001
  /-- SLEW_MAX and LATE_WINDOW of the next reset (R457). -/
  slewNext : Nat := 100
  winNext  : Nat := 1000
  selected : Nat := 3
  target   : Nat := 3
  switching : Bool := false
  swTs     : Nat := 0
  seeded   : Bool := true
  seedInvalid : Bool := false
  cands    : Tab Cand := []
  holdTs   : Nat := 0
  tcxoPpb  : Int := 0
  switchCnt : Nat := 0
  retargetCnt : Nat := 0
  disqualCnt : Nat := 0
  holdCnt  : Nat := 0
  stepCnt  : Nat := 0
  schOk    : Nat := 0
  schLate  : Nat := 0
  schPast  : Nat := 0
  sch      : Tab Sched := []
  deriving DecidableEq, Repr

/-- The calendar fields of the RTC; `year` counts from 2000. -/
structure Cal where
  sec  : Nat := 0
  min  : Nat := 0
  hour : Nat := 0
  day  : Nat := 1
  mon  : Nat := 1
  year : Nat := 0
  deriving DecidableEq, Repr

/-- An RTC alarm (R407). -/
structure Alarm where
  en    : Bool := false
  fired : Bool := false
  onBackup : Bool := false
  sec   : Nat := 0
  min   : Nat := 0
  hour  : Nat := 0
  day   : Nat := 0
  mon   : Nat := 0
  wday  : Nat := 0
  /-- Mask bits M_WDAY, M_MONTH, M_DAY, M_HOUR, M_MIN, M_SEC at [5:0]. -/
  mask  : Nat := 0
  /-- Calendar of the second in which it was set, or last fired. -/
  notIn : Option Cal := none
  /-- RTC time of a match on backup supply whose event is still to be recorded. -/
  late  : Option Cal := none
  deriving DecidableEq, Repr

/-- The real-time clock (R403 to R413), in the backup domain. -/
structure Rtc where
  cal    : Cal := {}
  sub    : Nat := 0
  wday   : Nat := 0
  /-- Numerator of the part of a tick not yet counted, in 1/(32,768 × 10^9) s. -/
  acc    : Nat := 0
  /-- Ticks of the current second (R408). -/
  secLen : Nat := 32768
  shift  : Option Int := none
  /-- The pending shift is the keeper's own correction, which records no event (R408). -/
  quiet  : Bool := false
  /-- TS64 of the keeper's last comparison (R408). -/
  corrTs : Nat := 0
  alms   : Tab Alarm := []
  bkpCnt : Nat := 0
  firstValid : Bool := false
  firstCal : Cal := { day := 0, mon := 0 }
  firstSub : Nat := 0
  /-- RTC_BACKUP_FIRST has been recorded for the stored instant. -/
  firstTold : Bool := false
  cellMv : Nat := 0
  capMv  : Nat := 0
  syncCnt : Nat := 0
  valid  : Bool := false
  wrapped : Bool := false
  supply : Nat := 0
  cellLow : Bool := false
  /-- The crystal has stopped (R530). -/
  stopped : Bool := false
  /-- The oscillator was lost on backup, and RTC_INVALID is still to be recorded (R410). -/
  lost   : Bool := false
  deriving DecidableEq, Repr

end Sys2Proof.Machine
end

