-- ==== Sys2Proof/Machine/StSystem.lean ====
section
/-!
DEFINITION. State types of the modes, the keeper's service blocks and the supervision: modes and forcing
(chapter 10), recorder and NVM (20), clocks, watchdog and power (21), security (19), firmware (22), watch port
(23) and service tag (24).
-/
namespace Sys2Proof.Machine

/-- MOD_MODE.EXEC. -/
inductive ExecMode where
  | stop | run | proof | safe
  deriving DecidableEq, Repr

/-- MOD_MODE.ROLE. -/
inductive TwinRole where
  | solo | principal | assistant | rejoining | isolated | noRole
  deriving DecidableEq, Repr

/-- MOD_MODE.POWER. -/
inductive PowerMode where
  | normal | rideThrough | saving
  deriving DecidableEq, Repr

/-- A declared transition that is pending (R443). -/
inductive DeclKind where
  /-- A stop at T_stop (R274). -/
  | stop (immediate : Bool)
  /-- A run start: warm or cold (R450). -/
  | runStart (warm powerUp : Bool)
  | proofStart
  | cutOver
  | rollback
  /-- A twin-wide command before its declared instant (R442). -/
  | command (q : Req)
  deriving DecidableEq, Repr

/-- A pending declared transition and its instant. -/
structure Declared where
  kind : DeclKind
  ts   : Nat
  deriving DecidableEq, Repr

/-- The mode of the module (R23, R264 to R274). -/
structure ModeBlk where
  exec  : ExecMode := .stop
  role  : TwinRole := .solo
  power : PowerMode := .normal
  maint : Bool := false
  seq   : Nat := 0
  /-- SAFE_LATCHED, in the backup domain (R265). -/
  safeLatched : Bool := false
  /-- The supervisor still reports the cause of SAFE (R267). -/
  causeOpen : Bool := false
  /-- Held in reset by the supervisor: only a power cycle restarts the module (R267). -/
  held : Bool := false
  declared : List Declared := []
  /-- A stop under way (R274): 0 none, 1 T_stop has passed, 2 every task has stopped and the stop save runs, 3 the save
  has ended or none is written. -/
  stopStage : Nat := 0
  stopImm  : Bool := false
  stopSaveWritten : Bool := false
  /-- Step 3 of R268 is skipped once, after a safe-reset. -/
  skipStart : Bool := false
  /-- TS64 of the pending module reset of SAFE_RESET (R448). -/
  safeResetAt : Option Nat := none
  /-- The module has started: step 2 and 3 of R268 are done. -/
  startDone : Bool := false
  deriving DecidableEq, Repr

/-- Identity and firmware registers of the MOD_ window (R21, R22). -/
structure Ident where
  /-- ZC-5124-V (twin fitted) or ZC-5124-N. -/
  variantV : Bool := true
  hwRev    : Byte := 1
  serial   : BitVec 64 := 0
  node     : Nat := 0
  /-- The node number bound at the next reset (R460). -/
  nodeNext : Option Nat := none
  /-- SHA-384 of the IDevID public key, as a number (R552). -/
  idevHash : Nat := 0
  deriving DecidableEq, Repr

/-- One record of the event recorder (R517). -/
structure Rec where
  code    : Nat
  source  : Nat
  flags   : Nat := 0
  seq     : Nat := 0
  ts      : Nat := 0
  payload : List Byte := []
  deriving DecidableEq, Repr

/-- A record in the ring: its byte offset and whether its CRC holds (R519). -/
structure RingRec where
  off  : Nat
  rcd  : Rec
  crcOk : Bool := true
  deriving DecidableEq, Repr

/-- A token bucket of the rate limit (R520). Tokens are counted in units of 10^-9. -/
structure Bucket where
  rate    : Nat := 10
  burst   : Nat := 20
  tokens  : Nat := 20000000000
  filled  : Nat := 0
  suppressed : Nat := 0
  firstTs : Nat := 0
  lastTs  : Nat := 0
  summaryTs : Nat := 0
  deriving DecidableEq, Repr

/-- The last-light record (R523). -/
structure LastLight where
  valid  : Bool := false
  copied : Bool := false
  lost   : Nat := 0
  seq    : Nat := 0
  ts     : Nat := 0
  cause  : Nat := 0
  page   : Nat := 0
  staged : Nat := 0
  modes  : List Word := []
  pend   : List Byte := []
  deriving DecidableEq, Repr

/-- The event recorder (R517 to R526). -/
structure Recorder where
  ready    : Bool := false
  clearing : Bool := false
  degraded : Bool := false
  nextSeq  : Nat := 1
  /-- Staged records, oldest first; the first `committing` of them are in a running commit. -/
  staged   : List Rec := []
  /-- Events that arose before the keeper ran, with their own TS64: staged when it starts (R550). -/
  early    : List Rec := []
  committing : Nat := 0
  stagedTs : Option Nat := none
  ring     : List RingRec := []
  /-- Byte offset at which the next record is appended. -/
  nextOff  : Nat := 0
  floor    : Nat := 0
  badPages : List Nat := []
  volRing  : List Rec := []
  ll       : LastLight := {}
  buckets  : Tab Bucket := []
  /-- RATE and BURST the program image gives a code. -/
  limits   : List (Nat × Nat × Nat) := []
  recCnt   : Nat := 0
  suppressCnt : Nat := 0
  summaryCnt : Nat := 0
  overwriteCnt : Nat := 0
  damagedCnt : Nat := 0
  volCnt   : Nat := 0
  clearCnt : Nat := 0
  /-- Suppressed since the last diagnostic frame (R381). -/
  suppDiag : Nat := 0
  deriving DecidableEq, Repr

/-- State of one timer/counter block in a retain save (R510). -/
structure RetainBlock where
  block   : Nat
  elapsed : Word
  q       : Bool
  inp     : Bool
  pulse   : Bool
  deriving DecidableEq, Repr

/-- A retain area with its header (R511). -/
structure RetArea where
  valid   : Bool := false
  /-- DATA_CRC holds (R511); a save whose check fails is kept apart from a missing one (R60). -/
  crcOk   : Bool := true
  writing : Bool := false
  kind    : Nat := 0
  run     : Nat := 0
  gen     : Nat := 0
  layout  : Nat := 0
  ts      : Nat := 0
  length  : Nat := 0
  data    : Tab Byte := []
  blocks  : List RetainBlock := []
  deriving DecidableEq, Repr

/-- What a commit set is for (R506), in the order of its writing. -/
inductive NvmWork where
  /-- Recorder append of the first n staged records. -/
  | append (n : Nat)
  /-- One slot of counter c, with the value it replaces. -/
  | counter (c old : Nat)
  /-- A retain save or snapshot of `kind` into area `a`; stage 1 invalidates, 2 writes data, 3 the header. -/
  | retain (kind : Nat) (a : Nat) (stage : Nat)
  /-- A JOURNAL set: item by its number in the settings table, 7 for the bad-page map. -/
  | journal (item : Nat)
  /-- Zeroing after a clear (R522). -/
  | zero
  deriving DecidableEq, Repr

/-- A commit set: its class, its pages still to commit and how often each has failed (R502, R505). -/
structure NvmJob where
  work  : NvmWork
  cls   : Nat
  pages : List (Nat × Nat)
  /-- The intent block is complete (R506). -/
  complete : Bool := true
  deriving DecidableEq, Repr

/-- A counter ring (R508): its value, generation and current slot. -/
structure CounterRing where
  value : Nat := 0
  gen   : Nat := 0
  slot  : Nat := 0
  valid : Bool := true
  deriving DecidableEq, Repr

/-- A snapshot that waits to be taken (R515, R516). -/
structure SnapWait where
  kind : Nat
  /-- RETAIN_SNAPSHOT commands to be answered when its header is committed. -/
  reqs : List Req := []
  deriving DecidableEq, Repr

/-- The capture that is being written. -/
structure RetCapture where
  kind   : Nat
  area   : Nat
  ts     : Nat
  run    : Nat
  layout : Nat
  data   : Tab Byte
  blocks : List RetainBlock
  length : Nat
  reqs   : List Req := []
  deriving DecidableEq, Repr

/-- The NVM controller (R501 to R516, R525). -/
structure Nvm where
  ready     : Bool := false
  recovered : Bool := false
  mediaFault : Bool := false
  zeroing   : Bool := false
  jobs      : List NvmJob := []
  counters  : Tab CounterRing := []
  snapPeriod : Nat := 0
  lastFail  : Option Nat := none
  areaA     : RetArea := {}
  areaB     : RetArea := {}
  capture   : Option RetCapture := none
  snapDue   : Option Nat := none
  snapWait  : Option SnapWait := none
  commitCnt : Nat := 0
  retryCnt  : Nat := 0
  pageFailCnt : Nat := 0
  recDone   : Nat := 0
  recRoll   : Nat := 0
  /-- Sets completed and rolled back at the last recovery, by kind: APPEND, SHADOW, JOURNAL (R507). -/
  recKinds  : List Nat := [0, 0, 0, 0, 0, 0]
  /-- The power-down sequence of R513: 0 none, 1 ranges complete their rung groups, 2 captured. -/
  saveStage : Nat := 0
  /-- Fabric-clock instant of the last commit of OPERATING_S (R509). -/
  operAt    : Nat := 0
  saveCnt   : Nat := 0
  snapCnt   : Nat := 0
  saveUs    : Nat := 0
  deriving DecidableEq, Repr

/-- Clock enables, READY flags and the frequency counter (R528 to R533, R548). -/
structure Clk where
  xtal : Bool := false
  tcxo : Bool := false
  rc   : Bool := false
  periph : Bool := false
  root : Bool := false
  en   : BitVec 15 := 0
  rcDev : BitVec 16 := 0
  measSel : Option (Nat × Nat × Nat) := none
  measCnt : Word := 0
  measRef : Word := 0
  measSeq : Nat := 0
  gatedCnt : Nat := 0
  rcFaultCnt : Nat := 0
  /-- TS64 since which the root PLL is being started (R13). -/
  pllTs : Nat := 0
  /-- TS64 at which the running gate began (R533). -/
  measTs : Nat := 0
  deriving DecidableEq, Repr

/-- WDG_STATUS.WINDOW. -/
inductive WdgWindow where
  | timeout | boot | restart
  deriving DecidableEq, Repr

/-- The watchdog and the reset causes (R534 to R539, R549). -/
structure Wdg where
  timeoutMs : Nat := 1000
  /-- Watchdog clock: false peripheral, true RC. -/
  clkRc   : Bool := false
  /-- The clock that WATCHDOG_SET last set, in the settings area (R534). -/
  setRc   : Bool := false
  armed   : Bool := true
  window  : WdgWindow := .boot
  /-- TS64 at which the count runs out. -/
  deadline : Nat := 2000000000
  /-- The next kick word is 0x0000_A5A5. -/
  second  : Bool := false
  kickCnt : Nat := 0
  lastKick : Nat := 0
  /-- The watchdog has expired: TS64 of the expiry (R536). -/
  expired : Option Nat := none
  monOk   : Bool := false
  monTrip : Bool := false
  supA    : Bool := false
  supB    : Bool := false
  repeatHold : Bool := false
  resetCnt : Nat := 0
  cause   : Nat := 0
  rstTs   : Nat := 0
  /-- TS64 of the watchdog resets of the last 3,600 s, newest first (R538). -/
  history : List Nat := []
  /-- Power-ups and module resets not yet counted in counters 1 and 2 (R509). -/
  pupPend : Nat := 0
  rstPend : Nat := 0
  deriving DecidableEq, Repr

/-- One logic feed (R540). -/
structure Feed where
  mv    : Nat := 0
  ok    : Bool := false
  disc  : Bool := false
  /-- TS64 of the loss. -/
  lostTs : Nat := 0
  deriving DecidableEq, Repr

/-- The feeds and the hold-up bank (R540 to R544, R597). -/
structure Power where
  a : Feed := {}
  b : Feed := {}
  bankMv : Nat := 0
  holdup : Bool := false
  /-- TS64 of the start of RIDE_THROUGH. -/
  rideTs : Option Nat := none
  lossCnt : Nat := 0
  overCnt : Nat := 0
  discCnt : Nat := 0
  /-- The power-down sequence has completed and the main domain is off (R544). -/
  off : Bool := false
  deriving DecidableEq, Repr

/-- TRNG states (R490 to R493). -/
inductive Trng where
  | startup | running | failed | stopped
  deriving DecidableEq, Repr

/-- A failed-handshake record of one source address (R478). -/
structure Bar where
  fails : List Nat := []
  barred : Option Nat := none
  deriving DecidableEq, Repr

/-- Why a keeper request waits for random numbers (R491). -/
structure TrngWait where
  req : Req
  deriving DecidableEq, Repr

/-- Ownership, keys, roles, TRNG and fuses (chapter 19). -/
structure Sec where
  owned     : Bool := false
  ownerHash : Nat := 0
  /-- The owner under whose certificate the active image was verified (R480). -/
  imgOwner  : Nat := 0
  /-- Signer of the active image, and of the one in the inactive bank, as certificate hashes. -/
  imgSigner : Nat := 0
  altSigner : Nat := 0
  /-- Owner-certificate proofs that have failed since power-up (R470). -/
  claimFails : Nat := 0
  enrolled  : Bool := false
  /-- The node number of the pending key pair (R481). -/
  pendNode  : Option Nat := none
  pendKey   : Nat := 0
  domainId  : Nat := 0
  /-- The domain secret is held; its content never leaves the lamp room (R466). -/
  domainKey : Bool := false
  canKey    : Bool := false
  canRole   : Nat := 0
  /-- CAN epoch, in the backup domain (R487). -/
  canEpoch  : Nat := 0
  /-- Last accepted request counter and own reply counter of the CAN command port, in the backup domain (R429). -/
  canLast   : Nat := 0
  canReply  : Nat := 0
  /-- An epoch is exhausted (R485). -/
  nodeEpochOut : Bool := false
  twinEpochOut : Bool := false
  vsLock    : Bool := false
  ownerLock : Bool := false
  debugLock : Bool := true
  /-- Effective anti-rollback counters (R473, R496). -/
  svnKeeper : Nat := 0
  svnLroom  : Nat := 0
  /-- Fuse words read MARGINAL at the last read, and its TS64 (R494). -/
  margCount : Nat := 0
  margTs    : Nat := 0
  /-- Words ever found MARGINAL (R494). -/
  margSeen  : List Nat := []
  /-- A word of class identity or trim has read MARGINAL (R497). -/
  margHold  : Bool := false
  trng      : Trng := .startup
  trngFails : List Nat := []
  trngFailTs : Nat := 0
  trngWait  : List Req := []
  trngFailedReqs : Nat := 0
  bars      : Tab Bar := []
  deriving DecidableEq, Repr

/-- A firmware slot (R551, R552). -/
structure FwSlot where
  ok       : Bool := false
  keeperVer : Word := 0
  lroomVer : Word := 0
  svnK     : Nat := 0
  svnL     : Nat := 0
  protoMin : Nat := 0
  protoMax : Nat := 0
  imageType : Nat := 1
  /-- It carries a valid operator countersignature (R475). -/
  countersigned : Bool := false
  /-- SETTINGS_READ: lowest and highest format read, per settings item. -/
  reads    : List (Nat × Nat) := []
  deriving DecidableEq, Repr

/-- The firmware slots and the settings formats (chapter 22). -/
structure Fw where
  slotA   : FwSlot := {}
  slotB   : FwSlot := {}
  /-- The active program bank (R551). -/
  bank    : Bool := false
  /-- MOD_FW_SLOT.ACTIVE: false A, true B. -/
  active  : Bool := false
  inactiveValid : Bool := false
  /-- The active slot is on trial since this TS64 (R559). -/
  trial   : Option Nat := none
  /-- An activation is under way: slot digest still to compare (R555). -/
  activating : Bool := false
  /-- Format number of each settings item 0 to 6 (R558). -/
  formats : List Nat := [0, 0, 0, 0, 0, 0, 0]
  /-- TS64 since which the running image has run without restart or reset (R473). -/
  runSince : Nat := 0
  deriving DecidableEq, Repr

/-- A trace entry (R564): its kind, source bit, length in words and content. -/
structure TraceEnt where
  kind   : Nat
  bit    : Option Nat
  source : Nat
  flags  : Nat := 0
  ts     : Nat
  words  : List Word
  deriving DecidableEq, Repr

/-- The watch port (chapter 23). -/
structure Watch where
  isOpen  : Bool := false
  mailbox : Nat := 0
  srcMask : Word := 0
  galMask : Word := 0
  taskMask : Word := 0
  buf     : List TraceEnt := []
  snapBuf : List TraceEnt := []
  eseq    : Nat := 0
  lossPending : Nat := 0
  lossMask : Word := 0
  lossTs  : Nat := 0
  snapNum : Nat := 0
  /-- Snapshots requested and not yet taken: gallery, range, lamp, number. -/
  snapReq : List (Nat × Nat × Nat × Nat) := []
  sentCnt : Nat := 0
  dropCnt : Nat := 0
  snapCnt : Nat := 0
  snapRefused : Nat := 0
  lossCnt : Tab Nat := []
  /-- Entries sent and dropped since the stream opened. -/
  openSent : Nat := 0
  openDropped : Nat := 0
  sel     : Tab Word := []
  ctr     : Tab Nat := []
  /-- The fc of the last capture and how many it has taken (R567). -/
  capTs   : Nat := 0
  capN    : Nat := 0
  deriving DecidableEq, Repr

/-- One region of the service tag (R589). -/
structure TagRegion where
  verA   : Nat := 0
  verB   : Nat := 0
  dataA  : List Byte := []
  dataB  : List Byte := []
  okA    : Bool := false
  okB    : Bool := false
  tsA    : Nat := 0
  tsB    : Nat := 0
  isPending : Bool := false
  /-- TS64 of the deferral of the pending write. -/
  deferTs : Option Nat := none
  retries : Nat := 0
  fails   : Nat := 0
  deriving DecidableEq, Repr

/-- The service tag (R589 to R592). -/
structure Tag where
  present : Bool := false
  rf      : Bool := false
  format  : Word := 0
  regions : Tab TagRegion := []
  /-- The write in progress: region and copy (false A). -/
  writing : Option (Nat × Bool) := none
  /-- TS64 at which it began. -/
  writeTs : Nat := 0
  writeCnt : Nat := 0
  deferCnt : Nat := 0
  rfCnt   : Nat := 0
  busyCnt : Nat := 0
  failCnt : Nat := 0
  deriving DecidableEq, Repr

end Sys2Proof.Machine
end

