-- ==== Sys2Proof/Machine/StTwin.lean ====
section
/-!
DEFINITION. State types of the twin (chapter 8) and of online editing (chapter 9).
-/
namespace Sys2Proof.Machine

/-- Agreement and digest state of a task's cycle (R213 to R218). -/
structure TwinTask where
  /-- The module's own snapshot of the cycle (R213). -/
  snap   : Tab Byte := []
  /-- Snapshot frames of the partner: frame index and payload. -/
  frames : List (Nat × List Byte) := []
  /-- The index of the partner's LAST frame. -/
  last   : Option Nat := none
  pCycle : Nat := 0
  pT0    : Nat := 0
  incomplete : Bool := false
  /-- The cycle was formed with the partner absent (R215). -/
  alone  : Bool := false
  hash   : Nat := 0
  own    : Option Digest := none
  partner : Option Digest := none
  /-- This cycle commits the partner's commands (R218), or makes this module the principal (R219). -/
  adopt  : Bool := false
  takeOver : Bool := false
  /-- Consecutive equal digests in an agreement check (R241). -/
  equalN : Nat := 0
  /-- The first cycle of a rejoin is not subject to WATCHDOG (R240). -/
  firstJoin : Bool := false
  joined : Bool := false
  deriving DecidableEq, Repr

/-- A role change that waits for its T_sw (R231 to R237). -/
structure RolePend where
  role  : TwinRole
  ts    : Nat
  cause : Nat
  /-- The heartbeat TS64 that decided a yield (R235). -/
  info  : Nat := 0
  deriving DecidableEq, Repr

/-- A RELINQUISH that is being sent (R232). -/
structure Relinq where
  ts    : Nat
  cause : Nat
  acked : Bool := false
  deriving DecidableEq, Repr

/-- Rejoin progress (R238 to R241); `phase` as TWN_STATUS.REJOIN_PHASE. -/
structure Rejoin where
  phase   : Nat := 0
  start   : Nat := 0
  pass    : Nat := 0
  attempt : Nat := 0
  result  : Nat := 0
  bytes   : Nat := 0
  dirty   : Nat := 0
  ms      : Nat := 0
  tJoin   : Option Nat := none
  tAssist : Option Nat := none
  retryAt : Option Nat := none
  /-- This module is the principal of the rejoin. -/
  sender  : Bool := false
  /-- Tasks whose state has been captured or has arrived. -/
  done    : List Nat := []
  /-- The principal's record of what the partner holds, page by page, and the pages still to send in this pass. -/
  sent    : Tab Byte := []
  todo    : List Nat := []
  deriving DecidableEq, Repr

/-- A frame waiting in the link transmitter: class, TYPE, TAG, FLAGS and its payload as words (R207). -/
structure TwinFrame where
  cls   : Nat
  typ   : Nat
  tag   : Nat
  last  : Bool := true
  inc   : Bool := false
  /-- Deadline or age that orders the class. -/
  order : Nat := 0
  words : List Nat := []
  data  : List Byte := []
  /-- State carried by a REJOIN_DATA frame. -/
  state : List RejoinItem := []
  deriving DecidableEq, Repr

/-- The twin block (R203 to R244). The module's own role is `mode.role`. -/
structure Twin where
  cfg      : TwinCfg := {}
  cfgLoaded : Bool := false
  lane0    : Bool := false
  lane1    : Bool := false
  locked   : Bool := false
  lockTs   : Nat := 0
  silence  : Bool := false
  silenceTs : Nat := 0
  lastFrame : Nat := 0
  lastSeq  : Nat := 0
  visible  : Bool := false
  lastSign : Nat := 0
  hbTs     : Option Nat := none
  /-- TS64 of the last heartbeat sent, and the SEQ of the next one. -/
  hbSent   : Nat := 0
  hbSeq    : Nat := 0
  /-- T_sw at which a remaining principal takes a new twin epoch (R484). -/
  rotateAt : Option Nat := none
  partnerRole : TwinRole := .solo
  partnerExec : ExecMode := .stop
  partnerPower : PowerMode := .normal
  partnerEpoch : Nat := 0
  /-- TS64 at which the partner's ROLE_EPOCH began. -/
  partnerEpochTs : Nat := 0
  partnerRx : Bool := false
  /-- Protocol version the link runs (R557). -/
  proto    : Nat := 0
  carry    : BitVec 4 := 0
  epoch    : Nat := 0
  epochTs  : Nat := 0
  swTs     : Nat := 0
  swCause  : Nat := 0
  swNew    : Nat := 0
  swOld    : Nat := 0
  tsOffset : Int := 0
  /-- TS64 since which the offset is 2 µs or more. -/
  offHigh  : Option Nat := none
  offTold  : Bool := false
  pathNs   : Nat := 0
  double   : Bool := false
  split    : Bool := false
  /-- The assistant's silence decision is taken (R234). -/
  decided  : Bool := true
  searchEnd : Option Nat := none
  search   : Bool := false
  pend     : Option RolePend := none
  relinq   : Option Relinq := none
  /-- Sectors the partner has reported failed. -/
  partnerFailed : List Nat := []
  tasks    : Tab TwinTask := []
  txQ      : List TwinFrame := []
  /-- Slots since the last STATUS frame, and the next SEQ. -/
  sinceStatus : Nat := 0
  seqTx    : Nat := 0
  /-- Channels masked for an announced pulse, with the TS64 of the unmasking (R224). -/
  masked   : List (Nat × Nat) := []
  announce : List (Nat × Nat) := []
  rejoin   : Rejoin := {}
  frameTx  : Nat := 0
  frameRx  : Nat := 0
  hdrErr   : Nat := 0
  crcErr   : Nat := 0
  lockLoss : Nat := 0
  syncRej  : Nat := 0
  snapMiss : Nat := 0
  digMiss  : Nat := 0
  diverge  : Nat := 0
  digMismatch : Nat := 0
  switchCnt : Nat := 0
  xcutCnt  : Nat := 0
  /-- Slots of classes 1 and 2, and all slots, since the last second, and the per mille shown. -/
  loadBusy : Nat := 0
  loadAll  : Nat := 0
  loadTs   : Nat := 0
  /-- TS64 of the last frame slot. -/
  slotTs   : Nat := 0
  load     : Nat := 0
  deriving DecidableEq, Repr

/-- State codes of the edit status record (R262). -/
inductive EditSt where
  | none | loaded | proving | held | cutOver | committed | failed | aborted | refused | expired | rolledBack
  deriving DecidableEq, Repr

/-- The edit in progress, or the last one (chapter 9). -/
structure Edit where
  st      : EditSt := .none
  reason  : Nat := 0
  host    : Nat := 0
  delta   : Option Delta := none
  serial  : Nat := 0
  /-- Anchor task. -/
  anchor  : Nat := 0
  cycles  : Nat := 0
  masked  : Nat := 0
  firstCycle : Nat := 0xFFFFFFFF
  firstOff   : Nat := 0
  firstBits  : Nat := 0
  tStart  : Nat := 0
  tCut    : Option Nat := none
  /-- Tasks captured into the shadow, and proof cycles of each. -/
  captured : List Nat := []
  proofN  : Tab Nat := []
  /-- The shadow's own copy of the fabric (R249): pages, blocks, slots and outputs of affected tasks, and the
  shadow lamps. -/
  shadow  : Option Fabric := none
  /-- Old program, and state of dropped items, kept for a rollback (R259). -/
  old     : Option ProgImage := none
  dropped : List MapEnt := []
  addedMap : List MapEnt := []
  /-- TS64 at which the hold or the rollback period ends. -/
  until_  : Option Nat := none
  /-- A declared cut-over is a rollback. -/
  rolling : Bool := false
  /-- Blocks whose content the cut-over replaced, as they stood at T_cut (R259). -/
  oldBlocks : Tab TcBlock := []
  /-- Affected tasks that still run the other program after T_cut. -/
  toSwitch : List Nat := []
  /-- The declared cut-over cycle C of the anchor task. -/
  cutC    : Nat := 0
  /-- An edit that has passed its checks and waits for the partner's: its delta, host and signer (R442). -/
  cand    : Option (Delta × Nat × Nat) := none
  /-- An assistant host whose proof has ended stays withdrawn until its rejoin begins (R250). -/
  back    : Bool := false
  /-- CRCs of the own and the partner's owned bytes in a proof with host ASSISTANT: task, cycle, CRC (R252). -/
  ownCrc  : List (Nat × Nat × Nat) := []
  parCrc  : List (Nat × Nat × Nat) := []
  deriving DecidableEq, Repr

end Sys2Proof.Machine
end

