-- ==== Sys2Proof/Machine/State.lean ====
section
/-!
DEFINITION. The state of the module as plain data, the reasons a step can stop, and the state after reset.
-/
namespace Sys2Proof.Machine

/-- What the module sends out, by kind. -/
inductive EmitKind where
  /-- A CAN frame; destination the port. -/
  | can
  /-- A Beam frame; destination the transmit connection; arguments sequence number, TS64 and flags. -/
  | beam
  /-- The diagnostic frame. -/
  | diag
  /-- A partner heartbeat; destination the ECN port. -/
  | heartbeat
  /-- A twin-link frame; destination its TYPE. -/
  | twin
  /-- A PRP supervision frame; destination the LAN. -/
  | prp
  /-- A PTP message; destination the ECN port; first argument its kind. -/
  | ptp
  /-- A KAP record; destination the session; first argument its TYPE. -/
  | kap
  /-- A KAP session is closed; destination the session. -/
  | kapClose
  /-- A HART request; destination the loop input; first argument the command. -/
  | hart
  /-- A wake pulse on a mailbox line; destination the mailbox. -/
  | wake
  /-- Settings pushed to a buoy; destination the socket. -/
  | buoy
  /-- A write-back of counters to a buoy. -/
  | buoyCnt
  /-- A watch-port trace frame; destination the mailbox. -/
  | trace
  /-- A write to the service tag. -/
  | tag
  deriving DecidableEq, Repr

/-- One thing sent: its kind, destination, header arguments and payload. -/
structure Emit where
  kind : EmitKind
  dest : Nat
  args : List Nat := []
  data : List Byte := []
  deriving DecidableEq, Repr

/-- The module: every block of the manual, and the queue of commands that wait. -/
structure State where
  id     : Ident := {}
  mode   : ModeBlk := {}
  /-- The running program image, and the inactive bank. -/
  img    : Option ProgImage := none
  imgAlt : Option ProgImage := none
  fab    : Fabric := {}
  rfx    : Reflex := {}
  dio    : Dio := {}
  loop   : Loop := {}
  buoy   : Buoys := {}
  can    : Tab CanPort := []
  net    : Net := {}
  beam   : Beam := {}
  kp     : Keeper := {}
  time   : TimeUnit := {}
  rtc    : Rtc := {}
  twin   : Twin := {}
  edit   : Edit := {}
  rcd    : Recorder := {}
  nvm    : Nvm := {}
  clk    : Clk := {}
  wdg    : Wdg := {}
  pwr    : Power := {}
  sec    : Sec := {}
  fw     : Fw := {}
  watch  : Watch := {}
  tag    : Tag := {}
  /-- High words latched by reads of their low words (R390), by register address. -/
  latch  : Tab Word := []
  /-- Index of the next free value (assumption log, entry 4): the model's own field. -/
  free   : Nat := 0
  /-- What the module has sent, oldest first (assumption log, entry 5): the model's own field. -/
  out    : List Emit := []
  /-- Commands waiting, first in first out. -/
  pending : List Instr := []
  deriving DecidableEq, Repr

/-- Why a step stops for good. -/
inductive Fault where
  /-- Raised by no meaning: every command of the manual has an effect, if only none. Safe. -/
  | unreachable
  deriving DecidableEq, Repr

/-- Why a step gives no meaning. -/
inductive Refusal where
  /-- Raised by the arm of a command whose meaning is not written. Safe. -/
  | notModelled (mnemonic : String)
  deriving DecidableEq, Repr

/-- The module right after reset: every register at the value the manual gives it or the assumption log names. -/
def State.reset : State := {}

end Sys2Proof.Machine
end

