-- ==== Sys2Proof/Machine/Tab.lean ====
section
/-!
DEFINITION. The sparse tables and the bit-field helpers every block of the model is written with: reading and
writing a table in its one canonical form, packing register fields, saturating counters, byte order.
-/
namespace Sys2Proof.Machine

/-- The entry at key `k`, or the default. -/
def tabGet {α : Type} (d : α) : Tab α → Nat → α
  | [], _ => d
  | (j, v) :: t, k => if j = k then v else tabGet d t k

/-- The entries at other keys than `k`. -/
def tabDel {α : Type} : Tab α → Nat → Tab α
  | [], _ => []
  | (j, v) :: t, k => if j = k then tabDel t k else (j, v) :: tabDel t k

/-- Writes `v` at key `k`; writing the default removes the entry, so equal tables are equal data. -/
def tabPut {α : Type} [DecidableEq α] (d : α) : Tab α → Nat → α → Tab α
  | [], k, v => if v = d then [] else [(k, v)]
  | (j, w) :: t, k, v =>
    if j = k then (if v = d then tabDel t k else (k, v) :: tabDel t k)
    else if k < j then (if v = d then (j, w) :: tabDel t k else (k, v) :: (j, w) :: tabDel t k)
    else (j, w) :: tabPut d t k v

/-- The canonical form below a bound: keys rising, no entry equal to the default. -/
def tabWfFrom {α : Type} [DecidableEq α] (d : α) (lo : Nat) : Tab α → Bool
  | [] => true
  | (j, w) :: t => decide (lo ≤ j) && decide (w ≠ d) && tabWfFrom d (j + 1) t

/-- A table in canonical form. -/
def tabWf {α : Type} [DecidableEq α] (d : α) (t : Tab α) : Bool := tabWfFrom d 0 t

/-- Applies `f` to the entry at key `k`. -/
def tabMod {α : Type} [DecidableEq α] (d : α) (t : Tab α) (k : Nat) (f : α → α) : Tab α :=
  tabPut d t k (f (tabGet d t k))

/-- One byte of a byte table; an unlisted byte reads 0. -/
def byteAt (m : Tab Byte) (a : Nat) : Byte := tabGet 0 m a

/-- The one canonical form of a memory: addresses rising, no byte listed that reads 0. -/
def Memory.wf (m : Tab Byte) : Bool := tabWf 0 m

/-- Writes one byte. -/
def bytePut (m : Tab Byte) (a : Nat) (v : Byte) : Tab Byte := tabPut 0 m a v

/-- The bytes of a list at rising addresses. -/
def bytesPut (m : Tab Byte) (a : Nat) : List Byte → Tab Byte
  | [] => m
  | b :: bs => bytesPut (bytePut m a b) (a + 1) bs

/-- `n` bytes from address `a`. -/
def bytesAt (m : Tab Byte) (a : Nat) : Nat → List Byte
  | 0 => []
  | n + 1 => byteAt m a :: bytesAt m (a + 1) n

/-- The little-endian half-word at `a` (R104). -/
def halfAt (m : Tab Byte) (a : Nat) : Half := byteAt m (a + 1) ++ byteAt m a

/-- The little-endian word at `a` (R104). -/
def wordAt (m : Tab Byte) (a : Nat) : Word :=
  byteAt m (a + 3) ++ byteAt m (a + 2) ++ byteAt m (a + 1) ++ byteAt m a

/-- The bytes of a half-word, least significant first. -/
def halfBytes (h : Half) : List Byte := [h.extractLsb' 0 8, h.extractLsb' 8 8]

/-- The bytes of a word, least significant first (R104). -/
def wordBytes (w : Word) : List Byte :=
  [w.extractLsb' 0 8, w.extractLsb' 8 8, w.extractLsb' 16 8, w.extractLsb' 24 8]

/-- Writes a little-endian word. -/
def wordPut (m : Tab Byte) (a : Nat) (w : Word) : Tab Byte := bytesPut m a (wordBytes w)

/-- Writes a little-endian half-word. -/
def halfPut (m : Tab Byte) (a : Nat) (h : Half) : Tab Byte := bytesPut m a (halfBytes h)

/-- The 32-bit word of a number, modulo 2^32. -/
abbrev w32 (n : Nat) : Word := BitVec.ofNat 32 n

/-- A one-bit register field at bit `k`. -/
def bitF (b : Bool) (k : Nat) : Word := if b then w32 (2 ^ k) else 0

/-- A register field: the value `n` at bit `k`. -/
def fldF (n k : Nat) : Word := w32 (n * 2 ^ k)

/-- A counter that saturates at 0xFFFF_FFFF. -/
def satInc (n : Nat) : Nat := if n < 0xFFFFFFFF then n + 1 else n

/-- Adds to a counter that saturates at 0xFFFF_FFFF. -/
def satAdd (n k : Nat) : Nat := if n + k < 0xFFFFFFFF then n + k else 0xFFFFFFFF

/-- One 32-bit payload item, most significant byte first (R595). -/
def item32 (n : Nat) : List Byte :=
  [BitVec.ofNat 8 (n / 2 ^ 24), BitVec.ofNat 8 (n / 2 ^ 16), BitVec.ofNat 8 (n / 2 ^ 8), BitVec.ofNat 8 n]

/-- One 64-bit payload item, most significant byte first (R595). -/
def item64 (n : Nat) : List Byte := item32 (n / 2 ^ 32) ++ item32 n

/-- A signed payload item in two's complement (R595). -/
def itemInt (z : Int) : List Byte := item32 (BitVec.ofInt 32 z).toNat

/-- A list of 32-bit payload items in order. -/
def items (l : List Nat) : List Byte := l.flatMap item32

/-- Replaces the element at an index. -/
def listMod {α : Type} (l : List α) (i : Nat) (f : α → α) : List α :=
  match l, i with
  | [], _ => []
  | x :: xs, 0 => f x :: xs
  | x :: xs, i + 1 => x :: listMod xs i f

/-- The first element that meets a test, removed from the list. -/
def takeFirst {α : Type} (p : α → Bool) : List α → Option (α × List α)
  | [] => none
  | x :: xs =>
    if p x then some (x, xs)
    else match takeFirst p xs with
      | none => none
      | some (y, ys) => some (y, x :: ys)

/-- The CRC-32 of R595's tables: reflected polynomial 0xEDB8_8320, one byte at a time. -/
def crc32Byte (c : Word) (b : Byte) : Word :=
  let x := c ^^^ b.zeroExtend 32
  let f := fun (y : Word) => if y.getLsbD 0 then (y >>> 1) ^^^ 0xEDB88320#32 else y >>> 1
  f (f (f (f (f (f (f (f x)))))))

/-- CRC-32 of a byte string. -/
def crc32 (bs : List Byte) : Word := ~~~ (bs.foldl crc32Byte 0xFFFFFFFF#32)

end Sys2Proof.Machine
end

