-- ==== Sys2Proof/Machine/Ops.lean ====
section
/-!
DEFINITION. The operations every block shares: time, the calendar, free values, things sent, the recorder, the NVM
requests and the mode register.
-/
namespace Sys2Proof.Machine

/-- The three outcomes of this model's commands. -/
abbrev Out := Host.Outcome State Fault Refusal

/-! ### Words and payloads -/

/-- The number of set bits among the low `n`. -/
def popN (x : Nat) : Nat → Nat
  | 0 => 0
  | n + 1 => popN x n + (if x.testBit n then 1 else 0)

/-- Set bits of a word. -/
def pop (w : Word) : Nat := popN w.toNat 32

/-- The number whose bit n is `f n`, for n below `k`. -/
def maskN (f : Nat → Bool) : Nat → Nat
  | 0 => 0
  | n + 1 => maskN f n + (if f n then 2 ^ n else 0)

/-- The word whose bit n is `f n`. -/
def maskW (f : Nat → Bool) : Word := w32 (maskN f 32)

/-- 0 or 1. -/
def b2n (b : Bool) : Nat := if b then 1 else 0

/-- A 16-byte identity, most significant byte first (R595). -/
def item128 (n : Nat) : List Byte := item64 (n / 2 ^ 64) ++ item64 n

/-- A word saturated at 32 bits. -/
def sat32 (n : Nat) : Nat := if n < 2 ^ 32 then n else 2 ^ 32 - 1

/-- A signed value saturated at 32 bits, in two's complement. -/
def satInt (z : Int) : Word :=
  if z > 0x7FFFFFFF then 0x7FFFFFFF else if z < -0x80000000 then 0x80000000 else BitVec.ofInt 32 z

/-! ### The calendar (R403) -/

/-- A leap year, counted from 2000. -/
def isLeap (y : Nat) : Bool := y % 4 == 0 && y != 100

/-- Days before year `y`, counted from 2000. -/
def daysBefore (y : Nat) : Nat := 365 * y + (y + 3) / 4 - (if y > 100 then 1 else 0)

/-- Days of a month. -/
def monthLen (y m : Nat) : Nat :=
  if m == 2 then (if isLeap y then 29 else 28)
  else if m == 4 || m == 6 || m == 9 || m == 11 then 30 else 31

/-- Days before month `m` of year `y`. -/
def monthBefore (y : Nat) : Nat → Nat
  | 0 => 0
  | 1 => 0
  | m + 1 => monthBefore y m + monthLen y m

/-- Days from 2000-01-01. -/
def calDays (c : Cal) : Nat := daysBefore c.year + monthBefore c.year c.mon + (c.day - 1)

/-- Seconds from 2000-01-01 00:00:00. -/
def calSecs (c : Cal) : Nat := calDays c * 86400 + c.hour * 3600 + c.min * 60 + c.sec

/-- The year that holds day `d`. -/
def yearOf (d : Nat) : Nat → Nat
  | 0 => 0
  | y + 1 => if daysBefore (y + 1) ≤ d then y + 1 else yearOf d y

/-- The month of year `y` that holds its day `d`. -/
def monthOf (y d : Nat) : Nat → Nat
  | 0 => 1
  | 1 => 1
  | m + 1 => if monthBefore y (m + 1) ≤ d then m + 1 else monthOf y d m

/-- Days of the 200 years of the RTC. -/
def calDaysAll : Nat := 73049

/-- The calendar `n` seconds after 2000-01-01, within the 200 years. -/
def calOfSecs (n : Nat) : Cal :=
  let t := n % (calDaysAll * 86400)
  let d := t / 86400
  let y := yearOf d 199
  let doy := d - daysBefore y
  let m := monthOf y doy 12
  { sec := t % 60, min := t / 60 % 60, hour := t / 3600 % 24, day := doy - monthBefore y m + 1, mon := m, year := y }

/-- The calendar some seconds on, with the days crossed and whether the years wrapped (R403). -/
def calAdd (c : Cal) (n : Nat) : Cal × Nat × Bool :=
  let t := calSecs c + n
  (calOfSecs t, t / 86400 - calSecs c / 86400, decide (t / 86400 ≥ calDaysAll))

/-- The RTC some ns on (R403, R404, R408): ticks, seconds, the weekday counter and WRAPPED. -/
def rtcAdvance (dt : Nat) (r : Rtc) : Rtc :=
  let a := r.acc + dt * 32768
  let sub := r.sub + a / 1000000000
  let r := { r with acc := a % 1000000000 }
  if sub < r.secLen then { r with sub := sub }
  else
    let rest := sub - r.secLen
    let (c, days, wrap) := calAdd r.cal (1 + rest / 32768)
    { r with cal := c, sub := rest % 32768, secLen := 32768, wday := (r.wday + days) % 7, wrapped := r.wrapped || wrap }

/-! ### Time -/

/-- The current TS64. -/
def now (s : State) : Nat := s.time.ts

/-- Time passes: TS64, the fabric clock and the RTC move on together. -/
def advance (dt : Nat) (s : State) : State :=
  { s with
    time := { s.time with ts := s.time.ts + dt, mono := s.time.mono + dt }
    rtc := if s.rtc.stopped then s.rtc else rtcAdvance dt s.rtc }

/-- A timed command comes about at its instant: TS64 moves on to `d` where it lies ahead (assumption log, entry 12). -/
def reach (d : Nat) (s : State) : State := if d ≤ now s then s else advance (d - now s) s

/-! ### Free values and things sent -/

/-- The next free value (assumption log, entry 4). -/
def freeNext (s : State) : Word × State := (Config.freeWord s.free, { s with free := s.free + 1 })

/-- Sends something. -/
def emit (e : Emit) (s : State) : State := { s with out := s.out ++ [e] }

/-! ### NVM requests (R501 to R509) -/

/-- Adds a commit set to the queue. -/
def nvmPush (j : NvmJob) (s : State) : State := { s with nvm := { s.nvm with jobs := s.nvm.jobs ++ [j] } }

/-- The value of a counter ring. -/
def counterGet (s : State) (c : Nat) : Nat := (tabGet {} s.nvm.counters c).value

/-- Writes a counter: the next slot with GEN one higher, as an APPEND set (R508). -/
def counterPut (c v cls : Nat) (s : State) : State :=
  let r := tabGet {} s.nvm.counters c
  let slot := (r.slot + 1) % 64
  let t := tabPut {} s.nvm.counters c { r with value := v, gen := r.gen + 1, slot := slot, valid := true }
  nvmPush { work := .counter c r.value, cls := cls, pages := [((0x040000 + 1024 * c + 16 * slot) / 256 * 256, 0)] }
    { s with nvm := { s.nvm with counters := t } }

/-- Increments a counter. -/
def counterInc (c : Nat) (s : State) : State := counterPut c (counterGet s c + 1) 1 s

/-- A JOURNAL set for one item of the settings area (R506); the items lie 64 KiB apart (assumption log, entry 13). -/
def nvmJournal (item : Nat) (s : State) : State :=
  nvmPush { work := .journal item, cls := 2, pages := [(0x280000 + 0x10000 * item, 0)] } s

/-! ### The recorder (R517 to R520) -/

/-- Length of a record in bytes (R517). -/
def recLen (r : Rec) : Nat := 24 + (r.payload.length + 3) / 4 * 4

/-- Codes subject to the rate limit, as their owning chapters name them (R520). -/
def limitedCodes : List Nat :=
  [0x0101, 0x0208, 0x0220, 0x0221, 0x0409, 0x040C, 0x0606, 0x0611, 0x0619, 0x0705, 0x0710, 0x0808, 0x0905, 0x0906,
   0x0908, 0x0909, 0x0A05, 0x0A12, 0x0A13, 0x0A14, 0x0A19, 0x0B09, 0x0B02, 0x0C01, 0x0C07, 0x0D04, 0x0F03, 0x1103,
   0x1104, 0x0820, 0x0E02, 0x0E14]

/-- The bucket of a code, with the image's values where it gives them (R520). -/
def bucketOf (s : State) (code : Nat) : Bucket :=
  let lim := s.rcd.limits.find? (fun x => x.1 == code)
  let d : Bucket := match lim with
    | some (_, rate, burst) => { rate := rate, burst := burst, tokens := burst * 1000000000 }
    | none => {}
  match s.rcd.buckets.find? (fun x => x.1 == code) with
  | some (_, b) => b
  | none => d

/-- refill(b) of R520. -/
def bucketRefill (t : Nat) (b : Bucket) : Bucket :=
  { b with tokens := min (b.burst * 1000000000) (b.tokens + b.rate * (t - b.filled)), filled := t }

/-- Sum of the lengths of records. -/
def recBytes (l : List Rec) : Nat := l.foldl (fun n r => n + recLen r) 0

/-- Bytes of the recorder ring. -/
def ringSize : Nat := 0x200000

/-- Drops the oldest records of the 64 KiB volatile ring until it fits (R523). -/
def volTrim : Nat → List Rec → List Rec
  | 0, l => l
  | n + 1, l => if recBytes l > 65536 then volTrim n (l.drop 1) else l

/-- Where the next record of `len` bytes goes from offset `off`: at the first byte when it does not fit before the
end, past every page of the bad-page map (R519). -/
def ringPlace (bad : List Nat) (len : Nat) : Nat → Nat → Nat
  | 0, off => off
  | n + 1, off =>
    let o := if off + len > ringSize then 0 else off
    match bad.find? (fun p => decide (p < o + len) && decide (o < p + 256)) with
    | none => o
    | some p => ringPlace bad len n (p + 256)

/-- Places of records from an offset. -/
def ringPlaces (bad : List Nat) : Nat → List Rec → List (Nat × Rec)
  | _, [] => []
  | off, r :: rs =>
    let o := ringPlace bad (recLen r) 9000 off
    (o, r) :: ringPlaces bad (o + recLen r) rs

/-- The pages a span of the ring touches. -/
def pagesOf (off len : Nat) : List Nat :=
  (List.range ((off + len + 255) / 256 - off / 256)).map fun i => 0x080000 + (off / 256 + i) * 256

/-- Starts the commit of the staging buffer, unless one runs (R518). -/
def flushStaged (cls : Nat) (s : State) : State :=
  if s.rcd.committing ≠ 0 ∨ s.rcd.staged = [] ∨ s.rcd.degraded then s
  else
    let places := ringPlaces s.rcd.badPages s.rcd.nextOff s.rcd.staged
    let pages := (places.flatMap fun (o, r) => pagesOf o (recLen r)).eraseDups
    nvmPush { work := .append s.rcd.staged.length, cls := cls, pages := pages.map fun p => (p, 0) }
      { s with rcd := { s.rcd with committing := s.rcd.staged.length } }

/-- A half-word, most significant byte first (R517). -/
def item16 (n : Nat) : List Byte := [BitVec.ofNat 8 (n / 256), BitVec.ofNat 8 n]

/-- The bytes of a record (R517); `len` is its LENGTH. -/
def recBytesOf (r : Rec) : List Byte :=
  let pad := (4 - r.payload.length % 4) % 4
  let b := item16 (recLen r) ++ item16 r.code ++ item16 r.source ++ item16 r.flags ++ item32 r.seq ++ item64 r.ts ++
    r.payload ++ List.replicate pad 0
  b ++ item32 (crc32 b).toNat

/-! ### The trace buffer and the selected counters (R564 to R571) -/

/-- Bytes an entry takes in the trace buffer: 16 of header and its words (R564). -/
def entBytes (e : TraceEnt) : Nat := 16 + 4 * e.words.length

/-- Bytes held in the trace buffer. -/
def traceFill (s : State) : Nat := s.watch.buf.foldl (fun n e => n + entBytes e) 0

/-- A mask of TRACE_SET admits bit n of an open stream. -/
def traceOn (s : State) (bit : Nat) : Bool := s.watch.isOpen && s.watch.srcMask.getLsbD bit

/-- The word a selection keeps of its event. -/
def selEvent (w : Word) : Nat := w.toNat % 4096

/-- A filter of a selection holds: it is not set, or the work is of the number it names. -/
def selHolds (on : Bool) (v : Nat) : Option Nat → Bool
  | some x => !on || x == v
  | none => true

/-- Counters that count event `ev` for work of a task, gallery and range go up by `n` (R569). -/
def ctrAdd (ev : Nat) (task gal range : Option Nat) (n : Nat) (s : State) : State :=
  if s.watch.sel = [] then s
  else
    let hit (w : Word) : Bool := selEvent w == ev && selHolds (w.getLsbD 24) (w.toNat / 2 ^ 12 % 16) task &&
      selHolds (w.getLsbD 25) (w.toNat / 2 ^ 16 % 16) gal && selHolds (w.getLsbD 26) (w.toNat / 2 ^ 20 % 16) range
    { s with watch := { s.watch with
      ctr := s.watch.sel.foldl (fun t x => if hit x.2 then tabMod 0 t x.1 fun v => (v + n) % 2 ^ 64 else t) s.watch.ctr } }

/-- The value of counter k. For event 1 the stored number is the fabric-clock instant at which it began. -/
def ctrValue (s : State) (k : Nat) : Nat :=
  let v := tabGet 0 s.watch.ctr k
  if selEvent (tabGet 0 s.watch.sel k) = 1 then (s.time.mono - v) / 2 else v

/-- The LOSS entry for the drops since the last one (R567). -/
def lossEnt (s : State) : TraceEnt :=
  let w := s.watch
  { kind := 8, bit := none, source := 0, ts := now s
    words := [w32 w.lossPending, w.lossMask, w32 w.lossTs, w32 (w.lossTs / 2 ^ 32)] }

/-- Bytes of the trace buffer that entries other than LOSS may fill. -/
def traceRoom : Nat := 262112

/-- Captures an entry, with the LOSS entry ahead of it that is due; or counts it as dropped. Whether a run of drops
begins with it (R567). -/
def tracePut (e : TraceEnt) (s : State) : Bool × State :=
  let w := s.watch
  let n := if w.capTs = s.time.mono / 2 then w.capN else 0
  let due := if w.lossPending = 0 then [] else [lossEnt s]
  if n + due.length + 1 ≤ 2 ∧ traceFill s + 32 * due.length + entBytes e ≤ traceRoom then
    (false, { s with watch := { w with
      buf := w.buf ++ due ++ [e], capTs := s.time.mono / 2, capN := n + due.length + 1, lossPending := 0, lossMask := 0 } })
  else
    let b := e.bit.getD 0
    let s := ctrAdd 22 none none none 1 s
    (w.lossPending == 0, { s with watch := { s.watch with
      dropCnt := satInc w.dropCnt, openDropped := w.openDropped + 1, lossCnt := tabMod 0 w.lossCnt b satInc
      lossPending := w.lossPending + 1, lossMask := w.lossMask ||| w32 (2 ^ b)
      lossTs := if w.lossPending = 0 then e.ts else w.lossTs } })

/-- Codes whose record commits the buffer within 2 ms (R518). -/
def urgentCode (code : Nat) : Bool := code / 256 == 3 || code / 256 == 0x0D || code == 0x010A || code == 0x0114

/-- Stages a record (R517, R518, R523), or keeps it until the recorder is ready (R550). -/
def stageRec (r : Rec) (s : State) : State :=
  if !s.rcd.ready then { s with rcd := { s.rcd with early := s.rcd.early ++ [r] } }
  else
  let k := { s.rcd with nextSeq := (s.rcd.nextSeq + 1) % 2 ^ 32, recCnt := satInc s.rcd.recCnt }
  if s.rcd.degraded then
    { s with rcd := { k with volRing := volTrim 4000 (k.volRing ++ [r]), volCnt := satInc k.volCnt } }
  else
    let k := { k with staged := k.staged ++ [r], stagedTs := if k.staged = [] then some r.ts else k.stagedTs }
    let s := { s with rcd := k }
    if recBytes k.staged ≥ 256 || urgentCode r.code then flushStaged 1 s else s

/-- The record of an event. -/
def recOf (s : State) (code src flags ts : Nat) (pl : List Byte) : Rec :=
  { code := code, source := src, seq := s.rcd.nextSeq, ts := ts, payload := pl.take 240
    flags := flags + (if s.time.seeded then 8 else 0) + (if s.rcd.degraded then 4 else 0) }

/-- The words of a byte string, the first byte in [31:24]. -/
def beWords (l : List Byte) : List Word :=
  (List.range ((l.length + 3) / 4)).map fun i =>
    l.getD (4 * i) 0 ++ l.getD (4 * i + 1) 0 ++ l.getD (4 * i + 2) 0 ++ l.getD (4 * i + 3) 0

/-- The EVENT entry of a staged record (R564), and whether a run of drops begins with it. -/
def traceEvent (r : Rec) (s : State) : Bool × State :=
  if traceOn s 4 && s.rcd.ready then
    tracePut { kind := 6, bit := some 4, source := r.source, ts := r.ts, words := beWords (recBytesOf r) } s
  else (false, s)

/-- on_event of R520 with the staging of a record: recorded now, or suppressed. -/
def recordBy (put : Rec → State → State) (code src : Nat) (pl : List Byte) (s : State) : State :=
  if limitedCodes.contains code then
    let b := bucketRefill (now s) (bucketOf s code)
    let keep (b : Bucket) (s : State) : State :=
      { s with rcd := { s.rcd with buckets := (code, b) :: s.rcd.buckets.filter (fun x => x.1 != code) } }
    if b.tokens ≥ 1000000000 then
      put (recOf s code src 0 (now s) pl) (keep { b with tokens := b.tokens - 1000000000 } s)
    else
      let b := if b.suppressed = 0 then { b with firstTs := now s, summaryTs := now s } else b
      let s := keep { b with suppressed := b.suppressed + 1, lastTs := now s } s
      { s with rcd := { s.rcd with suppressCnt := satInc s.rcd.suppressCnt, suppDiag := s.rcd.suppDiag + 1 } }
  else put (recOf s code src 0 (now s) pl) s

/-- Captures an entry; WATCH_LOSS is recorded as a run of drops begins, and is itself traced (R567). -/
def traceCap (e : TraceEnt) (s : State) : State :=
  let (first, s) := tracePut e s
  if first then
    recordBy (fun r s => (traceEvent r (stageRec r s)).2) 0x1104 0 (items [traceFill s, s.watch.srcMask.toNat]) s
  else s

/-- Stages a record and traces it. -/
def stagePut (r : Rec) (s : State) : State :=
  let s := stageRec r s
  if traceOn s 4 && s.rcd.ready then
    traceCap { kind := 6, bit := some 4, source := r.source, ts := r.ts, words := beWords (recBytesOf r) } s
  else s

/-- Stages a record of an event that is not subject to the rate limit, at its own time. -/
def stage (code src flags ts : Nat) (pl : List Byte) (s : State) : State := stagePut (recOf s code src flags ts pl) s

/-- on_event of R520: records an event now, or suppresses it. -/
def record (code src : Nat) (pl : List Byte) (s : State) : State := recordBy stagePut code src pl s

/-- A 32-bit word that changed from `old` to `new`, in a task's view (direction 0) or output (1), is traced (R564). -/
def traceImage (k dir a src : Nat) (old new : Word) (cycle : Nat) (s : State) : State :=
  if old = new then s
  else traceCap { kind := 3, bit := some 1, source := src, ts := now s
                  words := [fldF k 0 ||| fldF dir 8, w32 a, old, new, w32 cycle] } s

/-- Inserts a number into an ascending list without repeats. -/
def natInsert (n : Nat) : List Nat → List Nat
  | [] => [n]
  | x :: xs => if n < x then n :: x :: xs else if n = x then x :: xs else x :: natInsert n xs

/-- The aligned words of two byte memories that differ are traced at base `b`, in ascending order (R564, R565). -/
def traceImages (k dir b src cycle : Nat) (old new : Tab Byte) (s : State) : State :=
  if traceOn s 1 && s.watch.taskMask.getLsbD k then
    let as := (old ++ new).foldr (fun x l => natInsert (x.1 / 4 * 4) l) []
    as.foldl (fun s a => traceImage k dir (b + a) src (wordAt old a) (wordAt new a) cycle s) s
  else s

/-! ### Beam key epochs (R484, R485) -/

/-- Counter of an epoch: 7 node, 8 twin (R509). -/
def epochCounter (twin : Bool) : Nat := if twin then 8 else 7

/-- A Beam transmit epoch is incremented, or is exhausted at 0xFFFF; cause 1 KEY_ROTATE, 2 power-up, 3 step of TS64,
4 end of a double principal. -/
def epochBump (twin : Bool) (cause : Nat) (s : State) : State :=
  let e := counterGet s (epochCounter twin)
  if 0xFFFF ≤ e then
    let s := if twin then { s with sec := { s.sec with twinEpochOut := true } }
      else { s with sec := { s.sec with nodeEpochOut := true } }
    record 0x0D12 0 (items [1 + b2n twin]) s
  else record 0x0D09 0 (items [1, 1 + b2n twin, e + 1, cause]) (counterPut (epochCounter twin) (e + 1) 1 s)

/-- Both epochs are incremented. -/
def epochBumps (cause : Nat) (s : State) : State := epochBump true cause (epochBump false cause s)

/-! ### The mode register (R23, R273) -/

/-- MOD_MODE.EXEC. -/
def execCode : ExecMode → Nat
  | .stop => 0 | .run => 1 | .proof => 2 | .safe => 3

/-- MOD_MODE.ROLE. -/
def roleCode : TwinRole → Nat
  | .solo => 0 | .principal => 1 | .assistant => 2 | .rejoining => 3 | .isolated => 4 | .noRole => 5

/-- MOD_MODE.POWER. -/
def powerCode : PowerMode → Nat
  | .normal => 0 | .rideThrough => 1 | .saving => 2

/-- MOD_MODE. -/
def modeWord (s : State) : Word :=
  fldF s.mode.seq 24 ||| bitF s.mode.maint 16 ||| fldF (powerCode s.mode.power) 12 |||
    bitF (!s.fab.forces.isEmpty) 8 ||| fldF (roleCode s.mode.role) 4 ||| fldF (execCode s.mode.exec) 0

/-- A change of mode: `f` is applied, and when a field of MOD_MODE changes MODE_SEQ increments and MODE_CHANGE is
recorded with the trigger (R273; trigger numbers in the assumption log, entry 14). -/
def modeChange (trig : Nat) (f : State → State) (s : State) : State :=
  let o := modeWord s
  let s := f s
  if modeWord s = o then s
  else
    let s := { s with mode := { s.mode with seq := (s.mode.seq + 1) % 256 } }
    record 0x0110 0 (items [o.toNat, (modeWord s).toNat, trig]) s

/-- Sets EXEC. -/
def setExec (trig : Nat) (m : ExecMode) (s : State) : State :=
  modeChange trig (fun s => { s with mode := { s.mode with exec := m } }) s

/-- The tasks scan: EXEC is RUN or PROOF. -/
def scanning (s : State) : Bool := s.mode.exec == .run || s.mode.exec == .proof

/-- TIME_QUALIFIED (R398). -/
def timeQualified (s : State) : Bool :=
  decide (s.time.selected ≤ 2) || (s.time.switching && decide (s.time.target ≤ 2))

/-- The module is configured for twin operation. -/
def twinOn (s : State) : Bool := s.twin.cfg.en

end Sys2Proof.Machine
end

