-- ==== Sys2Proof/Machine/Field.lean ====
section
/-!
DEFINITION. Ownership and service of the field: which task owns an output byte, which sector is in service, which
module drives, which force applies.
-/
namespace Sys2Proof.Machine

/-- The character of task k in the running image. -/
def taskCfg (s : State) (k : Nat) : TaskCfg :=
  match s.img with
  | none => {}
  | some p => tabGet {} p.tasks k

/-- The chart of task k in the running image. -/
def taskChart (s : State) (k : Nat) : List GroupCfg :=
  match s.img with
  | none => []
  | some p => tabGet [] p.chart k

/-- A task at run time. -/
def taskOf (s : State) (k : Nat) : Task := tabGet {} s.fab.tasks k

/-- Changes a task. -/
def taskMod (k : Nat) (f : Task → Task) (s : State) : State :=
  { s with fab := { s.fab with tasks := tabMod {} s.fab.tasks k f } }

/-- A gallery. -/
def galOf (s : State) (g : Nat) : Gallery := tabGet {} s.fab.gal g

/-- Changes a gallery. -/
def galMod (g : Nat) (f : Gallery → Gallery) (s : State) : State :=
  { s with fab := { s.fab with gal := tabMod {} s.fab.gal g f } }

/-- The tasks the image defines, in ascending number. -/
def tasksUsed (s : State) : List Nat := (List.range 16).filter fun k => (taskCfg s k).used

/-- A byte of a reserved region of the output image, whose writes are discarded (R34, R303, R322). -/
def outReserved (off : Nat) : Bool :=
  (decide (8 ≤ off) && decide (off < 0x100)) || (decide (0x120 ≤ off) && decide (off < 0x200)) ||
    (decide (0x209 ≤ off) && decide (off < 0x1000))

/-- The owner of an output-image byte (R37); a reserved byte has none (R34). -/
def ownerIn (p : ProgImage) (off : Nat) : Option Nat :=
  if outReserved off then none
  else (p.outOwners.find? fun o => decide (o.off ≤ off) && decide (off < o.off + o.len)).map OutOwner.task

/-- The owner of an output-image byte in the running image (R37). -/
def ownerOf (s : State) (off : Nat) : Option Nat := s.img.bind fun p => ownerIn p off

/-- The galleries of a sector (R30). -/
def sectorGals (s : State) (sec : Nat) : List Nat :=
  match s.img with
  | none => []
  | some p => (List.range 16).filter fun g => (tabGet {} p.gal g).sector == some sec

/-- The state of a sector: that of its lowest gallery. -/
def sectorState (s : State) (sec : Nat) : SectorState :=
  match sectorGals s sec with
  | [] => .unassigned
  | g :: _ => (galOf s g).sstate

/-- Sets SSTATE of every gallery of a sector. -/
def setSector (sec : Nat) (st : SectorState) (s : State) : State :=
  (sectorGals s sec).foldl (fun s g => galMod g (fun x => { x with sstate := st, sector := sec }) s) s

/-- The tasks of a sector. -/
def sectorTasks (s : State) (sec : Nat) : List Nat := (tasksUsed s).filter fun k => (taskCfg s k).sector == sec

/-- A socket. -/
def sockOf (s : State) (b : Nat) : Sock := tabGet {} s.buoy.socks b

/-- The buoy's field side is enabled: authenticated and configured (R329). -/
def fieldOn (s : State) (b : Nat) : Bool := (sockOf s b).st == .inService

/-- The buoy serves its channels: field side enabled and not in EXCHANGE (R334). -/
def buoyServes (s : State) (b : Nat) : Bool := fieldOn s b && !(sockOf s b).exch

/-- Less than `d` ns have passed since socket b left EXCHANGE (R337). -/
def exchWait (s : State) (b d : Nat) : Bool :=
  match (sockOf s b).exchEnd with
  | none => false
  | some t => decide (now s < t + d)

/-- A proof run with host ASSISTANT is in progress: the principal carries the field alone (R250). -/
def editApart (s : State) : Bool := (s.mode.exec == .proof && s.edit.host == 3) || s.edit.back

/-- This module is the assistant host of an edit, withdrawn from the field (R250, R270). -/
def assistHost (s : State) : Bool := editApart s && s.mode.role == .assistant

/-- The module's role lets it drive digital outputs (R204, R250). -/
def roleDrives (s : State) : Bool :=
  !assistHost s && match s.mode.role with
  | .solo | .principal | .assistant => true
  | _ => false

/-- The module's role lets it send Beam frames of its tasks and CAN frames (R227, R235, R250). -/
def roleSends (s : State) : Bool :=
  !assistHost s && !(twinOn s && (s.mode.role == .rejoining || s.mode.role == .isolated || s.mode.role == .noRole))

/-- The task commits to the field: it runs, has taken a strobe, and its sector and the module are in service. -/
def taskLive (s : State) (k : Nat) : Bool :=
  let t := taskOf s k
  scanning s && s.mode.power != .saving && (t.mode == .running) && t.strobed && !t.ended

/-- The force that applies to an output point, through the task that owns it (R272, R275). -/
def outForce (s : State) (k kind idx : Nat) : Option Word :=
  if taskLive s k then
    ((taskOf s k).outForces.find? fun f => f.kind == kind && f.index == idx).map ForcePoint.value
  else none

/-- The partner carries DO group g (R221). -/
def partnerCarries (s : State) (g : Nat) : Bool := s.twin.carry.getLsbD g

/-- The partner carries every group: it is seen in a carrying role. -/
def partnerUp (s : State) : Bool :=
  s.twin.visible && (s.twin.partnerRole == .principal || s.twin.partnerRole == .assistant)

end Sys2Proof.Machine
end

