-- ==== Sys2Proof/Machine/Mailbox.lean ====
section
/-!
DEFINITION. Mailboxes (chapter 17): messages, acknowledges, program notes and wakes.
-/
namespace Sys2Proof.Machine

/-- A mailbox. -/
def mbxOf (s : State) (m : Nat) : Mbx := tabGet {} s.kp.mbx m

/-- Changes a mailbox. -/
def mbxMod (m : Nat) (f : Mbx → Mbx) (s : State) : State :=
  if m < 26 then { s with kp := { s.kp with mbx := tabMod {} s.kp.mbx m f } } else s

/-- OPCODE of a header word. -/
def hdrOp (w : Word) : Nat := w.toNat / 65536
/-- TAG of a header word. -/
def hdrTag (w : Word) : Nat := w.toNat / 256 % 256
/-- LEN of a header word. -/
def hdrLen (w : Word) : Nat := w.toNat % 256

/-- A header word. -/
def hdrWord (op tag len : Nat) : Word := fldF op 16 ||| fldF (tag % 256) 8 ||| fldF len 0

/-- The 16 words a direction reads after a write of word 0 (R416). -/
def msgWords (ws : List Word) : List Word :=
  let h := ws.getD 0 0
  (List.range 16).map fun i => if i = 0 then h else if i < hdrLen h then ws.getD i 0 else 0

/-- POLL_ONLY of an FK direction (R415). -/
def pollOnly (m : Nat) : Bool := m == 24 || m == 25

/-- WAKE_EN of the FK direction of mailbox m: while bound or powered (R434). -/
def wakeEn (s : State) (m : Nat) : Bool :=
  if m < 8 then (mbxOf s m).session.isSome
  else if m < 24 then decide ((galOf s (m - 8)).power ≠ .off) || (galOf s (m - 8)).wakePending
  else false

/-- A direction after a write of word 0, and whether it overwrote a message (R416). -/
def dirWrite (ws : List Word) (d : MbxDir) : MbxDir :=
  { d with words := msgWords ws, full := true, ack := { d.ack with valid := false }, collision := d.full
           collCnt := if d.full then (d.collCnt + 1) % 256 else d.collCnt }

/-- The receiver writes the acknowledge (R417). -/
def dirAck (tag rc : Nat) (d : MbxDir) : MbxDir := { d with full := false, ack := { valid := true, tag := tag, rc := rc } }

/-- TAG of the held message. -/
def dirTag (d : MbxDir) : Nat := hdrTag (d.words.getD 0 0)

/-- A sender writes word 0 of the TK direction (R416). -/
def tkWrite (m : Nat) (ws : List Word) (s : State) : State :=
  let d := (mbxOf s m).tk
  let s := mbxMod m (fun x => { x with tk := dirWrite ws x.tk }) s
  if d.full then
    record 0x0C01 0 (items [m, 0, dirTag d, hdrTag (ws.getD 0 0)])
      { s with kp := { s.kp with collisionCnt := satInc s.kp.collisionCnt } }
  else s

/-- UNIT_DOWN on a gallery's FK direction (R430); cause 1 supply fault, 2 unassigned. -/
def unitDown (g cause : Nat) (s : State) : State :=
  let d := (mbxOf s (8 + g)).fk
  if d.full then
    let s := mbxMod (8 + g) (fun x => { x with fk := dirAck (dirTag d) 0x0401 x.fk }) s
    record 0x0C02 0 (items [8 + g, dirTag d, cause])
      { s with kp := { s.kp with unitDownCnt := satInc s.kp.unitDownCnt } }
  else s

/-- The keeper writes an FK message and the far end is woken (R415, R416); never over a held one (R418). -/
def fkWrite (m : Nat) (ws : List Word) (s : State) : State :=
  if (mbxOf s m).fk.full then s
  else
    let s := mbxMod m (fun x => { x with fk := dirWrite ws x.fk, fkEpoch := s.kp.epoch }) s
    if m < 8 then if wakeEn s m then emit { kind := .wake, dest := m } s else s
    else if m < 24 then
      let g := m - 8
      if (galOf s g).powerFault then unitDown g 1 s
      else
        let s := if (galOf s g).power ≠ .on ∧ !(galOf s g).wakePending then
            galMod g (fun x => { x with wakePending := true, wakeCause := 3 }) s else s
        emit { kind := .wake, dest := m } s
    else s

/-- The words of a reply (R417, chapter 17). -/
def replyWords (r : Reply) : List Word :=
  [hdrWord r.opcode r.tag (2 + min 14 r.data.length), fldF r.rc 16] ++ r.data.take 14

/-- The next waiting reply of a host mailbox enters FK. -/
def fkNext (m : Nat) (s : State) : State :=
  match (mbxOf s m).fk.full, (mbxOf s m).replyQ with
  | false, r :: rs => fkWrite m (replyWords r) (mbxMod m (fun x => { x with replyQ := rs }) s)
  | _, _ => s

/-- A reply for a host mailbox: at once, or behind those held (R418). -/
def replyTo (m : Nat) (r : Reply) (s : State) : State :=
  fkNext m (mbxMod m (fun x => { x with replyQ := x.replyQ ++ [{ r with epoch := s.kp.epoch }] }) s)

/-- MBX_WORD0_WRITE: `ws` holds the header and the staging words (R416, R418). -/
def opWord0Write (m : Nat) (tk : Bool) (ws : List Word) (s : State) : State :=
  if m < 26 then (if tk then tkWrite m ws s else fkWrite m ws s) else s

/-- A lamp writes RCTL_MBX_IN_ACK of gallery g (R420). -/
def inAckWrite (g : Nat) (w : Word) (s : State) : State :=
  let d := (mbxOf s (8 + g)).fk
  if d.full && hdrTag w == dirTag d then
    mbxMod (8 + g) (fun x => { x with fk := dirAck (hdrTag w) (hdrOp w) x.fk }) s
  else { s with kp := { s.kp with ackIgnored := satInc s.kp.ackIgnored } }

/-- An acknowledge register as it reads. -/
def ackWord (a : Ack) : Word := fldF a.rc 16 ||| fldF a.tag 8 ||| bitF a.valid 0

/-- The flags byte of a direction. -/
def flagsByte (d : MbxDir) (poll wake : Bool) : Word := bitF poll 3 ||| bitF wake 2 ||| bitF d.collision 1 ||| bitF d.full 0

/-- RCTL_MBX_FLAGS of gallery g. -/
def mbxFlags (s : State) (g : Nat) : Word :=
  let x := mbxOf s (8 + g)
  flagsByte x.fk false (wakeEn s (8 + g)) ||| (flagsByte x.tk false false <<< 8)

/-- MBX_WORD0_WRITE (R416). -/
def execMbxWord0Write (m : Nat) (tk : Bool) (ws : List Word) (s : State) : Out := .next (opWord0Write m tk ws s)
/-- MBX_IN_ACK_WRITE (R420). -/
def execMbxInAckWrite (g : Nat) (w : Word) (s : State) : Out := .next (if g < 16 then inAckWrite g w s else s)

end Sys2Proof.Machine
end

