-- ==== Sys2Proof/Machine/Reflex.lean ====
section
/-!
DEFINITION. Input decisions as the network sees them, the reflex network (chapter 6), and the value delivered to
every DO latch.
-/
namespace Sys2Proof.Machine

/-! ### Input decisions (R283, R286, R288, R289, R596) -/

/-- One digital input. -/
def diOf (s : State) (n : Nat) : DiCh := tabGet {} s.dio.di n

/-- Its settings. -/
def diCfg (s : State) (n : Nat) : DiChCfg := tabGet {} s.dio.cfg.di n

/-- A test-pulse source. -/
def srcOf (s : State) (k : Nat) : TpSrc := tabGet {} s.dio.srcs k

/-- The channel is under TP_FAULT, its own or its source's (R289). -/
def diTpFault (s : State) (n : Nat) : Bool :=
  (diOf s n).tpFault || ((diCfg s n).tpEn && (srcOf s (diCfg s n).tpSrc).srcFault)

/-- The channel's supply group is MISSING (R286). -/
def diMissing (s : State) (n : Nat) : Bool := (tabGet ({} : DiGroup) s.dio.groups (n / 16)).missing

/-- The debounced decision. -/
def diDeb (s : State) (n : Nat) : Bool :=
  fieldOn s 0 && (diOf s n).deb && !diMissing s n && !diTpFault s n

/-- The bypass decision. -/
def diByp (s : State) (n : Nat) : Bool := fieldOn s 0 && (diOf s n).byp

/-- The channel's reading is invalid (R215, R286, R289, R329, R334, R337). -/
def diInvalid (s : State) (n : Nat) : Bool :=
  !buoyServes s 0 || exchWait s 0 (max 5000000 (1000 * (diCfg s n).deb)) || diMissing s n || diTpFault s n

/-! ### End of a proof run (R254) -/

/-- The placement of the shadow's host. -/
def shadowPlace (s : State) : Option Placement :=
  match s.edit.delta with
  | none => none
  | some d => if s.edit.host == 1 then d.spare else if s.edit.host == 2 then d.gallery else none

/-- Releases the ranges or galleries of the shadow host. -/
def releaseHost (s : State) : State :=
  match shadowPlace s with
  | none => s
  | some p =>
    if s.edit.host == 1 then
      p.ranges.foldl (fun s (g, r) => galMod g (fun x =>
        { x with ranges := tabMod {} x.ranges r fun y =>
                   if y.st == .lent then
                     if y.split then { y with st := .spare, changing := true, chgTrig := 3, chgSplit := false } else { y with st := .spare }
                   else y
                 lent := x.lent &&& ~~~(BitVec.ofNat 16 (2 ^ r)) }) s) s
    else p.gals.foldl (fun s g => galMod g (fun x => { x with sstate := .unassigned }) s) s

/-- Stops the shadow, releases its host and returns to RUN (R254). An assistant host returns through a rejoin (R250). -/
def proofRelease (s : State) : State :=
  let s := releaseHost s
  let back := assistHost s
  let s := { s with
    img := if back then s.edit.old.or s.img else s.img
    edit := { s.edit with shadow := none, captured := [], ownCrc := [], parCrc := [], back := back
                          toSwitch := if back then [] else s.edit.toSwitch }
    rfx := { s.rfx with proof := false }
    mode := { s.mode with declared := s.mode.declared.filter fun d => d.kind != .proofStart && d.kind != .cutOver } }
  let s := if back then { s with twin := { s.twin with pend := some { role := .rejoining, ts := now s, cause := 0 } } } else s
  if s.mode.exec == .proof then setExec 4 .run s else s

/-- A proof run, or a held verdict, is in progress. -/
def proving (s : State) : Bool :=
  s.edit.st == .proving || s.edit.st == .held || s.edit.st == .loaded

/-- In a twin whose modules both run a shadow, a failed proof is told to the partner in a PROOF frame (R250, R254). -/
def proofTell (reason : Nat) (s : State) : State :=
  if twinOn s && s.twin.locked && s.edit.host != 3 && reason != 5 then
    { s with twin := { s.twin with txQ := s.twin.txQ ++ [{ cls := 4, typ := 9, tag := 0, words := [3] }] } }
  else s

/-- The proof fails: reason, task, CYCLE and the differing byte (R254). -/
def proofFail (reason task cycle off bits : Nat) (s : State) : State :=
  if proving s then
    let s := { s with edit := { s.edit with st := .failed, reason := reason } }
    let s := proofRelease (proofTell reason s)
    record 0x0505 0 (items [reason, task, cycle, off, bits])
      { s with rfx := { s.rfx with alt := none }, edit := { s.edit with delta := none } }
  else s

/-- The proof is aborted (R254). -/
def proofAbort (reason : Nat) (s : State) : State :=
  if proving s then
    let s := { s with edit := { s.edit with st := .aborted, reason := reason } }
    let s := proofRelease s
    record 0x0506 0 (items [reason]) { s with rfx := { s.rfx with alt := none }, edit := { s.edit with delta := none } }
  else s

/-! ### The network (R161 to R165) -/

/-- A committed output-image bit. -/
def outBitAt (s : State) (off bit : Nat) : Bool := (byteAt s.fab.outImg off).getLsbD bit

/-- The value of a selector, given the outputs of lower cells. -/
def rfxSource (s : State) (c : RfxCfg) (outs sel : Nat) : Bool :=
  if sel < 0x40 then diDeb s sel
  else if sel < 0x80 then diByp s (sel - 0x40)
  else if sel < 0xC0 then s.rfx.req.getLsbD (sel - 0x80)
  else if sel < 0x1C0 then
    match tabGet none c.taps (sel - 0xC0) with
    | some (off, bit) => outBitAt s off bit
    | none => false
  else if sel == 0x1C1 then true
  else if 0x200 ≤ sel && sel < 0x600 then outs.testBit (sel - 0x200)
  else false

/-- The outputs of all cells, cell c at bit c; cells lie in rising level (R161, R163). -/
def rfxCells (s : State) (c : RfxCfg) : Nat :=
  c.cells.foldl (fun outs (k, cell) =>
    let i := b2n (rfxSource s c outs cell.sel0) + 2 * b2n (rfxSource s c outs cell.sel1) +
      4 * b2n (rfxSource s c outs cell.sel2) + 8 * b2n (rfxSource s c outs cell.sel3)
    if cell.truth.getLsbD i then outs + 2 ^ k else outs) 0

/-- Terms of a configuration: the cell each channel names, or 0 (R166). -/
def termsOf (outs : Nat) (t : Tab (Option Nat)) : Word :=
  maskW fun n => match tabGet none t n with
    | some c => outs.testBit c
    | none => false

/-- OFF and ON terms of a configuration on the present sources. -/
def rfxTerms (s : State) (c : Option RfxCfg) : Word × Word :=
  match c with
  | none => (0, 0)
  | some c => let outs := rfxCells s c; (termsOf outs c.offCell, termsOf outs c.onCell)

/-- The proof evaluator's comparison outside the expected-change mask (R178); a difference fails the proof. -/
def rfxProofCompare (s : State) : State :=
  if s.rfx.proof && s.rfx.alt.isSome then
    let (o, n) := rfxTerms s s.rfx.alt
    let m : BitVec 64 := match s.edit.delta with
      | some d => d.rfxMask
      | none => 0
    let d := ((n ^^^ s.rfx.on) ++ (o ^^^ s.rfx.off)) &&& ~~~m
    if d = 0 then { s with rfx := { s.rfx with proofDiffNow := false } }
    else
      let s := { s with rfx := { s.rfx with proofDiffNow := true, proofDiffCnt := satInc s.rfx.proofDiffCnt } }
      proofFail 2 s.edit.anchor (taskOf s s.edit.anchor).cycle 0 0 s
  else s

/-- A source may have changed: the terms are evaluated, and changed terms start on their way to the latches (R171). -/
def rfxUpdate (s : State) : State :=
  let (off, on) := rfxTerms s s.rfx.act
  let s :=
    if off = s.rfx.off ∧ on = s.rfx.on then s
    else
      let rise := pop (off &&& ~~~s.rfx.off)
      { s with rfx := { s.rfx with
          off := off, on := on, offActCnt := satAdd s.rfx.offActCnt rise
          path := s.rfx.path ++ [{ due := now s + 120, off := off, on := on }] } }
  rfxProofCompare s

/-! ### The DO latches (R166, R167, R264) -/

/-- The sector that owns channel n's output bit is in RUN, and the module runs (R167). -/
def onAllowed (s : State) (n : Nat) : Bool :=
  scanning s && match ownerOf s (n / 8) with
    | none => false
    | some k => sectorState s (taskCfg s k).sector == .run

/-- The command committed at the owner's most recent strobe, 0 where the owner does not commit (R264, R265). -/
def doImage (s : State) (n : Nat) : Bool :=
  match ownerOf s (n / 8) with
  | none => false
  | some k => taskLive s k && outBitAt s (n / 8) (n % 8)

/-- do_latch(n) with the terms as they stand at the latch; `h` takes held(n) into account (R166). -/
def doLatch (s : State) (h : Bool) (n : Nat) : Bool :=
  if h && s.rfx.held.getLsbD n then false
  else if s.rfx.latOff.getLsbD n then false
  else
    match (ownerOf s (n / 8)).bind fun k => outForce s k 2 n with
    | some v => v.getLsbD 0
    | none => if s.rfx.latOn.getLsbD n && onAllowed s n then true else doImage s n

/-- The commanded value of R170: do_latch(n) with held(n) taken as 0. -/
def doCmd (s : State) (n : Nat) : Bool := doLatch s false n

/-! ### Drive and readback -/

/-- A DO channel. -/
def dchOf (s : State) (n : Nat) : DoCh := tabGet {} s.dio.dch n

/-- Changes a DO channel. -/
def dchMod (n : Nat) (f : DoCh → DoCh) (s : State) : State :=
  if n < 32 then { s with dio := { s.dio with dch := tabMod {} s.dio.dch n f } } else s

/-- A DO group. -/
def dgrpOf (s : State) (g : Nat) : DoGroup := tabGet {} s.dio.dgrp g

/-- The group cut is open (R300). -/
def cutIsOpen (s : State) (g : Nat) : Bool := (dgrpOf s g).safe || (dgrpOf s g).latched != 0

/-- The driver of channel n is on. -/
def doDrive (s : State) (n : Nat) : Bool :=
  let c := dchOf s n
  let v := match c.test with
    | some t => !t.dark
    | none => doLatch s true n
  v && roleDrives s && buoyServes s 1 && !(dgrpOf s (n / 8)).waits && !s.dio.supMissing && !c.short && !c.overload && !cutIsOpen s (n / 8)

/-- The readback of a healthy load after a change of drive (assumption log, entry 15): DRV follows the driver, LINE
follows it too, or the command while a partner drives the shared line. -/
def outsUpdate (s : State) : State :=
  let drv := maskW (doDrive s)
  let line := maskW fun n =>
    doDrive s n || (partnerUp s && partnerCarries s (n / 8) && doCmd s n && !cutIsOpen s (n / 8))
  { s with dio := { s.dio with drv := drv, line := line } }

/-- A test pulse that is not done (R299): counted, shown and recorded. -/
def testNotDone (n : Nat) (dark requested : Bool) (cause : Nat) (s : State) : State :=
  let s := dchMod n (fun c => { c with
    test := none, notDone := true, reqNotDone := c.reqNotDone || requested
    reqDue := if requested then none else c.reqDue }) s
  let s := { s with dio := { s.dio with skipCnt := satInc s.dio.skipCnt } }
  record 0x0619 (0x0240 + n) (items [n, if dark then 2 else 1, cause]) s

/-- Why a pulse on channel n may not run now, by its place in R299; 5 is the mode, 6 the supply. -/
def testBar (s : State) (n : Nat) (dark : Bool) : Option Nat :=
  if !scanning s then some 5
  else if s.dio.supMissing then some 6
  else if s.rfx.latOff.getLsbD n then some 1
  else if !dark && twinOn s && (s.mode.role != .principal || !s.twin.locked) then some 3
  else if (dchOf s n).short || (dchOf s n).overload then some 4
  else none

/-- Ends the running pulses that R299 no longer allows. -/
def testsCheck (s : State) : State :=
  (List.range 32).foldl (fun s n =>
    match (dchOf s n).test with
    | none => s
    | some t => match testBar s n t.dark with
      | none => s
      | some c => testNotDone n t.dark t.requested c s) s

/-- The latches may have changed: pulses barred now end, and the drives follow. -/
def latchUpdate (s : State) : State := outsUpdate (testsCheck s)

/-- Terms whose time has come reach the latches (R171). -/
def rfxDrain (t : Nat) : List RfxPath → State → State
  | [], s => s
  | p :: ps, s =>
    if p.due ≤ t then
      rfxDrain t ps (latchUpdate { s with rfx := { s.rfx with path := ps, latOff := p.off, latOn := p.on } })
    else s

/-! ### Commands of the network -/

/-- A source change reaches the latches 60 fc after it (R171). -/
def opReflexSourceChange (s : State) : State :=
  match s.rfx.path with
  | [] => s
  | p :: _ => let s := reach p.due s; rfxDrain (now s) s.rfx.path s

/-- Channels with an OFF or ON cell. -/
def rfxChannels (c : Option RfxCfg) : Word :=
  match c with
  | none => 0
  | some c => maskW fun n => (tabGet none c.offCell n).isSome || (tabGet none c.onCell n).isSome

/-- The terms of copy B as the comparison sees them (R173, R174): each onset holds its channels off. -/
def opReflexMismatch (offB onB : Word) (s : State) : State :=
  let d := (s.rfx.off ^^^ offB) ||| (s.rfx.on ^^^ onB)
  let new := d &&& ~~~s.rfx.termDiff
  let s := { s with rfx := { s.rfx with termDiff := d } }
  if new = 0 then s
  else
    let s := { s with rfx := { s.rfx with
      held := s.rfx.held ||| new, mismatchCnt := satAdd s.rfx.mismatchCnt (pop new)
      lastTs := now s, lastMask := new } }
    latchUpdate (record 0x0220 0x0300 (items [new.toNat] ++ items [s.rfx.on.toNat, s.rfx.off.toNat] ++
      items [onB.toNat, offB.toNat] ++ item64 (now s)) s)

/-- The lane of copy B as the buoy receives it (R173, R174). -/
def opReflexLane (laneB : Word) (s : State) : State :=
  let a := maskW (doLatch s true)
  let d := a ^^^ laneB
  let new := d &&& ~~~s.rfx.laneDiff
  let s := { s with rfx := { s.rfx with laneDiff := d } }
  if new = 0 then s
  else
    let s := { s with rfx := { s.rfx with
      held := s.rfx.held ||| new, laneCnt := satAdd s.rfx.laneCnt (pop new)
      lastTs := now s, lastMask := new } }
    latchUpdate (record 0x0221 0x0300 (items [new.toNat, a.toNat, laneB.toNat]) s)

/-- A background check pass ends: the first differing word, and the CRC of each copy (R175). -/
def opReflexCheck (diff : Option Nat) (crcA crcB : Word) (s : State) : State :=
  match s.rfx.act with
  | none => s
  | some c =>
    if diff.isNone && crcA == c.id && crcB == c.id then s
    else
      let m := rfxChannels s.rfx.act
      let s := { s with rfx := { s.rfx with
        held := s.rfx.held ||| m, cfgFault := true, cfgFaultCnt := satInc s.rfx.cfgFaultCnt
        lastTs := now s, lastMask := m } }
      let pl := match diff with
        | some w => items [w]
        | none => items [crcA.toNat, crcB.toNat]
      latchUpdate (record 0x0222 0x0300 pl s)

/-- The reflex-reset of R176: `ok` is the result of its check pass. Answers the channels released and still held. -/
def reflexReset (ok : Bool) (s : State) : (Word × Word) × State :=
  let rel := if ok then s.rfx.held &&& ~~~(s.rfx.termDiff ||| s.rfx.laneDiff) else 0
  let held := s.rfx.held &&& ~~~rel
  let s := { s with rfx := { s.rfx with held := held, cfgFault := s.rfx.cfgFault && !ok } }
  ((rel, held), latchUpdate (record 0x0224 0x0300 (items [rel.toNat, held.toNat]) s))

/-- A configuration takes effect at once (R177). -/
def rfxLoad (c : Option RfxCfg) (s : State) : State :=
  match c with
  | none => s
  | some c => rfxUpdate { s with rfx := { s.rfx with act := some c, alt := none } }

/-- The banks swap (R179); cause 1 cut-over, 2 rollback. -/
def rfxSwap (cause : Nat) (s : State) : State :=
  match s.rfx.alt with
  | none => s
  | some n =>
    let oldId := match s.rfx.act with
      | some c => c.id
      | none => 0
    let s := { s with rfx := { s.rfx with act := some n, alt := s.rfx.act, bank := !s.rfx.bank, proof := false } }
    rfxUpdate (record 0x0223 0x0300 (items [oldId.toNat, n.id.toNat, cause]) s)

/-- Safe values of the request bits of tasks that meet `p` (R165, R52). -/
def reqSafe (p : Nat → Bool) (s : State) : State :=
  let safe : BitVec 64 := match s.rfx.act with
    | some c => c.safe
    | none => 0
  let own : Nat := maskN (fun n => match ownerOf s (0x200 + n / 8) with
    | some k => p k
    | none => false) 64
  let m := BitVec.ofNat 64 own
  rfxUpdate { s with rfx := { s.rfx with req := (s.rfx.req &&& ~~~m) ||| (safe &&& m) } }

/-! ### The meanings -/

/-- REFLEX_SOURCE_CHANGE (R171). -/
def execReflexSourceChange (s : State) : Out := .next (opReflexSourceChange s)

/-- REFLEX_MISMATCH (R174). -/
def execReflexMismatch (offB onB : Word) (s : State) : Out := .next (opReflexMismatch offB onB s)

/-- REFLEX_LANE_MISMATCH (R174). -/
def execReflexLaneMismatch (laneB : Word) (s : State) : Out := .next (opReflexLane laneB s)

/-- REFLEX_CFG_CHECK_PASS (R175). -/
def execReflexCfgCheckPass (diff : Option Nat) (crcA crcB : Word) (s : State) : Out :=
  .next (opReflexCheck diff crcA crcB s)

end Sys2Proof.Machine
end

