-- ==== Sys2Proof/Machine/Dio.lean ====
section
/-!
DEFINITION. Digital inputs and outputs (chapter 11): debounce, supplies, test pulses, pairs, readback faults,
overloads and output tests.
-/
namespace Sys2Proof.Machine

/-- Changes a digital input. -/
def diMod (n : Nat) (f : DiCh → DiCh) (s : State) : State :=
  if n < 64 then { s with dio := { s.dio with di := tabMod {} s.dio.di n f } } else s

/-- Changes a test-pulse source. -/
def srcMod (k : Nat) (f : TpSrc → TpSrc) (s : State) : State :=
  if k < 8 then { s with dio := { s.dio with srcs := tabMod {} s.dio.srcs k f } } else s

/-- Changes a supply group. -/
def dgroupMod (g : Nat) (f : DiGroup → DiGroup) (s : State) : State :=
  if g < 4 then { s with dio := { s.dio with groups := tabMod {} s.dio.groups g f } } else s

/-- Changes a DO group. -/
def dgrpMod (g : Nat) (f : DoGroup → DoGroup) (s : State) : State :=
  if g < 4 then { s with dio := { s.dio with dgrp := tabMod {} s.dio.dgrp g f } } else s

/-- Settings of a pair. -/
def pairCfg (s : State) (k : Nat) : PairCfg := tabGet {} s.dio.cfg.pairs k

/-- A pair. -/
def pairOf (s : State) (k : Nat) : Pair := tabGet {} s.dio.pairs k

/-- Changes a pair. -/
def pairMod (k : Nat) (f : Pair → Pair) (s : State) : State :=
  if k < 32 then { s with dio := { s.dio with pairs := tabMod {} s.dio.pairs k f } } else s

/-! ### Pairs (R290) -/

/-- The two decisions agree. -/
def pairAgree (c : PairCfg) (a b : Bool) : Bool := if c.anti then a != b else a == b

/-- The reset condition of a pair. -/
def pairReset (c : PairCfg) (a b : Bool) : Bool := !a && (b == c.anti)

/-- pair_tick of R290 at a change of a decision; a test window on either channel pauses the count (R288). -/
def pairEval (k : Nat) (s : State) : State :=
  let c := pairCfg s k
  if !c.en then s
  else
    let a := diDeb s (2 * k)
    let b := diDeb s (2 * k + 1)
    let p := pairOf s k
    if p.fault then
      if pairReset c a b && (c.autoClear || p.clearPend) then
        record 0x0605 (0x0200 + 2 * k) (items [k, if c.autoClear then 1 else 2]) (pairMod k (fun _ => {}) s)
      else s
    else if pairAgree c a b then
      pairMod k (fun p => { p with value := a, disc := false, acc := 0, since := none, clearPend := false }) s
    else
      let paused := (diOf s (2 * k)).inWin || (diOf s (2 * k + 1)).inWin
      pairMod k (fun p =>
        let run := match p.since with
          | some t => now s - t
          | none => 0
        { p with
          disc := true, clearPend := false
          start := if p.disc then p.start else now s
          acc := if paused then p.acc + run else p.acc
          since := if paused then none else some (p.since.getD (now s)) }) s

/-- All pairs see the present decisions. -/
def pairsEval (s : State) : State := (List.range 32).foldl (fun s k => pairEval k s) s

/-- Decisions may have changed: the pairs and the reflex network see them. -/
def diAfter (s : State) : State := rfxUpdate (pairsEval s)

/-- The first whole µs at or after `t`. -/
def usCeil (t : Nat) : Nat := (t + 999) / 1000 * 1000

/-- A pair's count reaches T_DISC (R290). -/
def opPairFault (k : Nat) (s : State) : State :=
  let c := pairCfg s k
  let p := pairOf s k
  match p.since with
  | none => s
  | some t =>
    if c.en && !p.fault && p.disc then
      let s := reach (usCeil (t + (c.tDisc * 1000 - p.acc))) s
      let s := pairMod k (fun p => { p with fault := true, value := false }) s
      let s := { s with dio := { s.dio with pairFaultCnt := satInc s.dio.pairFaultCnt } }
      record 0x0604 (0x0200 + 2 * k) (items [k, b2n (diDeb s (2 * k)), b2n (diDeb s (2 * k + 1))] ++ item64 p.start) s
    else s

/-- Pairs after a cold restart, a warm restart or a rejoin (R290). -/
def pairsRestart (s : State) : State :=
  let t := (List.range 32).foldl (fun (t : Tab Pair) k =>
    let c := pairCfg s k
    let a := diDeb s (2 * k)
    tabPut {} t k { value := c.en && pairAgree c a (diDeb s (2 * k + 1)) && a }) []
  pairsEval { s with dio := { s.dio with pairs := t } }

/-! ### The decision chain (R283, R288, R596) -/

/-- The bypass decision takes a value: the debounced decision follows at once with DEB 0, or a count starts, or a
running count ends because the decision is back (R283). -/
def diTake (t : Nat) (deb : Nat) (v : Bool) (c : DiCh) : DiCh :=
  if deb = 0 then { c with byp := v, deb := v, due := none }
  else if c.byp = v then c
  else { c with byp := v, due := if v = c.deb then none else some (t + 1000 * deb) }

/-- A terminal crosses its threshold (R282, R283). -/
def opBypassChange (n : Nat) (v : Bool) (s : State) : State :=
  let c := diOf s n
  let s := diMod n (fun c => { c with term := v }) s
  if c.inWin || !fieldOn s 0 then s
  else diAfter (diMod n (diTake (now s) (diCfg s n).deb v) s)

/-- The debounce count expires (R283). -/
def opDebounceExpiry (n : Nat) (s : State) : State :=
  match (diOf s n).due with
  | none => s
  | some d =>
    if (diOf s n).inWin then s
    else diAfter (diMod n (fun c => { c with deb := c.byp, due := none }) (reach d s))

/-- Decisions start as R596 says: the bypass decision follows the comparator, the debounced one starts at 0. -/
def diStart (s : State) : State :=
  let t := (List.range 64).foldl (fun (t : Tab DiCh) n =>
    let c := diOf s n
    let d := (diCfg s n).deb
    let deb := if d = 0 then c.term else false
    tabPut {} t n { c with byp := c.term, deb := deb, inWin := false, left := none
                           due := if deb = c.term then none else some (now s + 1000 * d) }) []
  diAfter { s with dio := { s.dio with di := t } }

/-- A change of debounce settings at a cut-over: counts in progress restart (R284). -/
def diRestartCounts (s : State) : State :=
  let t := (List.range 64).foldl (fun (t : Tab DiCh) n =>
    let c := diOf s n
    let d := (diCfg s n).deb
    let c := { c with deb := if d = 0 then c.byp else c.deb }
    tabPut {} t n { c with due := if c.deb = c.byp then none else some (now s + 1000 * d) }) s.dio.di
  diAfter { s with dio := { s.dio with di := t } }

/-! ### Supply groups (R285, R286) -/

/-- A group below 15.0 V for 1 ms (R285). -/
def opDiSupplyMissing (g mv : Nat) (s : State) : State :=
  let x := tabGet ({} : DiGroup) s.dio.groups g
  if mv < 15000 ∧ x.missing = false ∧ g < 4 then
    let s := dgroupMod g (fun x => { x with mv := mv, missing := true, low := true
                                            since := if x.low then x.since else now s }) s
    let s := { s with dio := { s.dio with missingCnt := satInc s.dio.missingCnt } }
    diAfter (record 0x0601 0x02E0 (items [g, mv]) s)
  else s

/-- A group below 19.2 V for 1 ms (R285). -/
def opDiSupplyLow (g mv : Nat) (s : State) : State :=
  let x := tabGet ({} : DiGroup) s.dio.groups g
  if 15000 ≤ mv ∧ mv < 19200 ∧ x.low = false ∧ g < 4 then
    record 0x0602 0x02E0 (items [g, mv]) (dgroupMod g (fun x => { x with mv := mv, low := true, since := now s }) s)
  else s

/-- A group at or above a clear threshold for 1 ms (R285). -/
def opDiSupplyOk (g mv : Nat) (s : State) : State :=
  let x := tabGet ({} : DiGroup) s.dio.groups g
  if 15500 ≤ mv ∧ x.low = true ∧ g < 4 then
    let s := dgroupMod g (fun x => { x with mv := mv, missing := false, low := decide (mv < 19700) }) s
    let s := if 19700 ≤ mv then record 0x0603 0x02E0 (items [g, (now s - x.since) / 1000000]) s else s
    diAfter s
  else s

/-! ### Test pulses of the inputs (R287 to R289) -/

/-- Settings of a source. -/
def tpCfg (s : State) (k : Nat) : TpCfg := tabGet {} s.dio.cfg.tp k

/-- Channel n is assigned to source k. -/
def diOn (s : State) (k n : Nat) : Bool := (diCfg s n).tpEn && (diCfg s n).tpSrc == k

/-- The first instant at or after `t` at which source k pulses (R287). -/
def pulseAt (c : TpCfg) (k t : Nat) : Nat :=
  let per := c.period * 1000000
  let off := k * c.period * 125000 % per
  t + (off + per - t % per) % per

/-- A source switches off; its window opens (R287, R288). -/
def opTestPulseStart (k : Nat) (s : State) : State :=
  let c := tpCfg s k
  if c.en && decide (c.period ≠ 0) && fieldOn s 0 && (srcOf s k).start.isNone then
    let s := reach (pulseAt c k (now s)) s
    let s := srcMod k (fun x => { x with start := some (now s), pulsing := true, bad := false }) s
    let t := (List.range 64).foldl (fun (t : Tab DiCh) n =>
      if diOn s k n then
        let x := tabGet {} t n
        tabPut {} t n { x with inWin := true, winByp := x.byp, left := x.due.map (fun d => d - now s), due := none }
      else t) s.dio.di
    pairsEval { s with dio := { s.dio with di := t } }
  else s

/-- A channel is judged at the end of its source's pulse (R289). -/
def tpJudge (k n : Nat) (v : Bool) (s : State) : State :=
  let c := diOf s n
  if diOn s k n && (c.winByp || c.tpFault) then
    if v then
      if c.tpFault then diMod n (fun c => { c with good := 0 }) s
      else
        let s := diMod n (fun c => { c with tpFault := true, good := 0 }) s
        let s := { s with dio := { s.dio with tpFaultCnt := satInc s.dio.tpFaultCnt } }
        record 0x0606 (0x0200 + n) (items [n, k]) s
    else if c.tpFault then
      diMod n (fun c => if c.good + 1 ≥ 3 then { c with tpFault := false, good := 0 } else { c with good := c.good + 1 }) s
    else s
  else s

/-- The pulse ends; `samples` holds the bypass decisions sampled in its last 50 µs (R287, R289). -/
def opTestPulseEnd (k : Nat) (samples : BitVec 64) (s : State) : State :=
  match (srcOf s k).start with
  | none => s
  | some t =>
    if (srcOf s k).pulsing then
      let s := reach (t + 1000 * (tpCfg s k).width) s
      let s := (List.range 64).foldl (fun s n => tpJudge k n (samples.getLsbD n) s) s
      let s := srcMod k (fun x =>
        let good := if x.bad then 0 else x.good + 1
        { x with pulsing := false, good := good, srcFault := x.srcFault && decide (good < 3) }) s
      diAfter s
    else s

/-- The window ends: decisions follow the terminals again and counts go on (R288). -/
def opTestWindowEnd (k : Nat) (s : State) : State :=
  match (srcOf s k).start with
  | none => s
  | some t =>
    if (srcOf s k).pulsing then s
    else
      let s := reach (t + 1000 * (tpCfg s k).width + 100000) s
      let s := srcMod k (fun x => { x with start := none }) s
      let t := (List.range 64).foldl (fun (t : Tab DiCh) n =>
        if diOn s k n then
          let x := tabGet {} t n
          let x := { x with inWin := false, due := x.left.map (fun l => now s + l), left := none }
          tabPut {} t n (diTake (now s) (diCfg s n).deb x.term x)
        else t) s.dio.di
      diAfter { s with dio := { s.dio with di := t } }

/-- A source terminal does not fall (R289). -/
def opTpSourceFault (k mv : Nat) (s : State) : State :=
  if (srcOf s k).pulsing ∧ 5000 ≤ mv then
    let s := srcMod k (fun x => { x with srcFault := true, bad := true, good := 0 }) s
    diAfter (record 0x0607 0x02E0 (items [k, mv]) s)
  else s

/-! ### Output faults (R294, R295) -/

/-- Opens a group cut (R300). -/
def cutOpen (g cause : Nat) (s : State) : State :=
  let was := cutIsOpen s g
  let s := dgrpMod g (fun x => if cause == 1 then { x with safe := true } else { x with latched := cause }) s
  if was then s else outsUpdate (record 0x0616 0x02E1 (items [g, cause, 1]) s)

/-- STUCK_ON with the reaction of R294; `how` 1 filter, 2 dark test. In a twin R222 acts in place of the cut. -/
def setStuckOn (n how : Nat) (s : State) : State :=
  let fresh := !(dchOf s n).stuckOn
  let cuts := !twinOn s && !cutIsOpen s (n / 8)
  let s := dchMod n (fun c => { c with stuckOn := true }) s
  if fresh then
    let s := { s with dio := { s.dio with stuckCnt := satInc s.dio.stuckCnt } }
    let s := record 0x0612 (0x0240 + n) (items [n, how, if cuts then 1 else 2]) s
    if cuts then cutOpen (n / 8) 2 s else s
  else if cuts then cutOpen (n / 8) 2 s
  else s

/-- LINE reads 1 against a command of 0 for STUCK_FILTER, in a solo module (R294). -/
def opStuckOn (n : Nat) (s : State) : State :=
  if !twinOn s && fieldOn s 1 && !doCmd s n && decide (n < 32) then
    setStuckOn n 1 { s with dio := { s.dio with line := s.dio.line ||| w32 (2 ^ n) } }
  else s

/-- The judgement of R294 on a stuck-off channel may be made. -/
def stuckOffOk (s : State) (n : Nat) : Bool :=
  doCmd s n && buoyServes s 1 && roleDrives s && !cutIsOpen s (n / 8) && !s.dio.supMissing && !(dchOf s n).short &&
    !(dchOf s n).overload && s.mode.exec != .safe && decide (n < 32)

/-- DRV reads 0 against a command of 1 for 1 ms (R294). -/
def opStuckOff (n : Nat) (s : State) : State :=
  if stuckOffOk s n then
    let s := { s with dio := { s.dio with drv := s.dio.drv &&& ~~~(w32 (2 ^ n)) } }
    if (dchOf s n).stuckOff then s
    else
      let s := dchMod n (fun c => { c with stuckOff := true }) s
      let s := { s with dio := { s.dio with stuckCnt := satInc s.dio.stuckCnt } }
      record 0x0613 (0x0240 + n) (items [n]) s
  else s

/-- A channel is switched off and latched SHORT; `temp` for a temperature trip (R295). -/
def opDoShort (n : Nat) (temp : Bool) (s : State) : State :=
  if doDrive s n && decide (n < 32) then
    let s := dchMod n (fun c => { c with short := true }) s
    let s := { s with dio := { s.dio with shortCnt := satInc s.dio.shortCnt } }
    latchUpdate (record 0x0610 (0x0240 + n) (items [n, if temp then 2 else 1]) s)
  else s

/-- Every channel of a group is switched off and latched OVERLOAD (R295). -/
def groupLatch (g : Nat) (s : State) : State :=
  (List.range 8).foldl (fun s i => dchMod (8 * g + i) (fun c => { c with overload := true }) s)
    (dgrpMod g (fun x => { x with overload := true }) s)

/-- A group above 4.0 A for 20 ms (R295). -/
def opGroupOverload (g ma : Nat) (s : State) : State :=
  if 4000 < ma ∧ g < 4 then
    let s := dgrpMod g (fun x => { x with ma := ma }) s
    latchUpdate (record 0x0614 0x02E1 (items [g, ma]) (groupLatch g s))
  else s

/-- The group with the highest current among those not yet latched. -/
def highestGroup (s : State) (mas : List Nat) : Option Nat :=
  (List.range 4).foldl (fun best g =>
    if (dgrpOf s g).overload then best
    else match best with
      | none => some g
      | some b => if mas.getD g 0 > mas.getD b 0 then some g else some b) none

/-- The buoy above 12.0 A for 20 ms, with its total and group currents (R295). -/
def opBuoyOverload (ma : Nat) (mas : List Nat) (s : State) : State :=
  let s := { s with dio := { s.dio with buoyMa := ma } }
  if 12000 < ma then
    let s := (List.range 4).foldl (fun s g => dgrpMod g (fun x => { x with ma := mas.getD g 0 }) s) s
    let s := { s with dio := { s.dio with buoyOver := true, buoyOverTs := now s } }
    match highestGroup s mas with
    | none => s
    | some g => latchUpdate (record 0x0615 0x02E1 (items [g, ma]) (groupLatch g s))
  else { s with dio := { s.dio with buoyOver := false } }

/-! ### Output tests (R297 to R299) -/

/-- Test settings of a channel. -/
def doCfg (s : State) (n : Nat) : DoChCfg := tabGet {} s.dio.cfg.dout n

/-- A test pulse begins: a requested one of the kind that matches the command, or a periodic one (R297, R298). In a
twin the principal announces an energizing pulse at least 10 µs ahead (R224). -/
def opTestStart (n : Nat) (requested : Bool) (s : State) : State :=
  let c := doCfg s n
  let dark := doCmd s n
  let due := if requested then (dchOf s n).reqDue.isSome else if dark then c.darkEn else c.olEn
  if due && (dchOf s n).test.isNone && decide (n < 32) && s.dio.configured && buoyServes s 1 then
    let s := if requested then s else reach (if dark then (dchOf s n).darkNext else (dchOf s n).olNext) s
    match testBar s n dark with
    | some b => testNotDone n dark requested b s
    | none =>
      let s := if !dark && twinOn s then
          reach (now s + 10000) { s with twin := { s.twin with announce := s.twin.announce ++ [(n, now s)] } }
        else s
      outsUpdate (dchMod n (fun x => { x with
        notDone := false, reqDue := if requested then none else x.reqDue
        test := some { dark := dark, requested := requested, start := now s } }) s)
  else s

/-- OPEN is set (R297); `how` 1 test, 2 on-state. -/
def setOpen (n how ma : Nat) (s : State) : State :=
  if (dchOf s n).isOpen then s
  else
    let s := dchMod n (fun c => { c with isOpen := true }) s
    let s := { s with dio := { s.dio with openCnt := satInc s.dio.openCnt } }
    record 0x0611 (0x0240 + n) (items [n, how, ma]) s

/-- A test pulse ends and is judged by the current and DRV at its end (R297). -/
def opTestEnd (n ma : Nat) (drv : Bool) (s : State) : State :=
  match (dchOf s n).test with
  | none => s
  | some t =>
    let c := doCfg s n
    let s := reach (t.start + 1000 * c.pulseUs) s
    let pass := if t.dark then !drv else decide (2 ≤ ma)
    let per := c.period * 100000000
    let s := dchMod n (fun x => { x with
      test := none, ma := ma, reqPass := x.reqPass || (t.requested && pass)
      darkNext := if t.dark then t.start + per else x.darkNext
      olNext := if t.dark then x.olNext else t.start + per
      isOpen := if t.dark then x.isOpen else x.isOpen && !pass }) s
    let s := outsUpdate { s with dio := { s.dio with testCnt := satInc s.dio.testCnt } }
    if pass then s
    else if t.dark then setStuckOn n 2 { s with dio := { s.dio with drv := s.dio.drv ||| w32 (2 ^ n) } }
    else setOpen n 1 ma s

/-- 100 ms of on-state current: below 2 mA sets OPEN, otherwise OPEN clears (R297). -/
def opOnStateOpen (n ma : Nat) (s : State) : State :=
  if doCmd s n && doDrive s n && decide (n < 32) then
    let s := dchMod n (fun c => { c with ma := ma }) s
    if ma < 2 then setOpen n 2 ma s else dchMod n (fun c => { c with isOpen := false }) s
  else s

/-- What a strobe of task k does to the DO channels it owns, or that no task owns: latches clear, test requests are
taken, pulses under a changed command end (R294, R295, R298, R299). `old` holds the commands before the strobe, `line`
and `drv` the readback at the strobe. -/
def doStrobe (k : Nat) (oldCmd oldReq line drv : Word) (s : State) : State :=
  let s := (List.range 32).foldl (fun s n =>
    let own := match ownerOf s (n / 8) with
      | some o => o == k
      | none => true
    if own then
      let cmd := doCmd s n
      let c := dchOf s n
      let s := match c.test with
        | some t => if cmd != oldCmd.getLsbD n then testNotDone n t.dark t.requested 2 s else s
        | none => s
      dchMod n (fun c => { c with
        stuckOn := c.stuckOn && line.getLsbD n && !cmd
        stuckOff := c.stuckOff && !drv.getLsbD n && cmd
        short := c.short && cmd, overload := c.overload && cmd }) s
    else s) s
  let s := (List.range 4).foldl (fun s g => dgrpMod g (fun x => { x with
    waits := x.waits && ownerOf s g != some k
    overload := x.overload && (List.range 8).any fun i => (dchOf s (8 * g + i)).overload }) s) s
  (List.range 32).foldl (fun s n =>
    let own := match ownerOf s (4 + n / 8) with
      | some o => o == k
      | none => false
    if own then
      let r := outBitAt s (4 + n / 8) (n % 8)
      if !r then dchMod n (fun c => { c with reqPass := false, reqNotDone := false, reqDue := none }) s
      else if oldReq.getLsbD n then s
      else dchMod n (fun c => { c with reqPass := false, reqNotDone := false, reqDue := some (now s + 10000000) }) s
    else s) s

/-- A switch-off of channel n is estimated at `mj` (R296). -/
def doClamp (n mj : Nat) (s : State) : State :=
  let s := dchMod n (fun c => { c with clampMj := mj }) s
  let b := sockOf s 1
  let s := { s with buoy := { s.buoy with socks := tabPut {} s.buoy.socks 1 { b with clamp := b.clamp + mj } } }
  if 200 < mj then
    record 0x0618 (0x0240 + n) (items [n, mj]) { s with dio := { s.dio with clampCnt := satInc s.dio.clampCnt } }
  else s

/-! ### The cross-cut of a twin (R222 to R224) -/

/-- Channel n is withdrawn from the cross-cut (R223, R334). -/
def withdrawn (s : State) (n : Nat) : Bool :=
  !twinOn s || !(s.mode.role == .principal || s.mode.role == .assistant) || assistHost s || !fieldOn s 1 ||
    (match ownerOf s (n / 8) with
      | some k => sectorState s (taskCfg s k).sector == .safe && partnerCarries s (n / 8)
      | none => false) ||
    (s.twin.masked.any fun m => m.1 / 8 == n / 8)

/-- A line reads energized against a command of 0 for XCUT_FILTER (R222). -/
def opXcutOpen (n us : Nat) (s : State) : State :=
  if !withdrawn s n && !doCmd s n && decide (n < 32) && decide (s.twin.cfg.xcutFilter ≤ us) then
    let s := { s with
      dio := { s.dio with line := s.dio.line ||| w32 (2 ^ n) }
      twin := { s.twin with xcutCnt := satInc s.twin.xcutCnt } }
    cutOpen (n / 8) 3 (record 0x040D 0x02A0 (items [n / 8, n, us]) s)
  else s

/-- An announced pulse and XCUT_FILTER have passed: the channel is compared again (R224). -/
def opXcutMaskExpiry (n : Nat) (s : State) : State :=
  match s.twin.masked.find? (fun m => m.1 == n) with
  | none => s
  | some (_, t) =>
    let s := reach t s
    { s with twin := { s.twin with masked := s.twin.masked.filter fun m => m.1 != n } }

/-! ### Pair clear and the load of settings -/

/-- The DIN_ and DOUT_ settings of an image take effect (R596). -/
def dioLoad (c : DioCfg) (s : State) : State :=
  let d := { s.dio with configured := true, cfg := c, cutNext := now s + c.cutPeriod * 3600000000000 }
  let dch := (List.range 32).foldl (fun (t : Tab DoCh) n =>
    let per := (tabGet ({} : DoChCfg) c.dout n).period * 100000000
    tabMod {} t n fun x => { x with olNext := now s + per, darkNext := now s + per }) d.dch
  diStart { s with dio := { d with dch := dch } }

/-! ### The meanings -/

/-- BYPASS_DECISION_CHANGE (R283). -/
def execBypassDecisionChange (n : Nat) (v : Bool) (s : State) : Out := .next (opBypassChange n v s)
/-- DEBOUNCE_EXPIRY (R283). -/
def execDebounceExpiry (n : Nat) (s : State) : Out := .next (opDebounceExpiry n s)
/-- DI_SUPPLY_MISSING (R285). -/
def execDiSupplyMissing (g mv : Nat) (s : State) : Out := .next (opDiSupplyMissing g mv s)
/-- DI_SUPPLY_LOW (R285). -/
def execDiSupplyLow (g mv : Nat) (s : State) : Out := .next (opDiSupplyLow g mv s)
/-- DI_SUPPLY_OK (R285). -/
def execDiSupplyOk (g mv : Nat) (s : State) : Out := .next (opDiSupplyOk g mv s)
/-- TEST_PULSE_START (R287). -/
def execTestPulseStart (k : Nat) (s : State) : Out := .next (opTestPulseStart k s)
/-- TEST_PULSE_END (R287). -/
def execTestPulseEnd (k : Nat) (samples : BitVec 64) (s : State) : Out := .next (opTestPulseEnd k samples s)
/-- TEST_WINDOW_END (R288). -/
def execTestWindowEnd (k : Nat) (s : State) : Out := .next (opTestWindowEnd k s)
/-- DI_TP_SOURCE_FAULT (R289). -/
def execDiTpSourceFault (k mv : Nat) (s : State) : Out := .next (opTpSourceFault k mv s)
/-- DI_PAIR_FAULT (R290). -/
def execDiPairFault (k : Nat) (s : State) : Out := .next (opPairFault k s)
/-- DO_STUCK_ON (R294). -/
def execDoStuckOn (n : Nat) (s : State) : Out := .next (opStuckOn n s)
/-- DO_STUCK_OFF (R294). -/
def execDoStuckOff (n : Nat) (s : State) : Out := .next (opStuckOff n s)
/-- DO_SHORT (R295). -/
def execDoShort (n : Nat) (temp : Bool) (s : State) : Out := .next (opDoShort n temp s)
/-- DO_GROUP_OVERLOAD (R295). -/
def execDoGroupOverload (g ma : Nat) (s : State) : Out := .next (opGroupOverload g ma s)
/-- DO_BUOY_OVERLOAD (R295). -/
def execDoBuoyOverload (ma : Nat) (mas : List Nat) (s : State) : Out := .next (opBuoyOverload ma mas s)
/-- DO_TEST_PULSE_START (R297). -/
def execDoTestPulseStart (n : Nat) (requested : Bool) (s : State) : Out := .next (opTestStart n requested s)
/-- DO_TEST_PULSE_END (R297). -/
def execDoTestPulseEnd (n ma : Nat) (drv : Bool) (s : State) : Out := .next (opTestEnd n ma drv s)
/-- DO_ON_STATE_OPEN (R297). -/
def execDoOnStateOpen (n ma : Nat) (s : State) : Out := .next (opOnStateOpen n ma s)
/-- XCUT_OPEN (R222). -/
def execXcutOpen (n us : Nat) (s : State) : Out := .next (opXcutOpen n us s)
/-- XCUT_MASK_EXPIRY (R224). -/
def execXcutMaskExpiry (n : Nat) (s : State) : Out := .next (opXcutMaskExpiry n s)

end Sys2Proof.Machine
end

