-- ==== Sys2Proof/Machine/Loop.lean ====
section
/-!
DEFINITION. Current loops and HART (chapter 12).
-/
namespace Sys2Proof.Machine

/-- A loop input. -/
def liOf (s : State) (n : Nat) : LoopIn := tabGet {} s.loop.ins n
/-- Its settings. -/
def liCfg (s : State) (n : Nat) : LoopInCfg := tabGet {} s.loop.cfg.ins n
/-- Changes a loop input. -/
def liMod (n : Nat) (f : LoopIn → LoopIn) (s : State) : State :=
  if n < 16 then { s with loop := { s.loop with ins := tabMod {} s.loop.ins n f } } else s
/-- A loop output. -/
def loOf (s : State) (n : Nat) : LoopOut := tabGet {} s.loop.outs n
/-- Its settings. -/
def loCfg (s : State) (n : Nat) : LoopOutCfg := tabGet {} s.loop.cfg.outs n
/-- Changes a loop output. -/
def loMod (n : Nat) (f : LoopOut → LoopOut) (s : State) : State :=
  if n < 8 then { s with loop := { s.loop with outs := tabMod {} s.loop.outs n f } } else s
/-- A HART channel. -/
def hartOf (s : State) (n : Nat) : Hart := tabGet {} s.loop.hart n
/-- Changes a HART channel. -/
def hartMod (n : Nat) (f : Hart → Hart) (s : State) : State :=
  if n < 16 then { s with loop := { s.loop with hart := tabMod {} s.loop.hart n f } } else s

/-- The loop input's reading is invalid (R215, R310, R329, R334, R337). -/
def liInvalid (s : State) (n : Nat) : Bool :=
  !buoyServes s 2 || exchWait s 2 5000000 || (liOf s n).faultLow || (liOf s n).faultHigh

/-! ### The delivered command of an output (R318, R320, R321, R225) -/

/-- The owner of output n. -/
def aoOwner (s : State) (n : Nat) : Option Nat := ownerOf s (0x100 + 4 * n)

/-- The safe current in nA. -/
def aoSafeNa (s : State) (n : Nat) : Nat := if (loCfg s n).safe36 then 3600000 else 0

/-- The output must carry its safe current, and not its command (R321). -/
def aoUnsafe (s : State) (n : Nat) : Bool :=
  (loOf s n).latchedSafe || !(loOf s n).live || match aoOwner s n with
    | none => true
    | some k => !taskLive s k

/-- The sector that owns the output has failed (R225). -/
def aoSectorSafe (s : State) (n : Nat) : Bool :=
  match aoOwner s n with
  | none => false
  | some k => sectorState s (taskCfg s k).sector == .safe

/-- The delivered command of R318, with whether it is the safe current. -/
def aoTarget (s : State) (n : Nat) : Nat × Bool :=
  if !buoyServes s 2 || s.loop.supMissing || (loOf s n).rbFault || !roleDrives s then (0, false)
  else if aoUnsafe s n then
    if !twinOn s || !partnerUp s then (aoSafeNa s n, true)
    else if (loOf s n).latchedSafe && s.mode.role == .principal then (aoSafeNa s n, true)
    else if aoSectorSafe s n && (loOf s n).live then ((loOf s n).delivered, false)
    else (0, false)
  else (min (loOf s n).cmd 24000000, false)

/-- Output n follows its target; a change restarts the readback check (R318). -/
def aoUpdate1 (n : Nat) (s : State) : State :=
  let t := (aoTarget s n).1
  if (loOf s n).delivered = t then s
  else loMod n (fun o => { o with delivered := t, changeTs := now s, rbN := 0 }) s

/-- All outputs follow their targets. -/
def aoUpdate (s : State) : State := (List.range 8).foldl (fun s n => aoUpdate1 n s) s

/-- A strobe of task k commits its output commands, after forcing, and moves AO ownership (R317, R225, R275). -/
def aoStrobe (k : Nat) (s : State) : State :=
  let drives := s.mode.role == .solo || s.mode.role == .principal
  aoUpdate ((List.range 8).foldl (fun s n =>
    if aoOwner s n == some k then
      let raw := (wordAt s.fab.outImg (0x100 + 4 * n)).toNat
      let v := match outForce s k 4 n with
        | some f => f.toNat
        | none => raw
      loMod n (fun o => { o with cmd := v, live := drives }) s
    else s) s)

/-! ### The window end (R307 to R312, R318) -/

/-- The value of an input from its windows (R309); the 5 ms mean rounds toward minus infinity (assumption log, 16). -/
def liValue (c : LoopInCfg) (wins : List Int) : Int :=
  if c.filter5 then (wins.foldl (· + ·) 0).fdiv wins.length else wins.headD 0

/-- The NAMUR judgement of one value (R310). -/
def namurStep (n : Nat) (s : State) : State :=
  let c := liCfg s n
  let x := liOf s n
  if !c.namurEn then liMod n (fun x => { x with faultLow := false, faultHigh := false, lowN := 0, highN := 0, okN := 0 }) s
  else
    let lowN := if x.val < 3600000 then x.lowN + 1 else 0
    let highN := if x.val > 21000000 then x.highN + 1 else 0
    let okN := if 3650000 ≤ x.val ∧ x.val ≤ 20950000 then x.okN + 1 else 0
    let s := liMod n (fun x => { x with lowN := lowN, highN := highN, okN := okN }) s
    let was := x.faultLow || x.faultHigh
    let f := max 1 c.namurFilter
    let low := f ≤ lowN
    let high := f ≤ highN
    if low ∨ high then
      let s := liMod n (fun x => { x with faultLow := low, faultHigh := high
                                          faultTs := if was then x.faultTs else now s }) s
      if was then s
      else
        let s := { s with loop := { s.loop with namurCnt := satInc s.loop.namurCnt } }
        record 0x0701 (0x0260 + n) (items [n, if low then 1 else 2] ++ itemInt x.val) s
    else if was ∧ f ≤ okN then
      record 0x0702 (0x0260 + n) (items [n, (now s - x.faultTs) / 1000000])
        (liMod n (fun x => { x with faultLow := false, faultHigh := false }) s)
    else s

/-- The starvation estimate of one value (R312). -/
def starvedStep (n usMv : Nat) (s : State) : State :=
  let c := liCfg s n
  let x := liOf s n
  let ut : Int := (usMv : Int) - (x.val * c.rLoop).fdiv 1000000
  let s := liMod n (fun x => { x with usMv := usMv, utMv := ut }) s
  if !c.supplyEn then liMod n (fun x => { x with starved := false, starvN := 0, starvOkN := 0 }) s
  else
    let lowN := if ut < (c.utMin * 100 : Nat) then x.starvN + 1 else 0
    let okN := if ((c.utMin * 100 + 500 : Nat) : Int) ≤ ut then x.starvOkN + 1 else 0
    let s := liMod n (fun x => { x with starvN := lowN, starvOkN := okN }) s
    if !x.starved ∧ 10 ≤ lowN then
      let s := liMod n (fun x => { x with starved := true, starvTs := now s }) s
      let s := { s with loop := { s.loop with starvedCnt := satInc s.loop.starvedCnt } }
      record 0x0703 (0x0260 + n) (items [n, usMv] ++ itemInt ut ++ itemInt x.val) s
    else if x.starved ∧ 10 ≤ okN then
      record 0x0704 (0x0260 + n) (items [n, (now s - x.starvTs) / 1000000])
        (liMod n (fun x => { x with starved := false }) s)
    else s

/-- The readback check of one output (R318). -/
def readbackStep (n : Nat) (rb : Int) (s : State) : State :=
  let o := loOf s n
  let s := loMod n (fun o => { o with rb := rb }) s
  if o.rbFault || o.comp || !buoyServes s 2 || decide (now s < o.changeTs + 1000000) then s
  else
    let diff := (rb - (o.delivered : Int)).natAbs
    if (loCfg s n).rbTol * 1000 < diff then
      if 20 ≤ o.rbN + 1 then
        let s := loMod n (fun o => { o with rbFault := true, rbN := 0 }) s
        let s := { s with loop := { s.loop with rbCnt := satInc s.loop.rbCnt } }
        aoUpdate (record 0x0712 (0x0270 + n) (items [n, o.delivered] ++ itemInt rb) s)
      else loMod n (fun o => { o with rbN := o.rbN + 1 }) s
    else loMod n (fun o => { o with rbN := 0 }) s

/-- The next instant at which the windows close: a TS64 multiple of 1 ms after the last one (R307). -/
def windowAt (s : State) : Nat :=
  let t := (now s + 999999) / 1000000 * 1000000
  if t = s.loop.winTs then t + 1000000 else t

/-- The conversion windows close (R307). -/
def opLoopWindow (m : LoopSample) (s : State) : State :=
  let s := reach (windowAt s) s
  let s := { s with loop := { s.loop with winTs := now s } }
  let s := (List.range 16).foldl (fun s n =>
    let raw := min (m.cur.getD n 0) 25000000
    let s := liMod n (fun x =>
      let wins := (raw :: x.wins).take 5
      { x with wins := wins, val := liValue (liCfg s n) wins, supLimit := x.supLimit && m.lim.getLsbD n }) s
    starvedStep n (m.us.getD n 0) (namurStep n s)) s
  let vals := (List.range 16).foldl (fun (t : Tab Int) n => tabPut 0 t n (liOf s n).val) []
  let s := { s with loop := { s.loop with past := ((now s, vals) :: s.loop.past).take 4 } }
  (List.range 8).foldl (fun s n => readbackStep n (m.rb.getD n 0) s) s

/-- The values of the latest window that ended at or before `t` (R308). -/
def loopLatch (s : State) (t : Nat) : Nat × Tab Int :=
  (s.loop.past.find? fun x => decide (x.1 ≤ t)).getD (0, [])

/-- A loop supply enters current limit (R311). -/
def opSupplyLimit (n us : Nat) (s : State) : State :=
  if (liCfg s n).supplyEn && !(liOf s n).supLimit && decide (n < 16) then
    record 0x0705 (0x0260 + n) (items [n, us]) (liMod n (fun x => { x with supLimit := true, usMv := us }) s)
  else s

/-- The tenth measurement with HR below 1.5 V (R319, R320). -/
def opCompliance (n hr : Nat) (s : State) : State :=
  let o := loOf s n
  if hr < 1500 ∧ 100000 ≤ o.delivered ∧ o.comp = false ∧ n < 8 then
    let s := loMod n (fun o => { o with comp := true, compTs := now s, hrMv := hr, rbN := 0 }) s
    let s := { s with loop := { s.loop with compCnt := satInc s.loop.compCnt } }
    let s := record 0x0710 (0x0270 + n) (items [n, o.cmd] ++ itemInt o.rb ++ items [hr]) s
    if (loCfg s n).failOnComp then
      aoUpdate (record 0x0713 (0x0270 + n) (items [n, b2n (loCfg s n).safe36])
        (loMod n (fun o => { o with latchedSafe := true }) s))
    else s
  else s

/-- HR at or above 2.0 V for 10 ms (R319). -/
def opComplianceCleared (n hr : Nat) (s : State) : State :=
  let o := loOf s n
  if 2000 ≤ hr ∧ o.comp = true then
    record 0x0711 (0x0270 + n) (items [n, (now s - o.compTs) / 1000000])
      (loMod n (fun o => { o with comp := false, hrMv := hr }) s)
  else s

/-! ### HART (R314 to R316) -/

/-- This module's masters transmit (R315). -/
def hartMaster (s : State) : Bool := s.mode.role == .solo || s.mode.role == .principal

/-- The channel's master may run: HART enabled, buoy in service. -/
def hartRuns (s : State) (n : Nat) : Bool := (liCfg s n).hartEn && buoyServes s 2 && hartMaster s && decide (n < 16)

/-- A long command's result is known; its reply is written at LONG_COMMAND_COMPLETE (R444). -/
def longDone (q : Req) (rc : Nat) (data : List Word) (s : State) : State :=
  { s with kp := { s.kp with long := s.kp.long.map fun l =>
      if l.req == q && !l.done then { l with done := true, rc := rc, data := data } else l } }

/-- Sends the channel's request: the pending pass-through first, else the given one. -/
def hartSend (n : Nat) (t : HartTx) (s : State) : State :=
  let h := hartOf s n
  let tx := if h.pass.isSome then HartTx.pass else t
  let cmd := match h.pass, t with
    | some p, _ => p.cmd
    | none, .cmd0 => 0
    | none, _ => 3
  let data := match h.pass with
    | some p => p.data
    | none => []
  let s := hartMod n (fun h => { h with tx := tx, retries := 0 }) s
  let s := { s with loop := { s.loop with
      hartTx := satInc s.loop.hartTx, hartPt := if h.pass.isSome then satInc s.loop.hartPt else s.loop.hartPt } }
  emit { kind := .hart, dest := n, args := [cmd], data := data } s

/-- The identify poll (R314). -/
def opHartIdentify (n : Nat) (s : State) : State :=
  let h := hartOf s n
  if hartRuns s n && h.tx == .none && (h.st == .identify || h.st == .noResponse) then
    let s := reach h.nextTs s
    hartSend n .cmd0 (hartMod n (fun h => { h with nextTs := if h.pass.isSome then now s else now s + 5000000000 }) s)
  else s

/-- The cyclic poll (R314). -/
def opHartCyclic (n : Nat) (s : State) : State :=
  let h := hartOf s n
  if hartRuns s n && h.tx == .none && h.st == .cyclic then
    let s := reach h.nextTs s
    let per := (liCfg s n).hartPeriod * 100000000
    hartSend n .cmd3 (hartMod n (fun h => { h with nextTs := if h.pass.isSome then now s else now s + per }) s)
  else s

/-- The reply of a pass-through (R316, R454): outcome 0 response, 1 none, 2 check-byte error. -/
def hartPassDone (n outcome : Nat) (m : HartMsg) (s : State) : State :=
  match (hartOf s n).pass with
  | none => s
  | some p =>
    let d := m.data.take 48
    let trunc := decide (48 < m.data.length)
    let w2 := fldF outcome 0 ||| bitF trunc 2 ||| fldF (m.resp % 256) 8 ||| fldF (m.fds % 256) 16 ||| fldF d.length 24
    let ws := (List.range ((d.length + 3) / 4)).map fun i =>
      (d.getD (4 * i) 0 ++ d.getD (4 * i + 1) 0 ++ d.getD (4 * i + 2) 0 ++ d.getD (4 * i + 3) 0 : Word)
    let s := hartMod n (fun h => { h with pass := none, tx := .none, retries := 0 }) s
    let s := if p.write then
        record 0x0722 (0x0260 + n) (items [n, p.cmd, outcome] ++ item128 p.req.ident) s
      else s
    longDone p.req 0 (w2 :: ws) s

/-- The blocks take a command 3 response (R314, HART-block table). -/
def hartBlock (n : Nat) (m : HartMsg) (s : State) : State :=
  let v (i : Nat) : Word × Nat := m.vars.getD i (0x7FC00000, 250)
  hartMod n (fun h => { h with
    pv := (v 0).1, sv := (v 1).1, tv := (v 2).1, qv := (v 3).1, loopMa := m.loopMa
    units := fldF ((v 0).2 % 256) 0 ||| fldF ((v 1).2 % 256) 8 ||| fldF ((v 2).2 % 256) 16 ||| fldF ((v 3).2 % 256) 24
    cnt := (h.cnt + 1) % 256, lastTs := some (now s) }) s

/-- The configuration-changed bit rises (R314); it is bit 6 of the field device status (assumption log, 17). -/
def hartCfgChanged (n : Nat) (m : HartMsg) (s : State) : State :=
  let was := (hartOf s n).fds.testBit 6
  let s := hartMod n (fun h => { h with resp := m.resp % 256, fds := m.fds % 256 }) s
  if m.fds.testBit 6 && !was then
    record 0x0723 (0x0260 + n) (items [n] ++ item64 ((hartOf s n).id.getD 0)) s
  else s

/-- A transaction has failed after its retries (R314). -/
def hartFail (n outcome : Nat) (s : State) : State :=
  match (hartOf s n).tx with
  | .pass => hartPassDone n outcome {} s
  | _ =>
    let f := min 3 ((hartOf s n).fails + 1)
    let s := hartMod n (fun h => { h with tx := .none, retries := 0, fails := f }) s
    if f ≥ 3 ∧ (hartOf s n).st = .cyclic then
      record 0x0721 (0x0260 + n) (items [n, (hartOf s n).resp])
        (hartMod n (fun h => { h with st := .noResponse, nextTs := now s }) s)
    else s

/-- A missing or bad response is retried up to 2 times (R314). -/
def hartRetry (n outcome : Nat) (s : State) : State :=
  let h := hartOf s n
  let s := { s with loop := { s.loop with hartErr := satInc s.loop.hartErr } }
  if h.retries < 2 then
    let s := hartMod n (fun h => { h with retries := h.retries + 1 }) s
    let s := { s with loop := { s.loop with hartTx := satInc s.loop.hartTx } }
    let cmd := match h.tx, h.pass with
      | .pass, some p => p.cmd
      | .cmd0, _ => 0
      | _, _ => 3
    emit { kind := .hart, dest := n, args := [cmd] } s
  else hartFail n outcome s

/-- A HART frame is received (R314, R315). -/
def opHartResponse (n : Nat) (m : HartMsg) (s : State) : State :=
  if !(liCfg s n).hartEn || !buoyServes s 2 || decide (16 ≤ n) then s
  else if m.burst then { s with loop := { s.loop with hartErr := satInc s.loop.hartErr } }
  else if !hartMaster s then
    if m.bad then s
    else
      let s := if m.uid ≠ 0 then hartMod n (fun h => { h with id := some m.uid }) s else s
      hartBlock n m (hartMod n (fun h => { h with resp := m.resp % 256, fds := m.fds % 256 }) s)
  else
    match (hartOf s n).tx with
    | .none => s
    | tx =>
      if m.bad then hartRetry n 2 s
      else
        match tx with
        | .cmd0 =>
          let s := hartMod n (fun h => { h with
            tx := .none, st := .cyclic, id := some m.uid, fails := 0, retries := 0, nextTs := now s }) s
          hartCfgChanged n m (record 0x0720 (0x0260 + n) (items [n] ++ item64 m.uid ++ items [m.rev]) s)
        | .cmd3 =>
          hartCfgChanged n m (hartBlock n m (hartMod n (fun h => { h with tx := .none, fails := 0, retries := 0 }) s))
        | _ => hartPassDone n 0 m (hartCfgChanged n m s)

/-- No response arrives (R314). -/
def opHartTimeout (n : Nat) (s : State) : State :=
  match (hartOf s n).tx with
  | .none => s
  | _ => hartRetry n 1 s

/-- The masters start: with a learned identifier in CYCLIC, else in IDENTIFY (R314, R315); `learned` allows the
identifier heard while listening. -/
def hartStart (learned : Bool) (s : State) : State :=
  (List.range 16).foldl (fun s n =>
    hartMod n (fun h =>
      if (liCfg s n).hartEn && buoyServes s 2 then
        { h with st := if learned && h.id.isSome then .cyclic else .identify
                 tx := .none, fails := 0, retries := 0, nextTs := now s }
      else { h with st := .off, tx := .none }) s) s

/-- The loop settings of an image take effect. -/
def loopLoad (c : LoopCfg) (s : State) : State :=
  hartStart false (aoUpdate { s with loop := { s.loop with configured := true, cfg := c } })

/-! ### The meanings -/

/-- LOOP_WINDOW_END (R307). -/
def execLoopWindowEnd (m : LoopSample) (s : State) : Out := .next (opLoopWindow m s)
/-- LOOP_SUPPLY_LIMIT (R311). -/
def execLoopSupplyLimit (n us : Nat) (s : State) : Out := .next (opSupplyLimit n us s)
/-- AO_COMPLIANCE (R319). -/
def execAoCompliance (n hr : Nat) (s : State) : Out := .next (opCompliance n hr s)
/-- AO_COMPLIANCE_CLEARED (R319). -/
def execAoComplianceCleared (n hr : Nat) (s : State) : Out := .next (opComplianceCleared n hr s)
/-- HART_IDENTIFY_POLL (R314). -/
def execHartIdentifyPoll (n : Nat) (s : State) : Out := .next (opHartIdentify n s)
/-- HART_CYCLIC_POLL (R314). -/
def execHartCyclicPoll (n : Nat) (s : State) : Out := .next (opHartCyclic n s)
/-- HART_RESPONSE (R314). -/
def execHartResponse (n : Nat) (m : HartMsg) (s : State) : Out := .next (opHartResponse n m s)
/-- HART_RESPONSE_TIMEOUT (R314). -/
def execHartResponseTimeout (n : Nat) (s : State) : Out := .next (opHartTimeout n s)

end Sys2Proof.Machine
end

