-- ==== Sys2Proof/Machine/Can.lean ====
section
/-!
DEFINITION. The CAN FD ports (chapter 14).
-/
namespace Sys2Proof.Machine

/-- A port. -/
def portOf (s : State) (n : Nat) : CanPort := tabGet {} s.can n
/-- Changes a port. -/
def portMod (n : Nat) (f : CanPort → CanPort) (s : State) : State :=
  if n < 4 then { s with can := tabMod {} s.can n f } else s
/-- A transmit buffer's settings. -/
def txbOf (s : State) (n b : Nat) : CanTxb := tabGet {} (portOf s n).cfg.txbs b
/-- A transmit buffer. -/
def txOf (s : State) (n b : Nat) : CanTx := tabGet {} (portOf s n).tx b
/-- Changes a transmit buffer. -/
def txMod (n b : Nat) (f : CanTx → CanTx) (s : State) : State :=
  portMod n (fun p => { p with tx := tabMod {} p.tx b f }) s
/-- An acceptance filter. -/
def fltOf (s : State) (n f : Nat) : CanFlt := tabGet {} (portOf s n).cfg.flts f

/-- The port is listen-only (R359). -/
def listenOnly (s : State) (n : Nat) : Bool :=
  let c := (portOf s n).cfg
  c.listen || (c.shared && twinOn s && s.mode.role != .principal)

/-- The buffer belongs to the keeper (R360). -/
def keeperBuf (s : State) (n b : Nat) : Bool := (portOf s n).cfg.cmdEn && b == 63

/-! ### Error state (R357, R358) -/

/-- The port takes new error counters; the change between error-active and error-passive is recorded. -/
def canErrState (n tec rc : Nat) (s : State) : State :=
  let p := portOf s n
  let s := portMod n (fun p => { p with tec := tec, rec_ := rc }) s
  if p.st = .busOff then s
  else
    let st : CanSt := if 127 < tec ∨ 127 < rc then .passive else .active
    if st = p.st then s
    else
      let pl := if st = .passive then items [tec, rc, p.lec] else items [(now s - p.stTs) / 1000000]
      record (if st = .passive then 0x0901 else 0x0902) (0x0280 + n) pl
        (portMod n (fun p => { p with st := st, stTs := now s }) s)

/-- A frame is dropped without being sent (R354, R357); causes in the assumption log, entry 18. -/
def canLost (n b cause : Nat) (s : State) : State :=
  let s := portMod n (fun p => { p with lostCnt := satInc p.lostCnt, csLost := satInc p.csLost }) s
  record 0x0906 (0x0280 + n) (items [b, cause]) s

/-! ### Order of offer and attempts (R353, R354) -/

/-- The arbitration key of a frame: 11 base bits, IDE, 18 extended bits; a lower key wins. -/
def arbKey (f : CanFrame) : Nat :=
  if f.ide then (f.id / 2 ^ 18 % 2 ^ 11) * 2 ^ 19 + 2 ^ 18 + f.id % 2 ^ 18 else (f.id % 2 ^ 11) * 2 ^ 19

/-- The buffer whose frame the controller offers next (R353). -/
def canOffered (s : State) (n : Nat) : Option Nat :=
  ((List.range 64).foldl (fun (best : Option (Nat × Nat)) b =>
    let x := txOf s n b
    match x.st, x.frame with
    | .idle, _ => best
    | .onBus, _ => best
    | _, none => best
    | _, some f =>
      match best with
      | none => some (arbKey f, b)
      | some (k, _) => if arbKey f < k then some (arbKey f, b) else best) none).map Prod.snd

/-- An attempt is on the bus. -/
def canBusy (s : State) (n : Nat) : Bool := (List.range 64).any fun b => (txOf s n b).st == .onBus

/-- On an idle bus the offered frame's attempt begins (R353). -/
def canStart (n : Nat) (s : State) : State :=
  let p := portOf s n
  if p.busBusy || canBusy s n || p.st == .busOff || listenOnly s n || !p.configured then s
  else match canOffered s n with
    | none => s
    | some b => txMod n b (fun x => { x with st := .onBus }) s

/-- A frame is released into a buffer (R354). -/
def canPut (n b : Nat) (f : CanFrame) (s : State) : State :=
  let x := txOf s n b
  if (portOf s n).st = .busOff then canLost n b 4 s
  else match x.st with
    | .idle => txMod n b (fun x => { x with st := .pending, frame := some f, retries := 0, noRetry := false }) s
    | .onBus =>
      let s := if x.waiting.isSome then canLost n b 1 s else s
      txMod n b (fun x => { x with waiting := some f }) s
    | _ => txMod n b (fun x => { x with st := .pending, frame := some f, retries := 0 }) (canLost n b 1 s)

/-- An attempt ended without success: the frame waits for retry, or gives way to the one behind it (R354, R356). -/
def canAttemptFailed (n b : Nat) (s : State) : State :=
  let x := txOf s n b
  match x.waiting with
  | some f =>
    txMod n b (fun x => { x with st := .pending, frame := some f, waiting := none, retries := 0, noRetry := false })
      (canLost n b 2 s)
  | none =>
    if x.noRetry then txMod n b (fun x => { x with st := .idle, frame := none, noRetry := false, retries := 0 }) s
    else txMod n b (fun x => { x with st := .retry, retries := x.retries + 1 }) s

/-- Buffer b may be the one on the bus: it is, or none is and it is the one offered. -/
def canMayBe (s : State) (n b : Nat) : Bool :=
  (txOf s n b).st == .onBus || (!canBusy s n && canOffered s n == some b)

/-- A CAN entry (R564): direction 0 received, 1 transmitted; with its counter (R569). -/
def traceCan (n dir : Nat) (f : CanFrame) (s : State) : State :=
  let s := ctrAdd (18 - dir) none none none 1 s
  if traceOn s 2 then
    traceCap { kind := 4, bit := some 2, source := 0x0280 + n, ts := now s
               words := [fldF n 0 ||| fldF dir 8 ||| fldF f.data.length 16,
                 fldF (f.id % 2 ^ 29) 0 ||| bitF f.ide 29 ||| bitF f.fdf 30] ++ beWords f.data } s
  else s

/-- A transmission attempt ends with success; `tdcv` the measured loop delay of a frame with BRS (R343, R354). -/
def opCanTxComplete (n b : Nat) (tdcv : Option Nat) (s : State) : State :=
  match (txOf s n b).frame with
  | none => s
  | some f =>
    if canMayBe s n b && (portOf s n).configured && (portOf s n).st != .busOff then
      let s := emit { kind := .can, dest := n
                      args := [f.id, b2n f.ide, b2n f.fdf, b2n f.brs, b2n ((portOf s n).st == .passive)], data := f.data } s
      let s := portMod n (fun p => { p with txCnt := satInc p.txCnt, busBusy := false }) (traceCan n 1 f s)
      let s := txMod n b (fun x => match x.waiting with
        | some g => { x with st := .pending, frame := some g, waiting := none, retries := 0, noRetry := false }
        | none => { x with st := .idle, frame := none, retries := 0, noRetry := false }) s
      let p := portOf s n
      let s := canErrState n (p.tec - 1) p.rec_ s
      let s := match tdcv with
        | none => s
        | some v =>
          if p.cfg.tdcEn && f.brs then
            let s := portMod n (fun p => { p with tdcv := v }) s
            if 127 < v + p.cfg.tdco ∧ p.tdcDone = false then
              record 0x090A (0x0280 + n) (items [v, p.cfg.tdco]) (portMod n (fun p => { p with tdcDone := true }) s)
            else s
          else s
      canStart n s
    else s

/-- A transmission loses arbitration (R353, R354). -/
def opCanArbLost (n b : Nat) (s : State) : State :=
  if (txOf s n b).frame.isSome && canMayBe s n b && (portOf s n).st != .busOff then
    let s := portMod n (fun p => { p with arbCnt := satInc p.arbCnt, busBusy := true }) s
    canAttemptFailed n b s
  else s

/-- Entry to bus-off (R357). -/
def canBusOff (n : Nat) (s : State) : State :=
  let (s, k) := (List.range 64).foldl (fun (s, k) b =>
    let x := txOf s n b
    let c := b2n x.frame.isSome + b2n x.waiting.isSome
    let s := if x.frame.isSome then canLost n b 3 s else s
    let s := if x.waiting.isSome then canLost n b 3 s else s
    (txMod n b (fun x => { lastSeq := x.lastSeq }) s, k + c)) (s, 0)
  let p := portOf s n
  let s := portMod n (fun p => { p with
    st := .busOff, stTs := now s, busOffWait := !p.cfg.boAuto, recovering := false, busBusy := false
    busOffCnt := satInc p.busOffCnt, csBusOff := satInc p.csBusOff }) s
  record 0x0903 (0x0280 + n) (items [p.lec, k]) s

/-- A bus error with the error counters it leaves, as ISO 11898-1 fixes them; `tx` the buffer whose attempt it ended
(R357). -/
def opCanBusError (n lec : Nat) (inData : Bool) (tec rc : Nat) (tx : Option Nat) (s : State) : State :=
  let p := portOf s n
  if p.configured && p.st != .busOff then
    let s := portMod n (fun p => { p with lec := lec, lecData := inData, errCnt := satInc p.errCnt, busBusy := true }) s
    let s := match tx with
      | some b => if (txOf s n b).frame.isSome && canMayBe s n b then canAttemptFailed n b s else s
      | none => s
    if 255 < tec then canBusOff n (portMod n (fun p => { p with tec := tec, rec_ := rc }) s)
    else canErrState n tec rc s
  else s

/-- BO_DELAY has passed: the recovery sequence starts (R358). -/
def opCanBusOffDelay (n : Nat) (s : State) : State :=
  let p := portOf s n
  if p.st = .busOff ∧ p.cfg.boAuto = true ∧ p.recovering = false then
    portMod n (fun p => { p with recovering := true, byCommand := false }) (reach (p.stTs + p.cfg.boDelay * 1000000) s)
  else s

/-- Recovery completes (R358). -/
def opCanBusOn (n : Nat) (s : State) : State :=
  let p := portOf s n
  if p.st = .busOff ∧ p.recovering = true then
    let s := portMod n (fun p => { p with
      st := .active, stTs := now s, tec := 0, rec_ := 0, recovering := false, busOffWait := false }) s
    record 0x0904 (0x0280 + n) (items [if p.byCommand then 2 else 1, (now s - p.stTs) / 1000000]) s
  else s

/-! ### Reception (R345 to R350) -/

/-- A filter matches a frame. -/
def fltMatch (f : CanFlt) (x : CanFrame) : Bool :=
  let m := if x.ide then f.mask % 2 ^ 29 else f.mask % 2 ^ 11
  f.en && f.ide == x.ide && (f.format == 0 || (f.format == 1 && !x.fdf) || (f.format == 2 && x.fdf)) &&
    f.id &&& m == x.id &&& m

/-- The winning filter: lowest PRIORITY, then lowest index (R345). -/
def fltWinner (s : State) (n : Nat) (x : CanFrame) : Option Nat :=
  ((List.range 64).foldl (fun (best : Option (Nat × Nat)) i =>
    let f := fltOf s n i
    if fltMatch f x then
      match best with
      | none => some (f.prio, i)
      | some (p, _) => if f.prio < p then some (f.prio, i) else best
    else best) none).map Prod.snd

/-- A receive slot takes a frame (R347, R348). -/
def slotTake (n i : Nat) (r : CanRx) (s : State) : State :=
  let c : CanSlot := tabGet {} (portOf s n).slots i
  let s := if c.stale then record 0x0909 (0x0280 + n) (items [i, (now s - c.staleTs) / 1000000]) s else s
  let past := match c.cur with
    | some p => (p :: c.past).take 8
    | none => c.past
  portMod n (fun p => { p with slots := tabPut {} p.slots i { cur := some r, past := past, stale := false, staleTs := c.staleTs } }) s

/-- The FIFO takes a frame, or overflows (R349, R350). -/
def fifoTake (n i : Nat) (r : CanRx) (s : State) : State :=
  if (portOf s n).fifo.length < 32 then
    portMod n (fun p => { p with fifo := p.fifo ++ [r], fifoMax := max p.fifoMax (p.fifo.length + 1) }) s
  else
    let s := portMod n (fun p => { p with ovfIn := satInc p.ovfIn, ovfCnt := satInc p.ovfCnt, csDrop := satInc p.csDrop }) s
    record 0x0905 (0x0280 + n) (items [i, r.frame.id]) s

/-- A frame becomes valid (R345, R346). A received frame lets REC fall by one, as ISO 11898-1 has it. -/
def opCanReceive (n : Nat) (x : CanFrame) (remote : Bool) (s : State) : State :=
  let p := portOf s n
  if !p.configured || p.st == .busOff then s
  else
    let s := portMod n (fun p => { p with busBusy := false }) s
    let s := canErrState n p.tec (if 127 < p.rec_ then 127 else p.rec_ - 1) s
    if remote then canStart n (portMod n (fun p => { p with remoteCnt := satInc p.remoteCnt }) s)
    else
      let s := portMod n (fun p => { p with rxCnt := satInc p.rxCnt }) (traceCan n 0 x s)
      let s := match fltWinner s n x with
        | none => portMod n (fun p => { p with noMatch := satInc p.noMatch }) s
        | some i =>
          let s := portMod n (fun p => { p with hits := tabMod 0 p.hits i satInc }) s
          let r : CanRx := { frame := x, flt := i, count := tabGet 0 (portOf s n).hits i % 65536, ts := now s }
          match (fltOf s n i).action with
          | 1 => slotTake n i r s
          | 2 => fifoTake n i r s
          | _ => s
      canStart n s

/-- A receive slot's RX_TIMEOUT passes (R348). -/
def opCanRxStale (n i : Nat) (s : State) : State :=
  let c : CanSlot := tabGet {} (portOf s n).slots i
  let tmo := (fltOf s n i).timeout
  match c.cur with
  | none => s
  | some r =>
    if !c.stale && decide (tmo ≠ 0) then
      let s := reach (r.ts + tmo * 1000000 + 1) s
      record 0x0908 (0x0280 + n) (items [i] ++ item64 r.ts)
        (portMod n (fun p => { p with slots := tabPut {} p.slots i { c with stale := true, staleTs := now s } }) s)
    else s

/-- A receive slot or FIFO entry of 80 bytes. -/
def rxBytes (r : CanRx) (fresh stale : Bool) : List Byte :=
  let f := r.frame
  let id := fldF (f.id % 2 ^ 29) 0 ||| bitF f.ide 29 ||| bitF f.fdf 30 ||| bitF fresh 31
  let info := fldF f.data.length 0 ||| bitF stale 7 ||| bitF f.brs 8 ||| bitF f.esi 9 ||| fldF r.flt 10 ||| fldF r.count 16
  wordBytes id ++ wordBytes info ++ wordBytes (w32 r.ts) ++ wordBytes (w32 (r.ts / 2 ^ 32)) ++
    (f.data ++ List.replicate 64 0).take 64

/-- The state of a slot as it stood at `t` (R347). -/
def slotAt (c : CanSlot) (t : Nat) : Option CanRx :=
  (c.cur.toList ++ c.past).find? fun r => decide (r.ts ≤ t)

/-- A port status block of 32 bytes. -/
def canStatusBytes (s : State) (n : Nat) : List Byte :=
  let p := portOf s n
  let st := if !p.configured then 3 else match p.st with
    | .active => 0
    | .passive => 1
    | .busOff => 2
  let pend (lo : Nat) : Word := maskW fun i => (txOf s n (lo + i)).frame.isSome
  wordBytes (fldF st 0 ||| bitF (p.configured && listenOnly s n) 2 ||| fldF (p.rec_ % 256) 8 ||| fldF (min p.tec 255) 16) ++
    wordBytes (w32 p.csDrop) ++ wordBytes (w32 p.csLost) ++ wordBytes (w32 p.csBusOff) ++ wordBytes (pend 0) ++
    wordBytes (pend 32) ++ List.replicate 8 0

/-! ### Release at a strobe (R352) -/

/-- The next DLC length of an FD frame. -/
def dlcLen (n : Nat) : Nat :=
  if n ≤ 8 then n else if n ≤ 12 then 12 else if n ≤ 16 then 16 else if n ≤ 20 then 20 else if n ≤ 24 then 24
  else if n ≤ 32 then 32 else if n ≤ 48 then 48 else 64

/-- The committed output image with task k's forced mapping words in place (R275). -/
def outForced (s : State) (k : Nat) : Tab Byte :=
  (taskOf s k).outForces.foldl (fun m f =>
    if f.kind == 5 && decide (0x10000 ≤ f.index) then wordPut m (f.index - 0x10000) f.value else m) s.fab.outImg

/-- The frame of a buffer from its committed entry (R352). -/
def canFrameOf (c : CanTxb) (m : Tab Byte) : CanFrame :=
  let base := 0x1000 + 16 * c.map
  let l := min 64 ((byteAt m base).toNat % 128)
  let n := if c.fdf then dlcLen l else min 8 l
  { id := c.id, ide := c.ide, fdf := c.fdf, brs := c.brs && c.fdf
    data := (bytesAt m (base + 4) (min l n) ++ List.replicate 64 0).take n }

/-- Task k's strobe releases the buffers it owns (R352, R359); `adopt` in a cycle that adopts the partner's commands. -/
def canStrobe (k : Nat) (adopt : Bool) (s : State) : State :=
  let m := outForced s k
  (List.range 4).foldl (fun s n =>
    if !(portOf s n).configured then s
    else
      let s := (portOf s n).cfg.txbs.foldl (fun s (b, c) =>
        if c.en && !keeperBuf s n b && ownerOf s (0x1000 + 16 * c.map) == some k then
          let seq := (byteAt m (0x1000 + 16 * c.map + 1)).toNat
          let due := if c.request then seq != (txOf s n b).lastSeq else (taskOf s k).cycle % (max 1 c.divi) == 0
          let s := if c.request then txMod n b (fun x => { x with lastSeq := seq }) s else s
          if due && !listenOnly s n && roleSends s && !adopt then canPut n b (canFrameOf c m) s else s
        else s) s
      canStart n s) s

/-- Frames of tasks that meet `p` are discarded without counting as lost (R356). -/
def canDiscard (p : Nat → Bool) (s : State) : State :=
  (List.range 4).foldl (fun s n =>
    (portOf s n).cfg.txbs.foldl (fun s (b, c) =>
      match ownerOf s (0x1000 + 16 * c.map) with
      | none => s
      | some k =>
        if p k && !keeperBuf s n b then
          txMod n b (fun x =>
            if x.st = .onBus then { x with waiting := none, noRetry := true }
            else { lastSeq := x.lastSeq }) s
        else s) s) s

/-! ### Cancellation, restart and load (R355, R358) -/

/-- Transmit-cancel of a buffer: its return code (R355). -/
def canCancel (n b ident : Nat) (s : State) : Nat × State :=
  let x := txOf s n b
  match x.st with
  | .idle => (0x0103, s)
  | .onBus => (0x0308, s)
  | _ =>
    let lost := 1 + b2n x.waiting.isSome
    let s := txMod n b (fun x => { lastSeq := x.lastSeq }) s
    let s := portMod n (fun p => { p with
      lostCnt := satAdd p.lostCnt lost, csLost := satAdd p.csLost lost, cancelCnt := satInc p.cancelCnt }) s
    (0, record 0x0907 (0x0280 + n) (items [b, x.retries] ++ item128 ident) s)

/-- Port-restart: its return code (R358). -/
def canRestart (n : Nat) (s : State) : Nat × State :=
  if (portOf s n).st = .busOff then (0, portMod n (fun p => { p with recovering := true, byCommand := true }) s)
  else (0x0304, s)

/-- The port settings of an image take effect. -/
def canLoad (t : Tab (Option CanCfg)) (s : State) : State :=
  (List.range 4).foldl (fun s n =>
    match tabGet none t n with
    | none => { s with can := tabPut {} s.can n {} }
    | some c => portMod n (fun p => { p with configured := true, cfg := c, slots := [], tx := [], fifo := [] }) s) s

/-- A restart: slots are stale again and the status counts begin at 0 (R348, R361). -/
def canRestarted (s : State) : State :=
  (List.range 4).foldl (fun s n =>
    if (portOf s n).configured then
      portMod n (fun p => { p with
        slots := p.slots.map (fun (i, c) => (i, { c with stale := true, staleTs := now s }))
        fifo := [], fifoMax := 0, ovfIn := 0, tdcDone := false, csDrop := 0, csLost := 0, csBusOff := 0 }) s
    else s) s

/-! ### The meanings -/

/-- CAN_FRAME_RECEIVED (R346). -/
def execCanFrameReceived (n : Nat) (x : CanFrame) (remote : Bool) (s : State) : Out := .next (opCanReceive n x remote s)
/-- CAN_TX_COMPLETE (R354). -/
def execCanTxComplete (n b : Nat) (tdcv : Option Nat) (s : State) : Out := .next (opCanTxComplete n b tdcv s)
/-- CAN_ARB_LOST (R353). -/
def execCanArbLost (n b : Nat) (s : State) : Out := .next (opCanArbLost n b s)
/-- CAN_BUS_ERROR (R357). -/
def execCanBusError (n lec : Nat) (inData : Bool) (tec rc : Nat) (tx : Option Nat) (s : State) : Out :=
  .next (opCanBusError n lec inData tec rc tx s)
/-- CAN_BUS_OFF_DELAY (R358). -/
def execCanBusOffDelay (n : Nat) (s : State) : Out := .next (opCanBusOffDelay n s)
/-- CAN_BUS_ON (R358). -/
def execCanBusOn (n : Nat) (s : State) : Out := .next (opCanBusOn n s)
/-- CAN_RX_STALE (R348). -/
def execCanRxStale (n i : Nat) (s : State) : Out := .next (opCanRxStale n i s)

end Sys2Proof.Machine
end

