-- ==== Sys2Proof/Machine/Wire.lean ====
section
/-!
DEFINITION. Sending on the Ethernet ports (R364, R365, R369) and the bytes of a Beam frame (R374, R375).
-/
namespace Sys2Proof.Machine

/-- A port: 0 ECN A, 1 ECN B, 2 service. -/
def netPort (s : State) (p : Nat) : NetPort := tabGet {} s.net.ports p

/-- Changes a port. -/
def portUpd (p : Nat) (f : NetPort → NetPort) (s : State) : State :=
  if p < 3 then { s with net := { s.net with ports := tabMod {} s.net.ports p f } } else s

/-- The Ethernet ports are held: the keeper pauses at an ACTIVATE (R556). -/
def ethHeld (s : State) : Bool := match s.kp.restart with
  | some (.activate, _) => true
  | _ => false

/-- At least one ECN port has link. -/
def ecnUp (s : State) : Bool := (netPort s 0).link || (netPort s 1).link

/-- A frame sent on one port; a port without a link sends nothing (R365). -/
def portSend (p : Nat) (e : Emit) (s : State) : State :=
  if (netPort s p).link && !ethHeld s then emit e (portUpd p (fun x => { x with txCnt := satInc x.txCnt }) s) else s

/-- A frame sent on both ECN ports under one PRP sequence number (R365). -/
def ecnSend (e : Emit) (s : State) : State :=
  if ecnUp s && !ethHeld s then
    let s := [0, 1].foldl (fun s p =>
      if (netPort s p).link then portUpd p (fun x => { x with txCnt := satInc x.txCnt }) s else s) s
    emit e { s with net := { s.net with prpSeq := (s.net.prpSeq + 1) % 65536 } }
  else s

/-- The source number of an Ethernet port (R388). -/
def netSrc (p : Nat) : Nat := if p < 2 then 0x0290 + p else 0

/-! ### The Beam frame (R374, R375) -/

/-- One byte of the CRC-32 with polynomial 0x1EDC_6F41, reflected. -/
def crc32cByte (c : Word) (b : Byte) : Word :=
  let f := fun (y : Word) => if y.getLsbD 0 then (y >>> 1) ^^^ 0x82F63B78#32 else y >>> 1
  f (f (f (f (f (f (f (f (c ^^^ b.zeroExtend 32))))))))

/-- SCRC: the keyed CRC-32 with initial value SAFETY_ID (R375). -/
def scrcOf (safety : Word) (bs : List Byte) : Word := ~~~ (bs.foldl crc32cByte safety)

/-- Two bytes, most significant first. -/
def be16 (n : Nat) : List Byte := [BitVec.ofNat 8 (n / 256), BitVec.ofNat 8 n]

/-- Bytes 0 to 27 + L of a Beam frame. -/
def beamBody (f : BeamFrame) : List Byte :=
  [BitVec.ofNat 8 f.version, BitVec.ofNat 8 f.typ] ++ be16 f.flags ++ be16 f.src ++ be16 f.dst ++ be16 f.conn ++
    be16 f.epoch ++ item32 f.seq ++ item64 f.ts ++ be16 f.len ++ [0, 0] ++ f.data

/-- Bytes 0 to 31 + L of a frame under its SAFETY_ID; the TAG that follows is the engine's (assumption log, entry 47). -/
def beamBytes (safety : Word) (f : BeamFrame) : List Byte :=
  beamBody f ++ item32 (scrcOf safety (beamBody f)).toNat

end Sys2Proof.Machine
end

