-- ==== Sys2Proof/Machine/TimeRtc.lean ====
section
/-!
DEFINITION. The time unit and the real-time clock (chapter 16).
-/
namespace Sys2Proof.Machine

/-- A candidate: 0 ECN A, 1 ECN B, 2 partner. -/
def candOf (s : State) (k : Nat) : Cand := tabGet {} s.time.cands k
/-- Changes a candidate. -/
def candMod (k : Nat) (f : Cand → Cand) (s : State) : State :=
  if k < 3 then { s with time := { s.time with cands := tabMod {} s.time.cands k f } } else s
/-- The source number of a candidate's events (R414). -/
def candSrc (k : Nat) : Nat := if k = 2 then 0x02A0 else 0x0290 + k

/-! ### Steps (R399) -/

/-- No task scans, so TS64 may step. -/
def stepAllowed (s : State) : Bool :=
  s.mode.exec == .stop || s.mode.exec == .safe || (twinOn s && s.mode.role == .noRole) ||
    (s.mode.role == .rejoining && match s.twin.rejoin.tJoin with
      | none => true
      | some t => decide (now s < t))

/-- TS64 is written and both key epochs are incremented (R399, R484); cause 1 the start of a switch, 2 the partner's time at a rejoin, 3 the time-step command. -/
def tsStep (t cause : Nat) (s : State) : State :=
  let old := now s
  let s := { s with time := { s.time with ts := t, stepCnt := satInc s.time.stepCnt } }
  epochBumps 3 (record 0x0B07 0 (item64 old ++ item64 t ++ items [cause]) s)

/-! ### Selection (R394 to R398) -/

/-- The data-set comparison of IEEE 1588: the lower key wins. -/
def dataSet (c : Cand) : List Nat := [c.prio1, c.clockClass, c.accuracy, c.variance, c.prio2, c.gm]

/-- The first list is lower, element by element. -/
def lexLt : List Nat → List Nat → Bool
  | a :: as, b :: bs => if a < b then true else if b < a then false else lexLt as bs
  | _, _ => false

/-- Candidate a is strictly better than candidate b (R394); 3 is holdover. -/
def candBetter (s : State) (a b : Nat) : Bool :=
  if a ≤ 1 ∧ b ≤ 1 then lexLt (dataSet (candOf s a)) (dataSet (candOf s b))
  else decide ((if a ≤ 1 then 1 else a) < (if b ≤ 1 then 1 else b))

/-- The best qualified candidate, 3 where none is (R394, R395). -/
def bestCand (s : State) : Nat :=
  let q (k : Nat) : Bool := (candOf s k).qual
  if s.mode.role == .assistant && q 2 && decide (1000 ≤ (candOf s 2).offset.natAbs) then 2
  else if q 0 && q 1 then
    if candBetter s 0 1 then 0
    else if candBetter s 1 0 then 1
    else if s.time.selected = 1 then 1 else 0
  else if q 0 then 0
  else if q 1 then 1
  else if q 2 then 2
  else 3

/-- The offset to a target. -/
def targetOffset (s : State) (k : Nat) : Int := if k < 3 then (candOf s k).offset else 0

/-- The increment changes by SLEW_MAX toward the target (R396). -/
def slewTo (s : State) : State :=
  let o := targetOffset s s.time.target
  let r : Int := s.time.slewMax * 1000
  { s with time := { s.time with offset := o, ratePpb := if o < 0 then -r else r } }

/-- The selector enters holdover (R397, R398). -/
def enterHoldover (s : State) : State :=
  let last := s.time.selected
  let s := { s with time := { s.time with
    selected := 3, target := 3, switching := false, ratePpb := 0, offset := 0, holdTs := now s
    holdCnt := satInc s.time.holdCnt } }
  record 0x0B06 0 (items [last]) s

/-- A switch begins (R396, R399). -/
def startSwitch (k : Nat) (s : State) : State :=
  let old := s.time.target
  let o := targetOffset s k
  let s := { s with time := { s.time with
    target := k, switching := true, swTs := now s, switchCnt := satInc s.time.switchCnt } }
  let s := record 0x0B03 0 (items [old, k] ++ itemInt o) s
  if stepAllowed s then
    let s := tsStep (now s + o).toNat 1 s
    let cs := (List.range 3).foldl (fun (t : Tab Cand) i =>
      tabMod {} t i fun c => if c.present then { c with offset := c.offset - o } else c) s.time.cands
    { s with time := { s.time with cands := cs, offset := 0, ratePpb := 0 } }
  else
    let s := slewTo s
    if 1000000 ≤ o.natAbs then record 0x0B08 0 (itemInt o ++ items [o.natAbs / (s.time.slewMax * 1000)]) s else s

/-- A switch is re-targeted (R397). -/
def retarget (k : Nat) (s : State) : State :=
  let old := s.time.target
  let s := { s with time := { s.time with target := k, retargetCnt := satInc s.time.retargetCnt } }
  let s := record 0x0B05 0 (items [old, k] ++ itemInt (targetOffset s k)) s
  if k = 3 then enterHoldover s else slewTo s

/-- The selector acts on a change of qualification (R394 to R397). -/
def reselect (s : State) : State :=
  let b := bestCand s
  let t := s.time.target
  let lost := decide (t < 3) && !(candOf s t).qual
  let forced := s.mode.role == .assistant && b == 2 && t != 2 && decide (1000 ≤ (candOf s 2).offset.natAbs)
  if lost || forced || candBetter s b t then
    if b = t then s
    else if s.time.switching then retarget b s
    else if b = 3 then enterHoldover s
    else startSwitch b s
  else s

/-- A candidate loses qualification or stability; cause by its place in R393, 5 for the partner's conditions. -/
def candLost (k cause : Nat) (restart : Bool) (s : State) : State :=
  let was := (candOf s k).qual
  let s := candMod k (fun c => { c with qual := false, stable := restart, stableTs := now s }) s
  if was then
    let s := { s with time := { s.time with disqualCnt := satInc s.time.disqualCnt } }
    reselect (record 0x0B02 (candSrc k) (items [k, cause]) s)
  else s

/-- A PTP candidate has its Announce and Sync in time (R393). -/
def ptpFresh (s : State) (c : Cand) : Bool :=
  c.present && c.offTs.isSome && decide (now s ≤ c.annTs + 3 * c.annIv) && decide (now s ≤ c.syncTs + 3 * c.syncIv)

/-- A PTP message updates its port's candidate (R392, R393). -/
def opPtpMessage (p : Nat) (m : PtpMsg) (s : State) : State :=
  if (s.time.ptpCfg.toNat % 4 = 0) ∨ 2 ≤ p ∨ ethHeld s then s
  else
    let c := candOf s p
    let s :=
      match m.kind with
      | .announce =>
        let changed := c.annTs ≠ 0 ∧ c.gm ≠ m.gm
        let s := candMod p (fun c => { c with
          present := true, gm := m.gm, prio1 := m.prio1, prio2 := m.prio2, clockClass := m.clockClass
          accuracy := m.accuracy, variance := m.variance, annTs := now s, annIv := m.interval, utc := m.utc }) s
        if changed then candLost p 3 (candOf s p).stable s else s
      | k =>
        let s := if k = .sync then candMod p (fun c => { c with present := true, syncTs := now s, syncIv := m.interval }) s else s
        match m.offset with
        | none => s
        | some o =>
          let jump := match c.offTs with
            | none => false
            | some t => decide (10000 ≤ (o - (c.offset - s.time.ratePpb * ((now s - t : Nat) : Int) / 1000000000)).natAbs)
          let s := candMod p (fun c => { c with offset := o, offTs := some (now s) }) s
          let s := if jump then candLost p 4 (candOf s p).stable s else s
          if s.time.target = p then { s with time := { s.time with offset := o } } else s
    let c := candOf s p
    let s := if !c.stable && ptpFresh s c then candMod p (fun c => { c with stable := true, stableTs := now s }) s else s
    match m.utc with
    | some u =>
      if s.time.selected = p ∧ m.kind = .announce then { s with time := { s.time with utcOff := u, utcPtp := true } } else s
    | none => s

/-- A candidate stable for 2 s becomes qualified (R393). -/
def opRefQualified (k : Nat) (s : State) : State :=
  let c := candOf s k
  if c.stable && !c.qual && decide (k < 3) then
    let s := reach (c.stableTs + 2000000000) s
    let s := candMod k (fun c => { c with qual := true }) s
    reselect (record 0x0B01 (candSrc k) (items [k] ++ item64 c.gm ++ itemInt c.offset) s)
  else s

/-- A candidate's Announce (1) or Sync (2) times out, or its partner conditions (5) end (R393). -/
def opRefLost (k cause : Nat) (s : State) : State :=
  let c := candOf s k
  if c.stable && decide (k < 3) then
    let s := if cause = 1 then reach (c.annTs + 3 * c.annIv + 1) s
      else if cause = 2 then reach (c.syncTs + 3 * c.syncIv + 1) s else s
    candLost k cause false s
  else s

/-- The offset to the target falls below 1 µs (R396). -/
def opSwitchDone (off : Int) (s : State) : State :=
  if s.time.switching ∧ off.natAbs < 1000 ∧ s.time.target < 3 then
    let t := s.time.target
    let utc := (candOf s t).utc
    let d := (now s - s.time.swTs) / 1000000
    let s := candMod t (fun c => { c with offset := off }) s
    let s := { s with time := { s.time with
      selected := t, switching := false, ratePpb := 0, offset := off, seeded := false, holdTs := 0
      utcOff := utc.getD s.time.utcOff, utcPtp := utc.isSome || s.time.utcPtp } }
    record 0x0B04 0 (items [t, d]) s
  else s

/-- The twin's TS64 offset has been 2 µs or more for 10 ms (R212). -/
def opTimeOffsetHigh (s : State) : State :=
  match s.twin.offHigh with
  | none => s
  | some t =>
    if s.twin.offTold then s
    else
      let s := reach (t + 10000000) s
      record 0x0413 0x02A0 (itemInt s.twin.tsOffset) { s with twin := { s.twin with offTold := true } }

/-- This module's port is master on its segment (R392). -/
def ptpMaster (s : State) (p : Nat) : Bool :=
  match s.time.ptpCfg.toNat % 4 with
  | 2 =>
    let c := candOf s p
    let own := [s.time.ptpCfg.toNat / 2 ^ 16 % 256, 248, 0xFE, 0xFFFF, s.time.ptpCfg.toNat / 2 ^ 24]
    !c.stable || lexLt own ((dataSet c).take 5)
  | 3 => s.time.target != p
  | _ => false

/-- A PTP message leaves a port: Announce and Sync as master, Delay_Req as slave (R392). -/
def opPtpSend (p kind : Nat) (s : State) : State :=
  if s.time.ptpCfg.toNat % 4 = 0 ∨ 2 ≤ p then s
  else
    let m := ptpMaster s p
    let s := candMod p (fun c => { c with master := m }) s
    if m then portSend p { kind := .ptp, dest := p, args := [if kind = 0 then 0 else 1, now s] } s
    else if (candOf s p).present then portSend p { kind := .ptp, dest := p, args := [2, now s] } s
    else s

/-! ### The real-time clock (R403 to R411) -/

/-- ns to the next second boundary of the RTC. -/
def toBoundary (r : Rtc) : Nat :=
  let need := (r.secLen - r.sub) * 1000000000 - r.acc
  (need + 32767) / 32768

/-- Time moves on to the next second boundary. -/
def reachSecond (s : State) : State := advance (toBoundary s.rtc) s

/-- Every unmasked field of the alarm equals the calendar (R407). -/
def alarmMatch (a : Alarm) (c : Cal) (wday : Nat) : Bool :=
  (a.mask.testBit 0 || a.sec == c.sec) && (a.mask.testBit 1 || a.min == c.min) && (a.mask.testBit 2 || a.hour == c.hour) &&
    (a.mask.testBit 3 || a.day == c.day) && (a.mask.testBit 4 || a.mon == c.mon) && (a.mask.testBit 5 || a.wday == wday)

/-- Calendar fields packed as RTC_DATE and RTC_TIME. -/
def calItems (c : Cal) : List Nat :=
  [c.year * 65536 + c.mon * 256 + c.day, c.hour * 65536 + c.min * 256 + c.sec]

/-- Changes an alarm. -/
def almMod (k : Nat) (f : Alarm → Alarm) (s : State) : State :=
  if k < 2 then { s with rtc := { s.rtc with alms := tabMod {} s.rtc.alms k f } } else s

/-- The alarm fires in the present second (R407). -/
def alarmFire (k : Nat) (s : State) : State :=
  let bk := s.rtc.supply != 0
  let c := s.rtc.cal
  let s := almMod k (fun a => { a with fired := true, onBackup := bk, notIn := some c, late := if bk then some c else a.late }) s
  if bk then s else record 0x0B12 0x02B0 (items ([k] ++ calItems c ++ [b2n bk])) s

/-- An alarm matches at a second boundary: the present one, or the next (R407). -/
def opRtcAlarm (k : Nat) (s : State) : State :=
  let a : Alarm := tabGet {} s.rtc.alms k
  if !a.en ∨ s.rtc.stopped then s
  else if alarmMatch a s.rtc.cal s.rtc.wday && a.notIn != some s.rtc.cal then alarmFire k s
  else
    let t := reachSecond s
    if alarmMatch a t.rtc.cal t.rtc.wday then alarmFire k t else s

/-- The pending shift is applied at the next second boundary (R408). -/
def opRtcShift (s : State) : State :=
  match s.rtc.shift with
  | none => s
  | some k =>
    if s.rtc.stopped then s else
    let q := s.rtc.quiet
    let s := reachSecond s
    let s := { s with rtc := { s.rtc with shift := none, quiet := false, secLen := (32768 - k).toNat } }
    if q then s else record 0x0B13 0x02B0 (itemInt k) s

/-- Seconds from 1970-01-01 to 2000-01-01. -/
def secs2000 : Nat := 10957 * 86400

/-- UTC in ns from 2000-01-01, from TS64. -/
def utcNs (s : State) : Nat := now s - (s.time.utcOff + secs2000) * 1000000000

/-- The RTC is set, or shifted, towards TS64 (R408). -/
def rtcCorrect (s : State) : State :=
  let s := { s with rtc := { s.rtc with corrTs := now s } }
  if utcNs s / 1000000000 ≠ calSecs s.rtc.cal then
    let s := reachSecond s
    { s with rtc := { s.rtc with
      cal := calOfSecs (utcNs s / 1000000000), valid := true, syncCnt := satInc s.rtc.syncCnt } }
  else
    let d : Int := (utcNs s % 1000000000 * 32768 / 1000000000 : Nat) - (s.rtc.sub : Int)
    if 2 ≤ d.natAbs ∧ s.rtc.shift = none then
      { s with rtc := { s.rtc with
        shift := some (max (-16384) (min 16384 d)), quiet := true, valid := true, syncCnt := satInc s.rtc.syncCnt } }
    else s

/-- The keeper's comparison of the RTC with TS64 every 60 s (R408). -/
def opRtcCorrection (s : State) : State :=
  if timeQualified s ∧ !s.rtc.stopped then rtcCorrect (reach (s.rtc.corrTs + 60000000000) s) else s

/-- The backup domain switches over: 1 supercapacitor, 2 lithium cell (R409). -/
def opRtcBackup (sup : Nat) (s : State) : State :=
  if (sup = 1 ∨ sup = 2) ∧ s.rtc.supply ≠ sup then
    let r := s.rtc
    let r := { r with supply := sup, bkpCnt := min 65535 (r.bkpCnt + 1) }
    if r.firstValid then { s with rtc := r }
    else { s with rtc := { r with firstValid := true, firstCal := r.cal, firstSub := r.sub, firstTold := false } }
  else s

/-- The lithium cell reads below 2.6 V (R409). -/
def opRtcCellLow (mv : Nat) (s : State) : State :=
  if mv < 2600 then
    let was := s.rtc.cellLow
    let s := { s with rtc := { s.rtc with cellMv := mv, cellLow := true } }
    if was then s else record 0x0B15 0x02B0 (items [mv]) s
  else { s with rtc := { s.rtc with cellMv := mv, cellLow := false } }

/-- The RTC hour rolls from 23 to 0 (R403, R404). -/
def opRtcRollover (s : State) : State :=
  if s.rtc.stopped then s else
  let s := reachSecond s
  let c := s.rtc.cal
  let sod := c.hour * 3600 + c.min * 60 + c.sec
  if sod = 0 then s else
    let r := s.rtc
    let need := (86400 - sod) * 32768 * 1000000000 - r.sub * 1000000000 - r.acc
    advance ((need + 32767) / 32768) s

/-- TS64 from the RTC (R411). -/
def seedTs (s : State) : Nat :=
  (calSecs s.rtc.cal + secs2000 + s.time.utcOff) * 1000000000 + s.rtc.sub * 1000000000 / 32768

/-! ### The meanings -/

/-- PTP_MESSAGE (R392). -/
def execPtpMessage (p : Nat) (m : PtpMsg) (s : State) : Out := .next (opPtpMessage p m s)
/-- PTP_SEND (R392). -/
def execPtpSend (p kind : Nat) (s : State) : Out := .next (opPtpSend p kind s)
/-- TIME_REF_QUALIFIED (R393). -/
def execTimeRefQualified (k : Nat) (s : State) : Out := .next (opRefQualified k s)
/-- TIME_REF_LOST (R393). -/
def execTimeRefLost (k cause : Nat) (s : State) : Out := .next (opRefLost k cause s)
/-- TIME_SWITCH_DONE (R396). -/
def execTimeSwitchDone (off : Int) (s : State) : Out := .next (opSwitchDone off s)
/-- TIME_OFFSET_HIGH (R212). -/
def execTimeOffsetHigh (s : State) : Out := .next (opTimeOffsetHigh s)
/-- RTC_ALARM (R407). -/
def execRtcAlarm (k : Nat) (s : State) : Out := .next (opRtcAlarm k s)
/-- RTC_SHIFT_APPLY (R408). -/
def execRtcShiftApply (s : State) : Out := .next (opRtcShift s)
/-- RTC_KEEPER_CORRECTION (R408). -/
def execRtcKeeperCorrection (s : State) : Out := .next (opRtcCorrection s)
/-- RTC_BACKUP_SWITCH (R409). -/
def execRtcBackupSwitch (sup : Nat) (s : State) : Out := .next (opRtcBackup sup s)
/-- RTC_CELL_LOW (R409). -/
def execRtcCellLow (mv : Nat) (s : State) : Out := .next (opRtcCellLow mv s)
/-- RTC_HOUR_ROLLOVER (R404). -/
def execRtcHourRollover (s : State) : Out := .next (opRtcRollover s)

end Sys2Proof.Machine
end

