-- ==== Sys2Proof/Machine/Reply.lean ====
section
/-!
DEFINITION. How a command is answered (R424, R428, R437, R442, R457): in its mailbox, on the CAN command port, or in the
slot of its scheduled action.
-/
namespace Sys2Proof.Machine

/-- The answer to a command: return code and reply data. -/
structure Ans where
  rc   : Nat
  data : List Word := []
  deriving DecidableEq, Repr

/-- Reply data goes with the classes 0x00 and 0x01 (R437). -/
def ansTrim (a : Ans) : Ans := if a.rc < 0x0200 then a else { a with data := [] }

/-- A word, most significant byte first. -/
def beWord (w : Word) : List Byte := item32 w.toNat

/-- The 64-byte reply frame of the CAN command port (R428): header, return code and data, counter, tag (a free value),
zeros. -/
def canReplyBytes (q : Req) (a : Ans) (counter : Nat) (t0 t1 : Word) : List Byte :=
  let d := a.data.take 8
  beWord (hdrWord q.opcode q.tag (2 + d.length)) ++ ((beWord (fldF a.rc 16) ++ d.flatMap beWord) ++ List.replicate 36 0).take 36 ++
    item64 counter ++ beWord t0 ++ beWord t1 ++ List.replicate 8 0

/-- The reply to a CAN request leaves through buffer 63 of the port (R360, R429). -/
def canReply (p : Nat) (q : Req) (a : Ans) (s : State) : State :=
  let c := s.sec.canReply + 1
  let (t0, s) := freeNext { s with sec := { s.sec with canReply := c } }
  let (t1, s) := freeNext s
  let b := txbOf s p 63
  let f : CanFrame := { id := b.id, ide := b.ide, fdf := true, brs := b.brs, data := canReplyBytes q a c t0 t1 }
  canStart p (canPut p 63 f { s with kp := { s.kp with canBusy := none } })

/-- The outcome of a scheduled command: OK becomes OK_LATE where the action was late (R400, R457). -/
def slotOutcome (k : Nat) (rc : Nat) (s : State) : State :=
  { s with time := { s.time with sch := tabMod {} s.time.sch k fun x =>
      { x with st := 2, outcome := if rc = 0 ∧ 0 < x.lateNs then 0x0101 else rc } } }

/-- The answer reaches the sender, where its mailbox is still its own (R426, R432). -/
def finish (q : Req) (a : Ans) (s : State) : State :=
  match q.origin with
  | .host m =>
    let x := mbxOf s m
    if (x.session.isSome || x.retainUntil.isSome) && x.identity == q.ident then
      replyTo m { opcode := q.opcode, tag := q.tag, rc := a.rc, data := a.data } s
    else s
  | .can p => canReply p q a s
  | .slot k => slotOutcome k a.rc s
  | .partner => s

/-- Commands whose declared instant SAFE abandons are answered STATE_CONFLICT (R443). -/
def abandonDeclared (s : State) : State :=
  s.mode.declared.foldl (fun s d => match d.kind with
    | .command q => finish q { rc := 0x0304 } { s with kp := { s.kp with long := s.kp.long.filter fun l => l.done || l.req != q } }
    | _ => s) { s with mode := { s.mode with declared := [] } }

end Sys2Proof.Machine
end

