-- ==== Sys2Proof/Machine/SafeState.lean ====
section
/-!
DEFINITION. The safe state of a sector and of the module (R52, R53, R265, R233), and the role operations that go
with it in a twin (R221, R232).
-/
namespace Sys2Proof.Machine

/-- The first scheduled instant of a cyclic task at or after `t` (R29). -/
def gridAt (c : TaskCfg) (t : Nat) : Nat :=
  let per := c.period * 1000
  let ph := c.phase * 1000 % per
  if per = 0 then t else t + (ph + per - t % per) % per

/-- A task of the cyclic kind: 0 to 7. -/
def isCyclic (k : Nat) : Bool := decide (k < 8)

/-- The cyclic tasks of the image. -/
def cyclicTasks (s : State) : List Nat := (tasksUsed s).filter isCyclic

/-- T_sw: the earliest scheduled instant, among all cyclic tasks, at least `d` ns ahead. -/
def switchInstant (s : State) (d : Nat) : Nat :=
  ((cyclicTasks s).foldl (fun (b : Option Nat) k =>
    let g := gridAt (taskCfg s k) (now s + d)
    match b with
    | none => some g
    | some x => some (min x g)) none).getD (now s + d)

/-- A frame joins the link transmitter's queue (R207). -/
def twinQueue (f : TwinFrame) (s : State) : State := { s with twin := { s.twin with txQ := s.twin.txQ ++ [f] } }

/-- The CARRY bits this module sends (R221). -/
def ownCarry (s : State) : BitVec 4 :=
  BitVec.ofNat 4 (maskN (fun g =>
    twinOn s && (s.mode.role == .principal || s.mode.role == .assistant) && !assistHost s && s.mode.exec != .safe &&
      (List.range 8).all fun i => match ownerOf s ((8 * g + i) / 8) with
        | none => true
        | some k => sectorState s (taskCfg s k).sector == .run) 4)

/-- The principal relinquishes (R232): RELINQUISH with T_sw is queued and the change waits for it. -/
def relinquish (cause : Nat) (s : State) : State :=
  if s.mode.role = .principal ∧ s.twin.relinq = none then
    let t := switchInstant s 10000
    let s := { s with twin := { s.twin with relinq := some { ts := t, cause := cause }, pend := some { role := .assistant, ts := t, cause := cause } } }
    record 0x0405 0x02A0 (items [cause] ++ item64 t) s
  else s

/-- Task Beam connections of tasks that meet `p` send their next 3 due frames with SAFE and then nothing (R265). -/
def beamSafe (p : Nat → Bool) (s : State) : State :=
  match s.img with
  | none => s
  | some img =>
    img.beamTx.foldl (fun s (c, cfg) =>
      if cfg.en && p cfg.task then
        { s with beam := { s.beam with tx := tabMod {} s.beam.tx c fun x =>
            if x.state = 1 then { x with state := 2, safeLeft := 3 } else x } }
      else s) s

/-- Lamps that run groups of tasks that meet `p` stop; their speculative work is dropped. -/
def lampsStop (p : Nat → Bool) (s : State) : State :=
  { s with fab := { s.fab with lamps := (s.fab.lamps.map fun (i, l) =>
      let l := { l with
        specs := l.specs.filter fun g => !p g.task
        drain := l.drain.filter fun e => !p e.task }
      (i, if p l.task && l.mode != .idle then { l with mode := .idle, spec := false } else l)).filter fun x => x.2 != {} } }

/-- A task leaves its cycle without a strobe. -/
def cycleAbandon (k : Nat) (m : TaskMode) (s : State) : State :=
  taskMod k (fun t => { t with
    mode := m, phase := .idle, stretched := false, taken := [], doneG := [], takenNext := [], staged := [], held := none, lateNext := false }) s

/-- The cuts of a safe-state reaction open, except where the partner carries (R221, R300). `own` names the groups. -/
def cutsSafe (own : Nat → Bool) (s : State) : State :=
  (List.range 4).foldl (fun s g =>
    if own g && !(twinOn s && partnerCarries s g) then cutOpen g 1 s else s) s

/-- A DO group all of whose owned channels belong to tasks that meet `p` (assumption log, entry 19). -/
def groupOf (s : State) (p : Nat → Bool) (g : Nat) : Bool :=
  match ownerOf s g with
  | none => false
  | some k => p k

/-- A sector goes to the safe state with the cause of its SECTOR_SAFE record (R52, R186, R233). -/
def sectorSafe (sec cause : Nat) (s : State) : State :=
  if sectorState s sec = .safe then s
  else
    let ts := sectorTasks s sec
    let p (k : Nat) : Bool := ts.contains k
    let s := ts.foldl (fun s k => cycleAbandon k .sectorSafe s) (lampsStop p s)
    let s := setSector sec .safe s
    let s := if (match s.edit.delta with
        | some d => d.affected.any p
        | none => false) then proofAbort 8 s else s
    let s := beamSafe p (canDiscard p (reqSafe p s))
    let s := cutsSafe (groupOf s p) s
    let s := aoUpdate (latchUpdate s)
    let s := record 0x010A 0 (items [sec, cause]) s
    if twinOn s ∧ (s.mode.role = .principal ∨ s.mode.role = .assistant) then
      let mask := ts.foldl (fun m k => m + 2 ^ k) 0
      relinquish 2 (twinQueue { cls := 1, typ := 5, tag := 0, words := [sec, mask, cause] } s)
    else s

/-- A non-vital task is stopped with its points at their safe values (R53). -/
def taskStop (k : Nat) (s : State) : State :=
  let p (j : Nat) : Bool := j == k
  let t := taskOf s k
  let s := if t.stretched && t.phase != .idle then record 0x0101 0x10 (items [k, t.cycle, 0]) s else s
  let s := cycleAbandon k .stopped (lampsStop p s)
  aoUpdate (latchUpdate (beamSafe p (canDiscard p (reqSafe p s))))

/-- The output part of R265, for SAFE and for SAVING. -/
def outputsSafe (s : State) : State :=
  let all (_ : Nat) : Bool := true
  let s := beamSafe all (canDiscard all (reqSafe all s))
  let s := cutsSafe (fun _ => true) s
  aoUpdate (latchUpdate s)

/-- Every task leaves its cycle. -/
def tasksHalt (m : TaskMode) (s : State) : State :=
  (tasksUsed s).foldl (fun s k => cycleAbandon k m s) (lampsStop (fun _ => true) s)

/-- Ends a rejoin attempt without success (R239, R270), with its result as TWN_REJOIN shows it: both modules hear of it, a
rejoining module stops its tasks, waits 10 s, and after the third attempt becomes ISOLATED. -/
def rejoinFail (result : Nat) (s : State) : State :=
  let r := s.twin.rejoin
  if r.phase = 0 then s
  else
    let own := s.mode.role == .rejoining
    let a := min 3 (r.attempt + 1)
    let s := { s with twin := { s.twin with
      rejoin := { r with
        phase := 0, result := result, attempt := a, tJoin := none, tAssist := none, done := [], sent := [], todo := []
        sender := false, retryAt := if own && decide (a < 3) then some (now s + 10000000000) else none }
      pend := if own && decide (3 ≤ a) then some { role := .isolated, ts := now s, cause := 12 } else s.twin.pend } }
    let s := if own then tasksHalt .notScanning s else s
    let s := if s.twin.locked then twinQueue { cls := 3, typ := 8, tag := 0, words := [5, result] } s else s
    record 0x0410 0 (items [result, a]) s

/-- A snapshot that waits is dropped, and its commands answered STATE_CONFLICT (R516). -/
def snapDrop (s : State) : State := match s.nvm.snapWait with
  | none => s
  | some w =>
    w.reqs.foldl (fun s q => finish q { rc := 0x0304 } s)
      (record 0x0E06 0x02C0 (items [2]) { s with nvm := { s.nvm with snapWait := none } })

/-- SAFE_LATCHED is set, and a stop under way ends (R265). -/
def safeNote (causeOpen : Bool) (s : State) : State :=
  { s with mode := { s.mode with
    safeLatched := true, causeOpen := s.mode.causeOpen || causeOpen, stopStage := 0 } }

/-- A module of a twin reports every sector as failed and relinquishes (R233, R270). -/
def safeTell (secs : List Nat) (s : State) : State :=
  if twinOn s ∧ (s.mode.role = .principal ∨ s.mode.role = .assistant) then
    relinquish 2 (secs.foldl (fun s sec =>
      let m := (sectorTasks s sec).foldl (fun m k => m + 2 ^ k) 0
      twinQueue { cls := 1, typ := 5, tag := 0, words := [sec, m, 0x0114] } s) s)
  else s

/-- The module enters SAFE (R265, R266); `src` 0 command or 0x02D0 supervisor, `cause` its code, `latched` for the
cause that stays open. -/
def enterSafe (src cause : Nat) (causeOpen : Bool) (s : State) : State :=
  if s.mode.exec = .safe then { s with mode := { s.mode with causeOpen := s.mode.causeOpen || causeOpen } }
  else
    let s := safeNote causeOpen (abandonDeclared (setExec 5 .safe (proofAbort 8 s)))
    let s := tasksHalt .notScanning s
    let secs := ((tasksUsed s).map fun k => (taskCfg s k).sector).eraseDups
    safeTell secs (rejoinFail 4 (snapDrop (counterInc 5 (record 0x0114 src (items [cause]) (outputsSafe s)))))

/-! ### The cut test (R301) -/

/-- Begins the test of the next group whose cut is closed; `t` is when element A begins to open. -/
def cutTestNext (t : Nat) (rest : List Nat) (forCmd : Bool) (passed skipped : Nat) (s : State) : State :=
  match rest with
  | [] =>
    let s := { s with dio := { s.dio with cutTest := none } }
    match forCmd, s.kp.long.find? fun l => l.req.opcode == 0x0406 && !l.done with
    | true, some l => longDone l.req 0 [fldF passed 0 ||| fldF skipped 16] s
    | _, _ => s
  | g :: gs =>
    if cutIsOpen s g then cutTestNext t gs forCmd passed (skipped + 2 ^ g) s
    else
      let c : CutTest := { group := g, elemB := false, endTs := t + 100000, rest := gs, forCmd := forCmd,
                           passed := passed, skipped := skipped }
      { s with dio := { s.dio with cutTest := some c } }

/-- Starts a test of some groups, in ascending order. -/
def cutTestStart (gs : List Nat) (forCmd : Bool) (s : State) : State :=
  cutTestNext (now s) gs forCmd 0 0 s

/-- Sectors that own a channel of a group. -/
def groupSectors (s : State) (g : Nat) : List Nat :=
  match ownerOf s g with
  | none => []
  | some k => [(taskCfg s k).sector]

/-- The periodic cut test falls due (R301). -/
def opCutTestPeriodic (s : State) : State :=
  if s.mode.exec = .run ∧ s.dio.cfg.cutPeriod ≠ 0 ∧ s.dio.configured ∧ s.dio.cutTest = none ∧ fieldOn s 1 then
    let s := reach s.dio.cutNext s
    cutTestStart [0, 1, 2, 3] false
      { s with dio := { s.dio with cutNext := now s + s.dio.cfg.cutPeriod * 3600000000000 } }
  else s

/-- An element's opening ends; `ua` is the current through the cut at 50 µs (R301). -/
def opCutElementEnd (ua : Nat) (s : State) : State :=
  match s.dio.cutTest with
  | none => s
  | some c =>
    let s := reach c.endTs s
    let fail := decide (1000 ≤ ua)
    let s := dgrpMod c.group (fun x => if c.elemB then { x with bFail := fail } else { x with aFail := fail }) s
    let s := if fail then record 0x0617 0x02E1 (items [c.group, if c.elemB then 2 else 1, ua]) s else s
    let passed := c.passed + (if fail then 0 else 2 ^ (2 * c.group + b2n c.elemB))
    let both := (dgrpOf s c.group).aFail && (dgrpOf s c.group).bFail
    if c.elemB then
      let s := { s with dio := { s.dio with cutCnt := satInc s.dio.cutCnt } }
      let s := if both then (groupSectors s c.group).foldl (fun s sec => sectorSafe sec 0x0617 s) s else s
      cutTestNext (now s + 1000000) c.rest c.forCmd passed c.skipped s
    else
      let c := { c with elemB := true, endTs := now s + 1000000 + 100000, passed := passed }
      { s with dio := { s.dio with cutTest := some c } }

/-- The group-cut reset of R300: its return code. -/
def groupCutReset (g : Nat) (s : State) : Nat × State :=
  let x := dgrpOf s g
  if x.safe then (0x0304, s)
  else if x.latched = 0 then (0x0103, s)
  else if (List.range 8).all fun i => !s.dio.line.getLsbD (8 * g + i) && !doCmd s (8 * g + i) then
    (0, outsUpdate (record 0x0616 0x02E1 (items [g, x.latched, 2]) (dgrpMod g (fun x => { x with latched := 0 }) s)))
  else (0x0304, s)

/-- Cuts opened by the safe state close, at a reset or when the sector returns. -/
def cutsClose (own : Nat → Bool) (s : State) : State :=
  (List.range 4).foldl (fun s g =>
    if own g && (dgrpOf s g).safe then
      let s := dgrpMod g (fun x => { x with safe := false }) s
      if cutIsOpen s g then s else outsUpdate (record 0x0616 0x02E1 (items [g, 1, 2]) s)
    else s) s

/-! ### The meanings -/

/-- CUT_TEST_PERIODIC (R301). -/
def execCutTestPeriodic (s : State) : Out := .next (opCutTestPeriodic s)
/-- CUT_TEST_ELEMENT_END (R301). -/
def execCutTestElementEnd (ua : Nat) (s : State) : Out := .next (opCutElementEnd ua s)

end Sys2Proof.Machine
end

