-- ==== Sys2Proof/Machine/Buoy.lean ====
section
/-!
DEFINITION. The buoys (chapter 13): authentication, settings, life counters and their mirrors, the exchange.
-/
namespace Sys2Proof.Machine

/-- Changes a socket. -/
def sockMod (b : Nat) (f : Sock → Sock) (s : State) : State :=
  if b < 3 then { s with buoy := { s.buoy with socks := tabMod {} s.buoy.socks b f } } else s

/-- Source number of socket b (R339). -/
def sockSrc (b : Nat) : Nat := 0x02E0 + b

/-- The buoy in the socket is authenticated (R24). -/
def buoyAuth (s : State) (b : Nat) : Bool :=
  match (sockOf s b).st with
  | .configuring | .inService | .cfgFailed => true
  | _ => false

/-- Changed service of a socket's channels: decisions, drives, output currents and HART masters follow. -/
def sockFollow (b : Nat) (s : State) : State :=
  if b = 0 then diAfter s
  else if b = 1 then latchUpdate s
  else hartStart false (aoUpdate s)

/-- Pass-through commands of HART masters that stop end without a response. -/
def hartDrop (s : State) : State := (List.range 16).foldl (fun s n => hartPassDone n 1 {} s) s

/-! ### Life counters (R330 to R332) -/

/-- The four life counters as BUY_ shows them. -/
def lifeVals (k : Sock) : List Nat := [k.surge / 1000, k.clamp / 1000, k.mate, k.thoursN / 100000000]

/-- Ratings of the four counters; 0 is not used (R330). -/
def lifeRatings (b : Nat) : List Nat :=
  [if b = 0 then 600000 else if b = 1 then 800000 else 400000, if b = 1 then 10000000 else 0, 50, 1750000]

/-- LIFE and the counter that sets it (R332). -/
def life (s : State) (b : Nat) : Nat × Nat :=
  let r := (lifeVals (sockOf s b)).zip (lifeRatings b) |>.map fun (v, m) => if m = 0 then 0 else v * 1000 / m
  (List.range 4).foldl (fun (p : Nat × Nat) j => if p.1 < r.getD j 0 then (r.getD j 0, j) else p) (0, 0)

/-- MAINTENANCE_DUE and END_OF_LIFE are set at their crossings (R332). -/
def lifeCheck (b : Nat) (s : State) : State :=
  if !buoyAuth s b then s
  else
    let (l, by_) := life s b
    let pl := items (by_ :: lifeVals (sockOf s b))
    let s := if 800 ≤ l ∧ !(sockOf s b).maint then
        record 0x0806 (sockSrc b) pl (sockMod b (fun k => { k with maint := true }) s)
      else s
    if 1000 ≤ l ∧ !(sockOf s b).eol then
      record 0x0807 (sockSrc b) pl (sockMod b (fun k => { k with eol := true }) s)
    else s

/-- The 100th-root step of the weight: the largest n in the interval whose 100th power does not exceed `m`. -/
def rootBisect (m : Nat) : Nat → Nat → Nat → Nat
  | 0, lo, _ => lo
  | f + 1, lo, hi =>
    let x := (lo + hi) / 2
    if x ^ 100 ≤ m then rootBisect m f x hi else rootBisect m f lo x

/-- The weight of one minute at `t` tenths of a degree, in 10^-9 h, rounded down (R330; assumption log, 20). -/
def hourWeight (t : Int) : Nat :=
  if t ≤ 250 then 125000000 / 60
  else if 950 ≤ t then 16000000000 / 60
  else rootBisect (10 ^ 900 * 2 ^ (t - 250).toNat / (60 ^ 100 * 2 ^ 300)) 30 0 300000000

/-- The buoy commits its counters to its own memory (R331). -/
def buoyCommit (b : Nat) (s : State) : State := sockMod b (fun k => { k with saved := lifeVals k }) s

/-! ### Mirrors (R331) -/

/-- Field j of mirror k (counter rings of the NVM). -/
def mirrorGet (s : State) (k j : Nat) : Nat := counterGet s (16 + 8 * k + j)

/-- The mirror that holds a serial number. -/
def mirrorOf (s : State) (serial : Nat) : Option Nat :=
  (List.range 8).find? fun k => mirrorGet s k 0 == serial && serial != 0

/-- The mirror with the oldest last presence. -/
def mirrorOldest (s : State) : Nat :=
  (List.range 8).foldl (fun b k => if mirrorGet s k 5 < mirrorGet s b 5 then k else b) 0

/-- Mirrors the counters of the buoy in socket b. -/
def mirrorWrite (b : Nat) (s : State) : State :=
  if buoyAuth s b then
    let k := sockOf s b
    let m := (mirrorOf s k.serial).getD (mirrorOldest s)
    let vals := [k.serial] ++ lifeVals k ++ [now s]
    (vals.zip (List.range 6)).foldl (fun s (v, j) =>
      if mirrorGet s m j = v then s else counterPut (16 + 8 * m + j) v 1 s) s
  else s

/-- Writes back the counters whose mirror is higher, and records them as a mask of counters (R331). -/
def mirrorRestore (b : Nat) (s : State) : State :=
  match mirrorOf s (sockOf s b).serial with
  | none => s
  | some m =>
    let v := lifeVals (sockOf s b)
    let hi (j : Nat) : Bool := decide (v.getD j 0 < mirrorGet s m (j + 1))
    let mask := maskN hi 4
    if mask = 0 then s
    else
      let s := sockMod b (fun k => { k with
        surge := if hi 0 then 1000 * mirrorGet s m 1 else k.surge
        clamp := if hi 1 then 1000 * mirrorGet s m 2 else k.clamp
        mate := if hi 2 then mirrorGet s m 3 else k.mate
        thoursN := if hi 3 then 100000000 * mirrorGet s m 4 else k.thoursN }) s
      let s := emit { kind := .buoyCnt, dest := b, args := lifeVals (sockOf s b) } s
      record 0x080C (sockSrc b) (items [mask]) s

/-! ### Authentication and settings (R328, R329, R336) -/

/-- A buoy is inserted: authentication begins (R328). -/
def opBuoyInserted (b : Nat) (s : State) : State :=
  if (sockOf s b).st = .empty ∧ b < 3 then
    record 0x0801 (sockSrc b) (items [b])
      (sockMod b (fun k => { k with st := .authenticating, attempts := 0, retryAt := none, authStep := 0 }) s)
  else s

/-- Authentication ends. `step` is the failed step or 0; `serial` is known from step 1 on; `cnt` holds the buoy's own
counters SURGE, CLAMP, MATE and THOURS in the units of BUY_ (R328). -/
def opBuoyAuthDone (b step typ rev serial : Nat) (cnt : List Nat) (s : State) : State :=
  if (sockOf s b).st = .authenticating ∧ b < 3 then
    let step := if (step = 0 ∨ step = 3) ∧ typ ≠ b + 1 then 2 else step
    if step = 0 then
      let s := sockMod b (fun k => { k with
        st := .configuring, typ := typ, rev := rev, serial := serial, authCnt := satInc k.authCnt, authStep := 0
        attempts := 0, retryAt := none, cfgTries := 0, maint := false, eol := false
        surge := 1000 * cnt.getD 0 0, clamp := if b = 1 then 1000 * cnt.getD 1 0 else 0
        mate := cnt.getD 2 0, thoursN := 100000000 * cnt.getD 3 0 }) s
      let s := record 0x0802 (sockSrc b) (items [typ] ++ item64 serial) s
      let s := lifeCheck b (buoyCommit b (mirrorRestore b s))
      emit { kind := .buoy, dest := b } s
    else
      let n := (sockOf s b).attempts + (if step = 5 then 0 else 1)
      let s := sockMod b (fun k => { k with
        st := .authFailed, authStep := step, attempts := n, authFailCnt := satInc k.authFailCnt
        retryAt := if 3 ≤ n then none else some (now s + 10000000000) }) s
      record 0x0803 (sockSrc b) (items [step, n] ++ (if step = 1 ∨ step = 4 ∧ serial = 0 then [] else item64 serial)) s
  else s

/-- 10 s after a failure the authentication is tried again (R328). -/
def opBuoyAuthRetry (b : Nat) (s : State) : State :=
  match (sockOf s b).st, (sockOf s b).retryAt with
  | .authFailed, some t => sockMod b (fun k => { k with st := .authenticating, retryAt := none }) (reach t s)
  | _, _ => s

/-- The buoy's field side is enabled (R329, R596). -/
def buoyEnable (b : Nat) (s : State) : State :=
  if b = 0 then diStart s else sockFollow b s

/-- The buoy echoes the CRC-32 of its settings; `want` is that of the settings pushed (R336). -/
def opBuoyCfgEcho (b : Nat) (want echo : Word) (s : State) : State :=
  if (sockOf s b).st = .configuring ∧ b < 3 then
    let s := sockMod b (fun k => { k with cfgCrc := echo }) s
    if echo = want then buoyEnable b (sockMod b (fun k => { k with st := .inService, cfgTries := 0 }) s)
    else if (sockOf s b).cfgTries < 2 then
      emit { kind := .buoy, dest := b } (sockMod b (fun k => { k with cfgTries := k.cfgTries + 1 }) s)
    else
      record 0x0805 (sockSrc b) (items [want.toNat, echo.toNat]) (sockMod b (fun k => { k with st := .cfgFailed }) s)
  else s

/-- Pushes the settings again at a cut-over that changes them (R336). -/
def buoyRepush (b : Nat) (s : State) : State :=
  if fieldOn s b then emit { kind := .buoy, dest := b } s else s

/-! ### Removal and exchange (R333 to R337) -/

/-- The sectors that own an output channel of the buoy. -/
def buoySectors (s : State) (b : Nat) : List Nat :=
  let offs := if b = 1 then List.range 4 else if b = 2 then (List.range 32).map fun i => 0x100 + i else []
  ((offs.filterMap (ownerOf s)).map fun k => (taskCfg s k).sector).eraseDups

/-- A buoy is removed (R331, R335). -/
def opBuoyRemoved (b : Nat) (s : State) : State :=
  if (sockOf s b).st = .empty ∨ 3 ≤ b then s
  else
    let s := mirrorWrite b s
    let k := sockOf s b
    let s := if b = 2 then hartDrop s else s
    let s := sockMod b (fun k => {
      exch := k.exch, oldSerial := if k.exch ∧ k.serial ≠ 0 then k.serial else k.oldSerial
      feedA := k.feedA, feedB := k.feedB, feedAOk := k.feedAOk, feedBOk := k.feedBOk
      authCnt := k.authCnt, authFailCnt := k.authFailCnt, surgeCnt := k.surgeCnt, exchEnd := k.exchEnd }) s
    let s := record 0x0804 (sockSrc b) (item64 k.serial ++ items [b2n k.exch]) s
    let s := sockFollow b s
    if k.exch then s else (buoySectors s b).foldl (fun s sec => sectorSafe sec 0x0804 s) s

/-- The socket enters EXCHANGE (R333, R334); `why` 0 MAINT, 1 partner carrying. -/
def buoyExchange (b ident why : Nat) (s : State) : State :=
  let s := if b = 2 then hartDrop s else s
  let s := sockMod b (fun k => { k with exch := true, oldSerial := k.serial }) s
  record 0x0809 (sockSrc b) (item128 ident ++ items [why]) (sockFollow b s)

/-- The socket leaves EXCHANGE (R337). -/
def opExchangeEnd (b : Nat) (s : State) : State :=
  let k := sockOf s b
  if k.exch ∧ k.st = .inService ∧ k.mated ∧ b < 3 then
    let s := reach (k.matedTs + 100000000) s
    let s := sockMod b (fun x => { x with exch := false, exchEnd := some (now s), oldSerial := 0 }) s
    let s := record 0x080A (sockSrc b) (item64 k.oldSerial ++ item64 k.serial) s
    let s := if b = 1 then (List.range 4).foldl (fun s g =>
        dgrpMod g (fun x => { x with waits := (ownerOf s g).isSome }) s) s
      else if b = 2 then (List.range 8).foldl (fun s n => loMod n (fun o => { o with live := false }) s) s
      else s
    sockFollow b s
  else s

/-- The field connector is mated or withdrawn (R337). -/
def opMateChange (b : Nat) (mated : Bool) (s : State) : State :=
  if (sockOf s b).mated = mated then s
  else sockMod b (fun k => { k with mated := mated, matedTs := now s }) s

/-! ### Feeds and supplies (R285, R321, R326) -/

/-- A field feed is lost; `fb` is feed B (R326). -/
def opFeedLost (b : Nat) (fb : Bool) (mv : Nat) (s : State) : State :=
  let k := sockOf s b
  if b < 3 ∧ mv < 15000 ∧ (if fb then k.feedBOk else k.feedAOk) then
    let s := sockMod b (fun k => if fb then { k with feedB := mv, feedBOk := false }
      else { k with feedA := mv, feedAOk := false }) s
    record 0x080B (sockSrc b) (items [b2n fb, mv]) s
  else s

/-- A field feed returns. -/
def opFeedReturned (b : Nat) (fb : Bool) (mv : Nat) (s : State) : State :=
  if 15000 ≤ mv then
    sockMod b (fun k => if fb then { k with feedB := mv, feedBOk := true } else { k with feedA := mv, feedAOk := true }) s
  else s

/-- The field supply of the DO or AIO buoy has been at `mv` for 1 ms: LOW and MISSING (R285, R321). -/
def opBuoySupply (b mv : Nat) (s : State) : State :=
  if b = 1 then
    latchUpdate { s with dio := { s.dio with
      supLow := decide (mv < 19200) || (s.dio.supLow && decide (mv < 19700))
      supMissing := decide (mv < 15000) || (s.dio.supMissing && decide (mv < 15500)) } }
  else if b = 2 then
    aoUpdate { s with loop := { s.loop with
      supMissing := decide (mv < 15000) || (s.loop.supMissing && decide (mv < 15500)) } }
  else s

/-- A surge event of `uj` µJ; one of 1 J or more is counted, committed and recorded (R330, R331). -/
def opBuoySurge (b uj : Nat) (ch : Option Nat) (s : State) : State :=
  if buoyAuth s b ∧ 100 < uj then
    let s := sockMod b (fun k => { k with surge := k.surge + uj }) s
    let s := if 1000000 ≤ uj then
        record 0x0808 (sockSrc b) (items (uj / 1000 :: ch.toList))
          (buoyCommit b (sockMod b (fun k => { k with surgeCnt := satInc k.surgeCnt }) s))
      else s
    lifeCheck b s
  else s

/-- The buoy adds a minute's weighted hours at its internal temperature in 0.1 °C (R330). -/
def opBuoyHours (b : Nat) (t : Int) (s : State) : State :=
  if buoyAuth s b then
    lifeCheck b (sockMod b (fun k => { k with temp := t, thoursN := k.thoursN + hourWeight t }) s)
  else s

/-! ### The meanings -/

/-- BUOY_INSERTED (R328). -/
def execBuoyInserted (b : Nat) (s : State) : Out := .next (opBuoyInserted b s)
/-- BUOY_AUTH_DONE (R328). -/
def execBuoyAuthDone (b step typ rev serial : Nat) (cnt : List Nat) (s : State) : Out :=
  .next (opBuoyAuthDone b step typ rev serial cnt s)
/-- BUOY_AUTH_RETRY (R328). -/
def execBuoyAuthRetry (b : Nat) (s : State) : Out := .next (opBuoyAuthRetry b s)
/-- BUOY_CFG_ECHO (R336). -/
def execBuoyCfgEcho (b : Nat) (want echo : Word) (s : State) : Out := .next (opBuoyCfgEcho b want echo s)
/-- BUOY_REMOVED (R335). -/
def execBuoyRemoved (b : Nat) (s : State) : Out := .next (opBuoyRemoved b s)
/-- BUOY_FEED_LOST (R326). -/
def execBuoyFeedLost (b : Nat) (fb : Bool) (mv : Nat) (s : State) : Out := .next (opFeedLost b fb mv s)
/-- BUOY_SURGE (R331). -/
def execBuoySurge (b uj : Nat) (ch : Option Nat) (s : State) : Out := .next (opBuoySurge b uj ch s)
/-- BUOY_THOURS_UPDATE (R330). -/
def execBuoyThoursUpdate (b : Nat) (t : Int) (s : State) : Out := .next (opBuoyHours b t s)
/-- BUOY_COUNTER_COMMIT (R331). -/
def execBuoyCounterCommit (b : Nat) (s : State) : Out := .next (if buoyAuth s b then buoyCommit b s else s)
/-- BUOY_MIRROR_UPDATE (R331). -/
def execBuoyMirrorUpdate (s : State) : Out := .next ((List.range 3).foldl (fun s b => mirrorWrite b s) s)
/-- BUOY_EXCHANGE_END (R337). -/
def execBuoyExchangeEnd (b : Nat) (s : State) : Out := .next (opExchangeEnd b s)
/-- BUOY_SUPPLY_MISSING (R285, R321). -/
def execBuoySupplyMissing (b mv : Nat) (s : State) : Out := .next (opBuoySupply b mv s)
/-- BUOY_SUPPLY_OK (R285). -/
def execBuoySupplyOk (b mv : Nat) (s : State) : Out := .next (opBuoySupply b mv s)
/-- BUOY_FEED_RETURNED (R326). -/
def execBuoyFeedReturned (b : Nat) (fb : Bool) (mv : Nat) (s : State) : Out := .next (opFeedReturned b fb mv s)
/-- FIELD_CONNECTOR_MATE_CHANGE (R337). -/
def execFieldConnectorMateChange (b : Nat) (mated : Bool) (s : State) : Out := .next (opMateChange b mated s)

end Sys2Proof.Machine
end

