-- ==== Sys2Proof/Machine/BeamTx.lean ====
section
/-!
DEFINITION. Beam transmission at a strobe (R377 to R380, R226, R227).
-/
namespace Sys2Proof.Machine

/-- A transmit connection. -/
def btxOf (s : State) (c : Nat) : BeamTx := tabGet {} s.beam.tx c

/-- Changes a transmit connection. -/
def btxMod (c : Nat) (f : BeamTx → BeamTx) (s : State) : State :=
  { s with beam := { s.beam with tx := tabMod {} s.beam.tx c f } }

/-- The transmit connections of the running image. -/
def btxCfgs (s : State) : List (Nat × BeamTxCfg) := match s.img with
  | none => []
  | some p => p.beamTx.filter fun x => x.2.en

/-- A BEAM entry (R564): direction 0 delivered, 1 put on the wire; with its counter (R569). -/
def traceBeam (dir src conn seq from_ : Nat) (pl : List Byte) (s : State) : State :=
  let s := ctrAdd (20 - dir) none none none 1 s
  if traceOn s 3 then
    traceCap { kind := 5, bit := some 3, source := from_, ts := now s
               words := [fldF dir 8, fldF src 16 ||| fldF conn 0, w32 seq] ++ beWords (pl.take 32) } s
  else s

/-- The entry of a frame sent: a task frame's payload lies behind 28 bytes of header and before SCRC. -/
def traceSent (e : Emit) (s : State) : State :=
  let a (n : Nat) : Nat := e.args.getD n 0
  match e.kind with
  | .beam => traceBeam 1 (a 3) (a 5) (a 0) 0x0290 ((e.data.take (e.data.length - 4)).drop 28) s
  | .diag => traceBeam 1 (a 3) (a 5) (a 0) 0x0290 e.data s
  | _ => traceBeam 1 s.id.node 0xFF00 (a 0) 0x0290 e.data s

/-- A Beam frame goes out on both ECN ports and is counted. -/
def beamWire (e : Emit) (s : State) : State :=
  if ecnUp s && !ethHeld s then
    traceSent e (ecnSend e { s with beam := { s.beam with txCnt := satInc s.beam.txCnt } })
  else s

/-- A class 3 frame: on the wire at once while an ECN port has link, else queued (R379; assumption log, entry 21). -/
def beamWire3 (k : Nat) (kind : EmitKind) (args : List Nat) (data : List Byte) (s : State) : State :=
  if ethHeld s then s
  else if ecnUp s then beamWire { kind := kind, dest := k, args := args, data := data } s
  else { s with beam := { s.beam with queued := s.beam.queued ++ [⟨k, now s, args, data⟩] } }

/-- A twin connection (R226). -/
def btxTwin (s : State) (c : BeamTxCfg) : Bool := c.twin && twinOn s

/-- The source node of a connection: TWIN_NODE for a twin connection (R226, R378). -/
def btxSrc (s : State) (c : BeamTxCfg) : Nat := if btxTwin s c then s.twin.cfg.twinNode else s.id.node

/-- The transmit epoch of a connection's source (R484). -/
def btxEpoch (s : State) (twin : Bool) : Nat := counterGet s (if twin then 8 else 7)

/-- The epoch of a source is exhausted (R485). -/
def epochOut (s : State) (twin : Bool) : Bool := if twin then s.sec.twinEpochOut else s.sec.nodeEpochOut

/-- The connection may send now: a node number, an epoch, no check fault for a vital one, a role that sends (R227, R372,
R377, R485). -/
def btxMay (s : State) (c : BeamTxCfg) : Bool :=
  s.id.node != 0 && !epochOut s (btxTwin s c) && !(s.beam.checkFault && (taskCfg s c.task).vital) &&
    s.mode.power != .saving && roleSends s

/-- The receive connections of the running image. -/
def brxCfgs (s : State) : List (Nat × BeamRxCfg) := match s.img with
  | none => []
  | some p => p.beamRx.filter fun x => x.2.en

/-- A receive connection. -/
def brxOf (s : State) (c : Nat) : BeamRx := tabGet {} s.beam.rx c

/-- Changes a receive connection. -/
def brxMod (c : Nat) (f : BeamRx → BeamRx) (s : State) : State :=
  { s with beam := { s.beam with rx := tabMod {} s.beam.rx c f } }

/-- A task declares a page that a receive area touches. -/
def areaReader (s : State) (c : BeamRxCfg) (k : Nat) : Bool :=
  (taskCfg s k).pages.any fun p => decide (256 * p < c.off + 16 + c.len) && decide (c.off < 256 * p + 256)

/-- A vital task reads the connection. -/
def brxVital (s : State) (c : BeamRxCfg) : Bool := (tasksUsed s).any fun k => (taskCfg s k).vital && areaReader s c k

/-- A receive connection becomes STALE (R384). -/
def brxStale (c : Nat) (f : BeamRxCfg) (s : State) : State :=
  let x := brxOf s c
  if x.stale then s
  else record 0x0A10 0x0290 (items [f.node, f.conn] ++ item64 x.lastTs)
    (brxMod c (fun x => { x with stale := true, staleTs := now s }) s)

/-- The two safety channels disagree on a frame (R376): it is discarded and CHECK_FAULT is set; direction 0 received,
1 sent. Every vital receive connection becomes STALE. -/
def beamCheckFault (dir src conn port : Nat) (s : State) : State :=
  let s := record 0x0A18 (netSrc port) (items [dir, src, conn]) { s with beam := { s.beam with checkFault := true } }
  (brxCfgs s).foldl (fun s (j, c) => if brxVital s c then brxStale j c s else s) s

/-- The header flags of a frame sent now (R378). -/
def beamFlags (s : State) (safe twin : Bool) : Nat :=
  b2n safe + 2 * b2n (!s.fab.forces.isEmpty) + 4 * b2n twin + 8 * b2n (!timeQualified s)

/-- Sends one due frame of connection `k` of the image; `safe` sets SAFE with the safe payload (R378, R380). -/
def beamSend (k : Nat) (c : BeamTxCfg) (safe : Bool) (data : List Byte) (s : State) : State :=
  let x := btxOf s k
  let seq := (x.seqBase + (taskOf s c.task).cycle / max 1 c.divi) % 2 ^ 32
  let f : BeamFrame :=
    { flags := beamFlags s safe (btxTwin s c), src := btxSrc s c, dst := c.dest.toNat, conn := c.conn
      epoch := btxEpoch s (btxTwin s c), seq := seq, ts := now s, len := data.length, data := data }
  let args := [seq, now s, f.flags, f.src, f.dst, c.conn, f.epoch]
  let s := btxMod k (fun x => { x with lastSeq := seq }) s
  if (taskCfg s c.task).vital then beamWire { kind := .beam, dest := k, args := args, data := beamBytes c.safety f } s
  else beamWire3 k .beam args (beamBytes c.safety f) s

/-- The connections a restart of task k opens (R378). -/
def beamOpen (k : Nat) (s : State) : State :=
  (btxCfgs s).foldl (fun s (j, c) =>
    if c.task = k then btxMod j (fun x => { x with state := 1, opening := true, safeLeft := 0 }) s else s) s

/-- The frames of task k's strobe, after forcing; none in a cycle that adopts the partner's commands (R227, R378). `bad`
names connections on whose frame the two safety channels disagree (R376). -/
def beamStrobe (k : Nat) (m : Tab Byte) (adopt : Bool) (bad : List Nat) (s : State) : State :=
  (btxCfgs s).foldl (fun s (j, c) =>
    if c.task = k ∧ (btxOf s j).state = 1 then
      let s := if (btxOf s j).opening then
          btxMod j (fun x => { x with opening := false, seqBase := now s / 1000000 % 2 ^ 32 }) s else s
      if (taskOf s k).cycle % max 1 c.divi = 0 ∧ !adopt ∧ btxMay s c then
        if bad.contains j then beamCheckFault 1 (btxSrc s c) c.conn 0 s else beamSend j c false (bytesAt m c.off c.len) s
      else s
    else s) s

/-- A safe connection of task k has a due frame at a grid instant that the engine keeps counting: up to 3 SAFE frames,
then silence (R380). -/
def beamSafeDue (k : Nat) (s : State) : State :=
  (btxCfgs s).foldl (fun s (j, c) =>
    if c.task = k ∧ (btxOf s j).state = 2 ∧ (taskOf s k).cycle % max 1 c.divi = 0 then
      let s := if btxMay s c then beamSend j c true ((c.safe ++ List.replicate c.len 0).take c.len) s else s
      btxMod j (fun x => { x with safeLeft := x.safeLeft - 1, state := if x.safeLeft ≤ 1 then 3 else 2 }) s
    else s) s

/-- A connection of task k still has SAFE frames to send. -/
def beamSafeLeft (s : State) (k : Nat) : Bool := (btxCfgs s).any fun (j, c) => c.task == k && (btxOf s j).state == 2

end Sys2Proof.Machine
end

