-- ==== Sys2Proof/Machine/LampCore.lean ====
section
/-!
DEFINITION. A lamp and its accesses: registers, traps (R114, R115), memory errors (R116 to R118), D-space (R100,
R106), the store buffer and the read set of speculative work (R81, R82).
-/
namespace Sys2Proof.Machine

/-! ### The lamp -/

/-- A lamp. -/
def lampOf (s : State) (i : Nat) : Lamp := tabGet {} s.fab.lamps i

/-- Changes a lamp. -/
def lampMod (i : Nat) (f : Lamp → Lamp) (s : State) : State :=
  { s with fab := { s.fab with lamps := tabMod {} s.fab.lamps i f } }

/-- Gallery, physical range and lamp of a lamp number. -/
def lampGal (i : Nat) : Nat := i / 32
/-- Physical range of a lamp number. -/
def lampRange (i : Nat) : Nat := i / 2 % 16
/-- Which lamp of its range. -/
def lampSide (i : Nat) : Nat := i % 2

/-- A range. -/
def rangeOf (s : State) (g r : Nat) : Range := tabGet {} (galOf s g).ranges r

/-- Changes a range. -/
def rangeMod (g r : Nat) (f : Range → Range) (s : State) : State :=
  galMod g (fun x => { x with ranges := tabMod {} x.ranges r f }) s

/-- The lamp's range runs as two engines (R106). -/
def lampSplit (s : State) (i : Nat) : Bool := (rangeOf s (lampGal i) (lampRange i)).split

/-- Source number of a physical range (R391). -/
def rangeSrc (g r : Nat) : Nat := 0x0100 + 16 * g + r

/-- A register; g0 reads 0 (R131). -/
def regGet (l : Lamp) (r : Reg) : Word := if r = 0 then 0 else l.regs[r.toNat]

/-- Writes a register; writes to g0 are discarded (R131). -/
def regSet (l : Lamp) (r : Reg) (v : Word) : Lamp :=
  if r = 0 then l else { l with regs := l.regs.set r.toNat v }

/-- The rung group a lamp runs, from its task's chart. -/
def lampGroup (s : State) (i : Nat) : GroupCfg :=
  let l := lampOf s i
  (taskChart s l.task).getD l.group ⟨0, 0, 0, 0, [], [], 0⟩

/-- A counted event of a lamp's work (R569). -/
def lampCtr (i ev n : Nat) (s : State) : State :=
  ctrAdd ev (some (lampOf s i).task) (some (lampGal i)) (some (lampRange i)) n s

/-- Why an instruction does not complete: a trap with its data address, or a stop for validation (R81 to R84). -/
inductive LampStop where
  | trap (c : TrapCause) (addr : Nat)
  /-- `full`: 1 a full store buffer stops it, 2 a full read set, 0 neither. -/
  | stop (full : Nat)
  deriving DecidableEq, Repr

/-- The outcome of a part of an instruction. -/
abbrev Acc (α : Type) := Except LampStop α

/-! ### Traps (R114, R115, R77) -/

/-- Trap code (R114). -/
def trapCode : TrapCause → Nat
  | .illegalOp => 0x01
  | .fetchFault => 0x02
  | .misaligned => 0x03
  | .dUnmapped => 0x04
  | .ioAccess => 0x05
  | .imagePage => 0x06
  | .chart _ _ _ _ => 0x07
  | .bitStack => 0x08
  | .divZero => 0x09
  | .ecc _ _ => 0x0A
  | .legacyDenied => 0x0B
  | .legacyBcd => 0x0C
  | .localDenied => 0x0D
  | .user _ => 0x0E

/-- The cause names a data address (R115). -/
def trapData : TrapCause → Bool
  | .misaligned | .dUnmapped | .ioAccess | .imagePage | .chart _ _ _ _ | .ecc _ _ | .legacyDenied | .legacyBcd
  | .localDenied => true
  | _ => false

/-- A CHART_VIOLATION is stored in FAB_n_VIOL and recorded (R77). -/
def chartViolation (i : Nat) (t : Trap) (s : State) : State :=
  match t.cause with
  | .chart cause slot seen req =>
    let l := lampOf s i
    let g := lampGal i
    let s := galMod g (fun x => { x with viol :=
      { valid := true, cause := cause, task := l.task, range := lampRange i, slot := slot, seen := seen
        required := req, group := l.group, addr := if cause = 6 then t.addr else 0 } }) s
    record 0x0201 (rangeSrc g (lampRange i)) (items [l.task, lampRange i, cause, if cause = 6 then t.addr else slot,
      seen, req, l.group, (taskOf s l.task).cycle]) s
  | _ => s

/-- An uncorrectable error of memory `mem` at byte `off` is counted and recorded (R115, R117). -/
def eccUncorr (g mem off range src : Nat) (s : State) : State :=
  let s := if mem ≤ 3 then
      galMod g (fun x => { x with eccUncorr := satInc x.eccUncorr, eccAddr := fldF mem 28 ||| fldF (off % 2 ^ 28) 0 }) s
    else s
  record 0x0209 src (items [mem, off, range]) s

/-- A trap ends the task's cycle as a program fault (R52, R53, R115). On a shadow it ends the proof. -/
def trapTake (i : Nat) (t : Trap) (s : State) : State :=
  let l := lampOf s i
  let src := rangeSrc (lampGal i) (lampRange i)
  let cfg := taskCfg s l.task
  let user := match t.cause with
    | .user c => [c]
    | _ => []
  let s := record 0x0109 src (items ([l.task, lampRange i, trapCode t.cause, t.pc] ++
    (if trapData t.cause then [t.addr] else []) ++ user)) s
  let s := chartViolation i t s
  let s := match t.cause with
    | .ecc mem off => eccUncorr (lampGal i) mem off (lampRange i) src s
    | _ => s
  if s.fab.isShadow then
    let s := lampMod i (fun l => { l with mode := .idle }) s
    { s with fab := { s.fab with shTrap := some (trapCode t.cause, l.task, (taskOf s l.task).cycle) } }
  else if cfg.vital then sectorSafe cfg.sector 0x0109 s
  else taskStop l.task s

/-- Changes the speculative group a lamp runs: the last of its list. -/
def specMod (f : SpecGroup → SpecGroup) (l : Lamp) : Lamp :=
  match l.specs.reverse with
  | [] => l
  | g :: gs => { l with specs := (f g :: gs).reverse }

/-- A trap condition: held in speculative work, else taken (R84, R114). -/
def raiseTrap (i : Nat) (c : TrapCause) (addr : Nat) (s : State) : State :=
  let l := lampOf s i
  let t : Trap := { cause := c, pc := l.pc, addr := addr }
  if l.spec then lampMod i (fun l => { specMod (fun g => { g with trap := some t }) l with mode := .specWait }) s
  else trapTake i t s

/-! ### Memory errors -/

/-- Key of the word at byte `off` of memory `mem` of a unit: the gallery for memories 1 to 3, else 0. In memory 5 the
views lie 64 KiB apart in task order, and the output image behind them. -/
def eccKey (mem unit off : Nat) : Nat := mem * 2 ^ 40 + unit * 2 ^ 32 + off / 4

/-- A single-bit error met by a lamp is corrected, counted and recorded (R116). -/
def eccCorrect (i mem off : Nat) (s : State) : State :=
  let g := lampGal i
  let w := fldF mem 28 ||| fldF (off % 2 ^ 28) 0
  let s := lampMod i (fun l => { l with eccCnt := satInc l.eccCnt, eccAddr := w }) s
  let s := if mem ≤ 3 then galMod g (fun x => { x with eccCorr := satInc x.eccCorr, eccAddr := w }) s else s
  record 0x0208 (rangeSrc g (lampRange i)) (items [mem, off]) s

/-- The error a word carries: one known to be uncorrectable, or the one met now. -/
def eccSeen (s : State) (k : Nat) (met : EccMark) : EccMark :=
  if tabGet EccMark.ok s.fab.ecc k = .double then .double else met

/-- A read of a word: corrected, or a trap (R116, R118). -/
def eccRead (i mem unit off : Nat) (met : EccMark) (s : State) : Acc State :=
  match eccSeen s (eccKey mem unit off) met with
  | .ok => .ok s
  | .single => .ok (eccCorrect i mem off s)
  | .double => .error (.trap (.ecc mem off) off)

/-- A store into a word: a part of an uncorrectable word traps, a whole word replaces it (R118). -/
def eccStore (i mem unit off : Nat) (whole : Bool) (met : EccMark) (s : State) : Acc State :=
  if whole then .ok { s with fab := { s.fab with ecc := tabPut .ok s.fab.ecc (eccKey mem unit off) .ok } }
  else eccRead i mem unit off met s

/-- The mark an access leaves on its word: an uncorrectable word stays so until it is replaced. -/
def eccLeave (mem unit off : Nat) (met : EccMark) (s : State) : State :=
  if met = .double then
    { s with fab := { s.fab with ecc := tabPut .ok s.fab.ecc (eccKey mem unit off) .double } }
  else s

/-! ### D-space (R98 to R101, R106) -/

/-- A place in D-space: memory code, unit and byte offset in that memory. -/
structure DPlace where
  mem  : Nat
  unit : Nat
  off  : Nat
  deriving DecidableEq, Repr

/-- Where a D-space address lies, for a lamp. -/
def dPlace (s : State) (i a : Nat) : Option DPlace :=
  let g := lampGal i
  if a < 0x8000 then
    if lampSplit s i then
      if a < 0x4000 then some ⟨3, g, 0x8000 * lampRange i + 0x4000 * lampSide i + a⟩ else none
    else some ⟨3, g, 0x8000 * lampRange i + a⟩
  else if 0x100000 ≤ a ∧ a < 0x180000 then some ⟨2, g, a - 0x100000⟩
  else if 0x1000000 ≤ a ∧ a < 0x1800000 then some ⟨4, 0, a - 0x1000000⟩
  else none

/-- Page key of a place in gallery data or global memory (R67). -/
def dPage (p : DPlace) : Nat := if p.mem = 2 then 2048 * p.unit + p.off / 256 else 65536 + p.off / 256

/-- The use the program image gives a page. -/
def pageUse (s : State) (k : Nat) : PageUse :=
  match s.img with
  | none => .unassigned
  | some p => tabGet .unassigned p.pages k

/-- The access of task k to a page is allowed (R67). -/
def pageOk (u : PageUse) (k : Nat) (write : Bool) : Bool :=
  match u with
  | .unassigned => false
  | .task j => j == k
  | .exchange o => !write || o == k

/-- Checks a D-space access: D_UNMAPPED, then CHART_VIOLATION cause 6 (R67, R100). -/
def dCheck (s : State) (i a : Nat) (write : Bool) : Acc DPlace :=
  match dPlace s i a with
  | none => .error (.trap .dUnmapped a)
  | some p =>
    if p.mem = 3 ∨ pageOk (pageUse s (dPage p)) (lampOf s i).task write then .ok p
    else .error (.trap (.chart 6 0 0 0) a)

/-- The page is an exchange page of another task. -/
def foreignExchange (s : State) (i : Nat) (p : DPlace) : Bool :=
  p.mem ≠ 3 && match pageUse s (dPage p) with
    | .exchange o => o ≠ (lampOf s i).task
    | _ => false

/-- Byte key of a place in the committed exchange pages. -/
def exKey (p : DPlace) : Nat := 256 * dPage p + p.off % 256

/-- The memory behind a place. -/
def dMem (s : State) (p : DPlace) : Tab Byte :=
  if p.mem = 2 then (galOf s p.unit).data else if p.mem = 3 then (galOf s p.unit).scratch else s.fab.gmem

/-- The word at a place, aligned; another task's exchange page reads as committed (R69, R80). -/
def dWord (s : State) (i : Nat) (p : DPlace) : Word :=
  let l := lampOf s i
  if foreignExchange s i p then wordAt (if l.spec then s.fab.exPub else (taskOf s l.task).exSnap) (exKey p)
  else wordAt (dMem s p) p.off

/-- Writes the masked bits of a word at a place. -/
def dWordPut (p : DPlace) (v m : Word) (s : State) : State :=
  let w := (wordAt (dMem s p) p.off &&& ~~~m) ||| (v &&& m)
  if p.mem = 2 then galMod p.unit (fun x => { x with data := wordPut x.data p.off w }) s
  else if p.mem = 3 then galMod p.unit (fun x => { x with scratch := wordPut x.scratch p.off w }) s
  else { s with fab := { s.fab with gmem := wordPut s.fab.gmem p.off w } }

/-! ### The store buffer and the read set (R81, R82) -/

/-- The lamp's own buffered bits over a word. -/
def overlay (l : Lamp) (sp : StoreSpace) (a : Nat) (w : Word) : Word :=
  (l.drain ++ l.specs.flatMap SpecGroup.stores).foldl (fun w e =>
    if e.space = sp ∧ e.addr = a then (w &&& ~~~e.mask) ||| (e.value &&& e.mask) else w) w

/-- Adds a store to a list, merging stores to one word (R82). -/
def mergeStore (e : BufStore) : List BufStore → List BufStore
  | [] => [e]
  | x :: xs =>
    if x.space = e.space ∧ x.addr = e.addr then
      { x with value := (x.value &&& ~~~e.mask) ||| (e.value &&& e.mask), mask := x.mask ||| e.mask } :: xs
    else x :: mergeStore e xs

/-- Entries of the lamp's store buffer. -/
def bufUsed (l : Lamp) : Nat := l.drain.length + (l.specs.map fun g => g.stores.length).foldl (· + ·) 0

/-- The group a lamp runs speculatively. -/
def specCur (l : Lamp) : SpecGroup := (l.specs.getLast?).getD ⟨0, 0, 0, [], [], [], [], [], none, false, 0, 0, 0⟩

/-- A stop on a full store buffer (1) or read set (2) is counted. -/
def raFull (i full : Nat) (s : State) : State :=
  if full = 0 then s
  else lampCtr i (12 + full) 1 (galMod (lampGal i) (fun x => { x with raFull := satInc x.raFull }) s)

/-- A speculative store enters the buffer, or the lamp stops before it (R82). -/
def specStore (i : Nat) (e : BufStore) (s : State) : Acc State :=
  let l := lampOf s i
  let g := specCur l
  let there := g.stores.any fun x => x.space == e.space && x.addr == e.addr
  if there || bufUsed l < (if lampSplit s i then 32 else 64) then
    .ok (lampMod i (specMod fun g => { g with stores := mergeStore e g.stores }) s)
  else .error (.stop 1)

/-- A read of speculative work extends the read set, or the lamp stops before it (R81). -/
def readSet (i : Nat) (sp : ReadSpace) (a : Nat) (mask value : Word) (s : State) : Acc State :=
  let l := lampOf s i
  if !l.spec then .ok s
  else
    let g := specCur l
    if g.reads.any fun r => r.space == sp && r.addr == a then
      .ok (lampMod i (specMod fun g => { g with reads := g.reads.map fun r =>
        if r.space = sp ∧ r.addr = a then { r with mask := r.mask ||| mask } else r }) s)
    else if g.reads.length < 32 then
      .ok (lampMod i (specMod fun g => { g with reads := g.reads ++ [⟨sp, a, mask, value⟩] }) s)
    else .error (.stop 2)

/-- The mask of an access of `n` bytes at address `a` within its word. -/
def byteMask (a n : Nat) : Word := w32 ((2 ^ (8 * n) - 1) * 2 ^ (8 * (a % 4)))

/-- A store at its memory is visible `d` fc after it begins (R137). -/
def visible (i d : Nat) (s : State) : State := lampMod i (fun l => { l with visAt := max l.visAt (l.fc + d) }) s

/-- The interconnect wait of an access, at most 16 fc (R32). -/
def waitOf (o : LampOp) : Nat := min o.wait 16

/-! ### Loads and stores of D-space (R104, R136) -/

/-- The address rs1 + sext(imm), modulo 2^32. -/
def sumAddr (l : Lamp) (rs1 : Reg) (imm : BitVec 16) : Nat := (regGet l rs1 + imm.signExtend 32).toNat

/-- An access of `n` bytes at `a` is naturally aligned, or MISALIGNED. -/
def alignCheck (a n : Nat) : Acc Unit := if a % n = 0 then .ok () else .error (.trap .misaligned a)

/-- Loads `n` bytes, zero-extended: the value, the cost and the state. -/
def dLoad (o : LampOp) (a n : Nat) (s : State) : Acc (Word × Nat × State) := do
  let i := o.lamp
  alignCheck a n
  let p ← dCheck s i a false
  let p4 : DPlace := { p with off := p.off / 4 * 4 }
  let a4 := a / 4 * 4
  let w := overlay (lampOf s i) .dspace a4 (dWord s i p4)
  let s ← if foreignExchange s i p then readSet i .exchange (exKey p4) (byteMask a n) w s else .ok s
  let s ← eccRead i p.mem p.unit p4.off o.dataErr s
  let s := lampCtr i 8 1 (if p.mem = 4 then lampCtr i 7 (waitOf o) s else s)
  .ok ((w >>> (8 * (a % 4))) &&& w32 (2 ^ (8 * n) - 1), 2 + (if p.mem = 4 then waitOf o else 0), s)

/-- A checked store of masked bits of one D-space word. -/
def dPut (o : LampOp) (p : DPlace) (a4 : Nat) (v m : Word) (s : State) : Acc State :=
  let i := o.lamp
  let l := lampOf s i
  let e : BufStore := { space := .dspace, addr := a4, value := v &&& m, mask := m, task := l.task }
  if l.spec then specStore i e s
  else if l.drain ≠ [] then .ok (lampMod i (fun l => { l with drain := l.drain ++ [e] }) s)
  else .ok (visible i (if p.mem = 4 then 3 + waitOf o else 1) (dWordPut p v m s))

/-- Stores the low `n` bytes of `v`: the cost and the state. -/
def dStore (o : LampOp) (a n : Nat) (v : Word) (s : State) : Acc (Nat × State) := do
  let i := o.lamp
  alignCheck a n
  let p ← dCheck s i a true
  let p4 : DPlace := { p with off := p.off / 4 * 4 }
  let s ← eccStore i p.mem p.unit p4.off (n == 4) o.dataErr s
  let s ← dPut o p4 (a / 4 * 4) (v <<< (8 * (a % 4))) (byteMask a n) s
  let s := lampCtr i 9 1 (if p.mem = 4 then lampCtr i 7 (waitOf o) s else s)
  .ok (1 + (if p.mem = 4 then waitOf o else 0), s)

/-! ### Running an instruction (R130) -/

/-- An instruction of non-speculative work is counted as it executes (R570). -/
def lampCount (i : Nat) (s : State) : State := if (lampOf s i).spec then s else lampCtr i 2 1 s

/-- The instruction completes: its cost passes and the next one follows. -/
def lampNext (i cost : Nat) (s : State) : State :=
  lampMod i (fun l => { l with pc := l.pc + 4, fc := l.fc + cost, instrs := l.instrs + 1 }) (lampCount i s)

/-- The instruction completes with a jump. -/
def lampJump (i cost target : Nat) (s : State) : State :=
  lampMod i (fun l => { l with pc := target, fc := l.fc + cost, instrs := l.instrs + 1 }) (lampCount i s)

/-- Runs an instruction of a lamp: FETCH_FAULT, a fetch error, ILLEGAL_OP, then its own effect `f`, whose state is
taken only when it completes (R99, R114, R127). A lamp that executes nothing is not moved. -/
def lampRun (o : LampOp) (legal : Bool) (f : State → Acc State) (s : State) : State :=
  let i := o.lamp
  let l := lampOf s i
  if l.mode ≠ .exec then s
  else if 0x200000 ≤ l.pc ∨ l.pc % 4 ≠ 0 then raiseTrap i .fetchFault 0 s
  else
    match eccRead i 1 (lampGal i) l.pc o.fetchErr s with
    | .error _ => raiseTrap i (.ecc 1 l.pc) l.pc (eccLeave 1 (lampGal i) l.pc .double s)
    | .ok s =>
      if !legal || o.z != 0 then raiseTrap i .illegalOp 0 s
      else match f s with
        | .ok s => s
        | .error (.stop full) =>
          let s := lampMod i (fun l => { l with mode := .specWait }) s
          raFull i full s
        | .error (.trap (.ecc mem off) a) =>
          raiseTrap i (.ecc mem off) a (eccLeave mem (if mem ≤ 3 then lampGal i else 0) off o.dataErr s)
        | .error (.trap c a) => raiseTrap i c a s

/-- The lamp runs shadow work of a proof run: its range is lent, or its gallery hosts the shadow (R249). -/
def isShadowLamp (s : State) (i : Nat) : Bool :=
  s.edit.shadow.isSome &&
    ((rangeOf s (lampGal i) (lampRange i)).st == .lent || (galOf s (lampGal i)).sstate == .shadow)

/-- Runs `f` on the shadow's copies; what it records and sends is discarded, and a trap fails the proof (R249, R253,
R254). -/
def onShadow (f : State → State) (s : State) : State :=
  match s.edit.shadow, s.edit.delta with
  | some sf, some d =>
    let img := match shadowPlace s with
      | some p => { d.image with chart := p.chart }
      | none => d.image
    let r := f { s with fab := { sf with isShadow := true, shTrap := none }, img := some img }
    let s := { s with edit := { s.edit with shadow := some { r.fab with isShadow := false, shTrap := none } }, free := r.free }
    match r.fab.shTrap with
    | some (_, k, c) => proofFail 3 k c 0 0 s
    | none => s
  | _, _ => s

/-- Runs `f` on the copies the lamp works on. -/
def lampWorld (i : Nat) (f : State → State) (s : State) : State := if isShadowLamp s i then onShadow f s else f s

/-- Runs an instruction of a lamp, live or shadow. -/
def lampExec (o : LampOp) (legal : Bool) (f : State → Acc State) (s : State) : State :=
  lampWorld o.lamp (lampRun o legal f) s

/-- Writes a result and goes on. -/
def lampWrite (i cost : Nat) (rd : Reg) (v : Word) (s : State) : State :=
  lampNext i cost (lampMod i (fun l => regSet l rd v) s)

end Sys2Proof.Machine
end

