-- ==== Sys2Proof/Machine/LampIo.lean ====
section
/-!
DEFINITION. IO-space as a lamp reaches it: input view, output image, timer/counter blocks, range control and the
legacy window (R102 to R110, R119 to R126), with signal slots (R70 to R73, R594).
-/
namespace Sys2Proof.Machine

/-! ### Signal slots -/

/-- The image's declaration of a slot. -/
def slotCfg (s : State) (n : Nat) : Option SlotCfg := s.img.bind fun p => p.slots.find? fun c => c.slot == n

/-- A slot. -/
def slotOf (s : State) (n : Nat) : Slot := tabGet {} s.fab.slots n

/-- Changes a slot. -/
def slotMod (n : Nat) (f : Slot → Slot) (s : State) : State :=
  { s with fab := { s.fab with slots := tabMod {} s.fab.slots n f } }

/-- Version a precedes version b (R70). -/
def verPrec (ae ao be bo : Nat) : Bool := (ae == be && decide (ao < bo)) || ae == (be + 255) % 256

/-- VER as one number. -/
def verNum (e o : Nat) : Nat := 256 * e + o

/-- The version a declared read requires in cycle c. -/
def reqVer (c : Nat) (r : SlotRead) : Nat × Nat := (if r.prev then (c + 255) % 256 else c % 256, r.ord)

/-- The version before publish `ord` of cycle c, for a slot published `w` times a cycle. -/
def predVer (c w ord : Nat) : Nat × Nat := if 1 < ord then (c % 256, ord - 1) else ((c + 255) % 256, w)

/-- Groups of a chart that require publish `k` of a slot, by a read before the publishes or behind one. -/
def readersOf (ch : List GroupCfg) (slot k : Nat) (prev : Bool) : Nat :=
  (ch.filter fun g => g.reads.any fun r => r.slot == slot && r.ord == k && r.prev == prev).length

/-- QUOTA of version k of a slot with `w` publishes a cycle (R70). -/
def chartQuota (ch : List GroupCfg) (slot w k : Nat) : Nat :=
  readersOf ch slot k false + (if k = w then readersOf ch slot k true else 0)

/-- The outcome of a slot access. -/
inductive SlotRes where
  | val (v : Word) (s : State)
  | wait (s : State)
  | trap (c : TrapCause)

/-- A group that reads a provisional slot becomes speculative (R83). -/
def becomeSpec (i slot ver depth : Nat) (s : State) : State :=
  lampMod i (fun l =>
    let l := if l.spec then l else
      { l with spec := true, specs := l.specs ++ [⟨l.task, l.group, l.cycle, [], [], [], [], [], none, false, l.instrs, l.fc, l.instrs⟩] }
    { specMod (fun g => { g with used := g.used ++ [(slot, ver)] }) l with depth := max l.depth depth }) s

/-- slot_read of R71, with the provisional rule of R83 and the group's own publish of R594. -/
def slotRead (i n : Nat) (s : State) : SlotRes :=
  let l := lampOf s i
  let sl := slotOf s n
  match (lampGroup s i).reads.find? (fun r => r.slot == n), slotCfg s n with
  | some r, some c =>
    if c.owner ≠ l.task then .trap (.chart 1 n (verNum sl.epoch sl.ord) 0)
    else match l.pubSlots.find? (fun p => p.1 == n) with
      | some p => .val p.2 s
      | none =>
        let (e, o) := reqVer l.cycle r
        if verPrec sl.epoch sl.ord e o then .wait s
        else if sl.epoch ≠ e ∨ sl.ord ≠ o then .trap (.chart 2 n (verNum sl.epoch sl.ord) (verNum e o))
        else if l.readSlots.contains n then .val sl.value s
        else if sl.prov ∧ !(r.consumer && !sl.token && decide (sl.depth < 4)) then .wait s
        else
          let s := if sl.prov then becomeSpec i n (verNum e o) sl.depth s else s
          let s := slotMod n (fun x => { x with quota := x.quota - 1 }) s
          .val sl.value (lampMod i (fun l =>
            let l := { l with readSlots := l.readSlots ++ [n] }
            if l.spec then specMod (fun g => { g with quotas := g.quotas ++ [n] }) l else l) s)
  | _, _ => .trap (.chart 1 n (verNum sl.epoch sl.ord) 0)

/-- The lamp's earlier stores are visible (R137, R156). -/
def storesVisible (l : Lamp) : Bool := l.spec || (decide (l.visAt ≤ l.fc) && l.drain.isEmpty)

/-- slot_publish of R72 with R594; in speculative work the version is provisional and its store waits in the
buffer (R83, R156). `now_` says that the visibility wait has passed. -/
def slotPub (i n : Nat) (v : Word) (now_ : Bool) (s : State) : SlotRes :=
  let l := lampOf s i
  let sl := slotOf s n
  match (lampGroup s i).pubs.find? (fun p => p.slot == n), slotCfg s n with
  | some p, some c =>
    if c.owner ≠ l.task ∨ l.pubSlots.any (fun p => p.1 == n) then .trap (.chart 3 n (verNum sl.epoch sl.ord) 0)
    else
      let (e, o) := predVer l.cycle c.width p.ord
      if verPrec sl.epoch sl.ord e o then .wait s
      else if sl.epoch ≠ e ∨ sl.ord ≠ o then .trap (.chart 4 n (verNum sl.epoch sl.ord) (verNum e o))
      else
        let own := (lampGroup s i).reads.any (fun r => r.slot == n) && !l.readSlots.contains n
        let s := if own then
            lampMod i (fun l =>
              let l := { l with readSlots := l.readSlots ++ [n] }
              if l.spec then specMod (fun g => { g with quotas := g.quotas ++ [n] }) l else l)
              (slotMod n (fun x => { x with quota := x.quota - 1 }) s)
          else s
        if 0 < (slotOf s n).quota ∨ !(storesVisible l || (now_ && l.drain.isEmpty)) then .wait s
        else
          let old := slotOf s n
          let new : Slot := { old with
            value := v, epoch := l.cycle % 256, ord := p.ord
            quota := chartQuota (taskChart s l.task) n c.width p.ord
            prov := l.spec, depth := if l.spec then l.depth + 1 else 0 }
          let s := slotMod n (fun _ => new) s
          .val v (lampMod i (fun l =>
            let l := { l with pubSlots := l.pubSlots ++ [(n, v)] }
            if l.spec then specMod (fun g => { g with pubs := g.pubs ++ [⟨n, old⟩] }) l else l) s)
  | _, _ => .trap (.chart 3 n (verNum sl.epoch sl.ord) 0)

/-! ### Input view (R33, R35, R36, R80) -/

/-- The predicted start of the next cycle: the next grid instant (R80). -/
def predStart (s : State) (k : Nat) : Nat :=
  let t := taskOf s k
  if t.phase = .agree then t.sched else gridAt (taskCfg s k) (t.sched + 1)

/-- The predicted status block of the next cycle, by word (R80). -/
def specStatus (s : State) (k j : Nat) : Word :=
  let t := taskOf s k
  let next := predStart s k
  match j with
  | 0 => w32 (if t.phase = .agree then t.cycle else t.cycle + 1)
  | 1 => w32 next
  | 2 => w32 (next / 2 ^ 32)
  | 4 => w32 t.overrunCnt
  | 5 => w32 t.skipCnt
  | 6 => w32 t.lostCnt
  | 7 => bitF (!s.fab.forces.isEmpty) 6
  | _ => 0

/-- A speculative group of a cycle whose view is not complete: it sees the predicted view. -/
def predicted (s : State) (l : Lamp) : Bool :=
  l.spec && (l.cycle ≠ (taskOf s l.task).cycle || (taskOf s l.task).phase == .agree)

/-- A word of the view as the lamp sees it. -/
def viewWord (s : State) (i a : Nat) : Word :=
  let l := lampOf s i
  if predicted s l ∧ a / 32 = (0x400 + 32 * l.task) / 32 then specStatus s l.task (a % 32 / 4)
  else if 0x700 ≤ a ∧ a < 0x1000 then 0
  else wordAt (taskOf s l.task).view a

/-- The page of an input address is declared, or exempt (R36). -/
def viewOk (s : State) (k a : Nat) : Bool :=
  let p := a / 256
  (decide (4 ≤ p) && decide (p < 16)) || (taskCfg s k).pages.contains p

/-- Offset of an input-view word among memory 5. -/
def eccView (k a : Nat) : Nat := 0x10000 * k + a / 4 * 4
/-- Offset of an output-image word among memory 5. -/
def eccOut (a : Nat) : Nat := 0x100000 + a / 4 * 4

/-- Reads the word of the view that holds `n` bytes at `a`. -/
def viewRead (o : LampOp) (a n : Nat) (mask : Word) (s : State) : Acc (Word × State) := do
  let i := o.lamp
  let k := (lampOf s i).task
  if !viewOk s k a then throw (.trap .imagePage a)
  let w := viewWord s i (a / 4 * 4)
  let s ← readSet i .view (a / 4 * 4) (if n = 0 then mask else byteMask a n) w s
  let s ← eccRead i 5 0 (eccView k a) o.dataErr s
  .ok (w, s)

/-! ### Output image (R34, R37, R38) -/

/-- One byte of the output image as task k reads it (R38). -/
def outByte (s : State) (k : Nat) (spec : Bool) (off : Nat) : Byte :=
  match ownerOf s off with
  | none => 0
  | some j => if j = k then byteAt (taskOf s k).work off
    else byteAt (if spec then s.fab.outImg else (taskOf s k).outSnap) off

/-- The output word at an aligned offset, with the lamp's own buffered bits. -/
def outWord (s : State) (i off : Nat) : Word :=
  let l := lampOf s i
  let b := outByte s l.task l.spec
  overlay l .io (0x10000 + off) (b (off + 3) ++ b (off + 2) ++ b (off + 1) ++ b off)

/-- The mask of the bytes of a word that task k owns. -/
def ownMask (s : State) (k off : Nat) : Word :=
  let m (j : Nat) : Word := if ownerOf s (off + j) = some k then w32 (255 * 2 ^ (8 * j)) else 0
  m 0 ||| m 1 ||| m 2 ||| m 3

/-- The mask of the bytes of a word that a task other than k owns. -/
def foreignMask (s : State) (k off : Nat) : Word :=
  let m (j : Nat) : Word := match ownerOf s (off + j) with
    | some o => if o = k then 0 else w32 (255 * 2 ^ (8 * j))
    | none => 0
  m 0 ||| m 1 ||| m 2 ||| m 3

/-- Reads the output word that holds masked bits at offset `off`. -/
def outRead (o : LampOp) (off : Nat) (mask : Word) (s : State) : Acc (Word × State) := do
  let i := o.lamp
  let off4 := off / 4 * 4
  let w := outWord s i off4
  let fm := foreignMask s (lampOf s i).task off4 &&& mask
  let s ← if fm = 0 then .ok s else readSet i .otherOut off4 fm w s
  let s ← eccRead i 5 0 (eccOut off) o.dataErr s
  .ok (w, s)

/-- Writes the masked bits of a task's own output bytes. -/
def outPut (k off : Nat) (v m : Word) (s : State) : State :=
  let m := m &&& ownMask s k off
  taskMod k (fun t => { t with work := wordPut t.work off ((wordAt t.work off &&& ~~~m) ||| (v &&& m)) }) s

/-- Writes masked bits at output offset `off` of an aligned word (R37, R82). -/
def outWrite (o : LampOp) (a off : Nat) (v m : Word) (s : State) : Acc State := do
  let i := o.lamp
  let l := lampOf s i
  if foreignMask s l.task off &&& m ≠ 0 then throw (.trap .imagePage a)
  let s ← eccStore i 5 0 (eccOut off) (m == 0xFFFFFFFF) o.dataErr s
  let m := m &&& ownMask s l.task off
  if m = 0 then .ok s
  else
    let e : BufStore := { space := .io, addr := 0x10000 + off, value := v &&& m, mask := m, task := l.task }
    if l.spec then specStore i e s
    else if l.drain ≠ [] then .ok (lampMod i (fun l => { l with drain := l.drain ++ [e] }) s)
    else .ok (visible i (3 + waitOf o) (outPut l.task off v m s))

/-! ### Timer/counter blocks (R103, R146) -/

/-- KIND as CTRL shows it. -/
def tcKindCode : TcKind → Nat
  | .unused => 0 | .ton => 1 | .tof => 2 | .tp => 3 | .ctu => 4 | .ctd => 5

/-- KIND of a code. -/
def tcKindOf (n : Nat) : TcKind :=
  if n = 1 then .ton else if n = 2 then .tof else if n = 3 then .tp else if n = 4 then .ctu
  else if n = 5 then .ctd else .unused

/-- Word j of a block (R146). -/
def tcWord (b : TcBlock) (j : Nat) : Word :=
  match j with
  | 0 => b.preset
  | 1 => b.elapsed
  | 2 => b.last.extractLsb' 0 32
  | _ => fldF (b.last.toNat / 2 ^ 32) 16 ||| fldF (tcKindCode b.kind) 8 ||| bitF b.retain 4 ||| bitF b.new 3 |||
      bitF b.pulse 2 ||| bitF b.inp 1 ||| bitF b.q 0

/-- The block of four words. -/
def tcOfWords (w0 w1 w2 w3 : Word) : TcBlock :=
  { preset := w0, elapsed := w1, last := BitVec.ofNat 48 (w3.toNat / 65536 * 2 ^ 32 + w2.toNat)
    kind := tcKindOf (w3.toNat / 256 % 8), retain := w3.getLsbD 4, new := w3.getLsbD 3, pulse := w3.getLsbD 2
    inp := w3.getLsbD 1, q := w3.getLsbD 0 }

/-- A block of the table. -/
def tcOf (s : State) (b : Nat) : TcBlock := tabGet {} s.fab.blocks b

/-- The task of the lamp owns block b, or CHART_VIOLATION cause 6 (R103). -/
def tcCheck (s : State) (i b : Nat) : Acc Unit :=
  if pageOk (pageUse s (131072 + b / 16)) (lampOf s i).task true then .ok ()
  else .error (.trap (.chart 6 0 0 0) (0x60000 + 16 * b))

/-- Word j of block b as the lamp sees it. -/
def tcRead (o : LampOp) (b j : Nat) (s : State) : Acc (Word × State) := do
  let i := o.lamp
  let s ← eccRead i 7 0 (16 * b + 4 * j) o.dataErr s
  .ok (overlay (lampOf s i) .io (0x60000 + 16 * b + 4 * j) (tcWord (tcOf s b) j), s)

/-- Writes masked bits of word j of block b. -/
def tcPut (b j : Nat) (v m : Word) (s : State) : State :=
  let x := tcOf s b
  let w (n : Nat) : Word := if n = j then (tcWord x n &&& ~~~m) ||| (v &&& m) else tcWord x n
  { s with fab := { s.fab with blocks := tabPut {} s.fab.blocks b (tcOfWords (w 0) (w 1) (w 2) (w 3)) } }

/-- Writes word j of block b, through the store buffer in speculative work. -/
def tcWrite (o : LampOp) (b j : Nat) (v : Word) (s : State) : Acc State :=
  let i := o.lamp
  let l := lampOf s i
  let e : BufStore := { space := .io, addr := 0x60000 + 16 * b + 4 * j, value := v, mask := 0xFFFFFFFF, task := l.task }
  if l.spec then specStore i e s
  else if l.drain ≠ [] then .ok (lampMod i (fun l => { l with drain := l.drain ++ [e] }) s)
  else .ok (visible i (3 + waitOf o) (tcPut b j v 0xFFFFFFFF s))

/-! ### Range control (R107 to R110) -/

/-- A free-running timer. -/
def frtOf (s : State) (k : Nat) : Frt := tabGet {} s.fab.frt k

/-- Its count now: whole ticks of the common 1 µs tick (R110). -/
def frtCount (s : State) (k : Nat) : Word :=
  let f := frtOf s k
  if f.run then f.cnt + w32 (s.time.mono / 1000 - f.since / 1000) else f.cnt

/-- CLEAR: the count is 0 (R110). -/
def frtClear (k : Nat) (s : State) : State :=
  if k < 64 then
    { s with fab := { s.fab with frt := tabMod {} s.fab.frt k fun f =>
      { f with cnt := 0, since := if f.run then s.time.mono else 0 } } }
  else s

/-- RUN: the timer starts or holds (R110). -/
def frtRun (k : Nat) (run : Bool) (s : State) : State :=
  if k < 64 ∧ (frtOf s k).run ≠ run then
    let c := frtCount s k
    { s with fab := { s.fab with frt := tabMod {} s.fab.frt k fun f =>
      { f with cnt := c, run := run, since := if run then s.time.mono else 0 } } }
  else s

/-- The register of range control at a word address is of class LOCAL (R107). -/
def rctlLocal (a : Nat) : Bool :=
  (decide (0x70008 ≤ a) && decide (a ≤ 0x70014)) || (decide (0x70400 ≤ a) && decide (a < 0x70600)) ||
    (decide (0x70800 ≤ a) && decide (a ≤ 0x70840)) || a == 0x708C0 || a == 0x708C4

/-- The free-running timer of an address is not assigned to task k. -/
def frtForeign (s : State) (k a : Nat) : Bool :=
  decide (0x70400 ≤ a) && decide (a < 0x70600) &&
    (match s.img with
      | none => true
      | some p => tabGet none p.frt ((a - 0x70400) / 8) ≠ some k)

/-- LOCAL_DENIED (R107). -/
def rctlDenied (s : State) (i a : Nat) : Bool :=
  let k := (lampOf s i).task
  rctlLocal a && ((taskCfg s k).vital || twinOn s || frtForeign s k a)

/-- A register of range control. -/
def rctlRead (s : State) (i a : Nat) : Word :=
  let l := lampOf s i
  let g := lampGal i
  let x := mbxOf s (8 + g)
  if a = 0x70000 then
    fldF (lampGroup s i).gallery 20 ||| fldF ((lampGroup s i).place / (if lampSplit s i then 2 else 1)) 16 |||
      fldF l.group 0
  else if a = 0x70004 then fldF l.task 0
  else if a = 0x70008 then fldF g 8 ||| fldF (lampRange i) 4 ||| bitF (lampSplit s i) 1 ||| fldF (lampSide i) 0
  else if a = 0x7000C then w32 ((s.time.mono - (galOf s g).wakeTs) / 2)
  else if a = 0x70010 then w32 l.eccCnt
  else if a = 0x70014 then l.eccAddr
  else if 0x70400 ≤ a ∧ a < 0x70600 then
    if a % 8 = 0 then frtCount s ((a - 0x70400) / 8) else bitF (frtOf s ((a - 0x70400) / 8)).run 0
  else if 0x70800 ≤ a ∧ a < 0x70840 then x.fk.words.getD ((a - 0x70800) / 4) 0
  else if a = 0x708C0 then ackWord x.tk.ack
  else if a = 0x708C4 then mbxFlags s g
  else 0

/-- The register of range control at a word address can be written. -/
def rctlWritable (a : Nat) : Bool :=
  (decide (0x70400 ≤ a) && decide (a < 0x70600) && a % 8 == 4) || a == 0x70840 ||
    (decide (0x70880 ≤ a) && decide (a < 0x708C0))

/-- Writes a register of range control; a shadow's notes go nowhere (R249). -/
def rctlWrite (i a : Nat) (v : Word) (s : State) : State :=
  let g := lampGal i
  if 0x70400 ≤ a ∧ a < 0x70600 then
    let k := (a - 0x70400) / 8
    frtRun k (v.getLsbD 0) (if v.getLsbD 1 then frtClear k s else s)
  else if a = 0x70840 then inAckWrite g v s
  else if a = 0x70880 then
    if s.fab.isShadow then s
    else tkWrite (8 + g) (v :: (List.range 15).map fun j => tabGet 0 (lampOf s i).staging (j + 1)) s
  else lampMod i (fun l => { l with staging := tabPut 0 l.staging ((a - 0x70880) / 4) v }) s

/-! ### The legacy window (R119 to R125) -/

/-- The lamp's rung group may use the legacy window (R120). -/
def legacyOk (s : State) (i : Nat) : Bool :=
  (taskCfg s (lampOf s i).task).legacy && decide ((lampGroup s i).gallery ≤ 1)

/-- The block bound to legacy timer j of task k. -/
def legacyBlock (s : State) (k j : Nat) : Option Nat := s.img.bind fun p => tabGet none p.legacyTimers (256 * k + j)

/-- Four BCD digits of a number, 9999 at most (R124). -/
def toBcd (n : Nat) : Half :=
  let n := min n 9999
  BitVec.ofNat 16 (n / 1000 * 4096 + n / 100 % 10 * 256 + n / 10 % 10 * 16 + n % 10)

/-- The number of four BCD digits, none when a digit is above 9. -/
def ofBcd (h : Half) : Option Nat :=
  let d (j : Nat) : Nat := h.toNat / 16 ^ j % 16
  if 9 < d 0 ∨ 9 < d 1 ∨ 9 < d 2 ∨ 9 < d 3 then none else some (d 0 + 10 * d 1 + 100 * d 2 + 1000 * d 3)

/-- The legacy shadow over a modern half-word (R122). -/
def legacyOver (s : State) (k ln : Nat) (v : Half) : Half :=
  let x := tabGet {} (taskOf s k).shadow ln
  (v &&& ~~~x.mask) ||| (x.value &&& x.mask)

/-- The half-word in an aligned word at byte address `a`. -/
def halfIn (w : Word) (a : Nat) : Half := (w >>> (8 * (a % 4))).extractLsb' 0 16

/-- A legacy read of an image half-word (R121, R122). -/
def legacyCell (o : LampOp) (a : Nat) (s : State) : Acc (Half × State) := do
  let k := (lampOf s o.lamp).task
  let (w, s) ← if a < 0x81000 then viewRead o (a - 0x80000) 2 0 s else outRead o (a - 0x81000) (byteMask a 2) s
  .ok (legacyOver s k ((a - 0x80000) / 2) (halfIn w a), s)

/-- The legacy words of timer/counter block b: preset and elapsed time in BCD, its outputs, its number (R123 to R125). -/
def legacyTc (o : LampOp) (b ln : Nat) (s : State) : Acc (Half × State) := do
  let k := (lampOf s o.lamp).task
  let x := tcOf s b
  let j := (ln - 3072) % 4
  let s ← eccRead o.lamp 7 0 (16 * b + (if j = 0 then 0 else if j = 1 then 4 else 12)) o.dataErr s
  let v : Half :=
    if j = 0 then legacyOver s k ln (toBcd (x.preset.toNat / 10000))
    else if j = 1 then toBcd (x.elapsed.toNat / 10000)
    else if j = 2 then (bitF x.q 15 ||| bitF x.inp 14).extractLsb' 0 16
    else BitVec.ofNat 16 b
  .ok (v, s)

/-- A legacy read of half-word address `a` (R121 to R125). -/
def legacyRead (o : LampOp) (a : Nat) (s : State) : Acc (Half × State) :=
  let ln := (a - 0x80000) / 2
  let ok := legacyOk s o.lamp
  if a < 0x81800 then if ok then legacyCell o a s else .error (.trap .legacyDenied a)
  else match legacyBlock s (lampOf s o.lamp).task ((ln - 3072) / 4) with
    | none => .error (.trap .ioAccess a)
    | some b => if ok then legacyTc o b ln s else .error (.trap .legacyDenied a)

/-- A legacy write of masked bits enters the shadow (R122, R125). -/
def legacyWrite (o : LampOp) (a : Nat) (v m : Half) (bitForm : Bool) (s : State) : Acc State := do
  let i := o.lamp
  let k := (lampOf s i).task
  let ln := (a - 0x80000) / 2
  if a < 0x81000 then throw (.trap .ioAccess a)
  let put (s : State) : State := taskMod k (fun t => { t with shadow := tabMod {} t.shadow ln fun x =>
    { value := (x.value &&& ~~~m) ||| (v &&& m), mask := x.mask ||| m } }) s
  if a < 0x81800 then
    if !legacyOk s i then throw (.trap .legacyDenied a)
    let off := a - 0x81000
    let other (x : Nat) : Bool := match ownerOf s x with
      | some j => j ≠ k
      | none => false
    if other off || other (off + 1) then throw (.trap .imagePage a)
    .ok (put s)
  else if bitForm ∨ (ln - 3072) % 4 ≠ 0 ∨ legacyBlock s k ((ln - 3072) / 4) = none then throw (.trap .ioAccess a)
  else if !legacyOk s i then throw (.trap .legacyDenied a)
  else if (ofBcd v).isNone then throw (.trap .legacyBcd a)
  else .ok (put s)

/-- The merge of the legacy shadow at the task's last GEND (R123). -/
def legacyMerge (k : Nat) (s : State) : State :=
  let sh := (taskOf s k).shadow
  let s := sh.foldl (fun s (ln, x) =>
    if ln < 3072 then
      let off := 2 * (ln - 2048)
      let sft := 8 * (off % 4)
      outPut k (off / 4 * 4) ((x.value.zeroExtend 32) <<< sft) ((x.mask.zeroExtend 32) <<< sft) s
    else match legacyBlock s k ((ln - 3072) / 4), ofBcd x.value with
      | some b, some n => tcPut b 0 (w32 (n * 10000)) 0xFFFFFFFF s
      | _, _ => s) s
  taskMod k (fun t => { t with shadow := [] }) s

/-! ### IO-space accesses (R102, R105, R136, R138) -/

/-- A completed IO access: value, cost, state; or a slot read that must wait. -/
inductive IoRes where
  | val (v : Word) (cost : Nat) (s : State)
  | slotWait (n : Nat) (s : State)

/-- A completed access is counted: images, the legacy window, and the interconnect wait of what lies behind it (R569). -/
def ioTap (o : LampOp) (a : Nat) (s : State) : State :=
  let s := if a < 0x20000 then lampCtr o.lamp 10 1 s
    else if 0x80000 ≤ a ∧ a < 0x82000 then lampCtr o.lamp 11 1 s else s
  if a < 0x70000 ∨ 0x80000 ≤ a then lampCtr o.lamp 7 (waitOf o) s else s

/-- A read of `n` bytes of IO-space (R105). -/
def ioReadAt (o : LampOp) (a n : Nat) (s : State) : Acc IoRes := do
  let i := o.lamp
  alignCheck a n
  let part (w : Word) : Word := (w >>> (8 * (a % 4))) &&& w32 (2 ^ (8 * n) - 1)
  if a < 0x10000 then
    let (w, s) ← viewRead o a n 0 s
    .ok (.val (part w) (2 + waitOf o) s)
  else if a < 0x20000 then
    let (w, s) ← outRead o (a - 0x10000) (byteMask a n) s
    .ok (.val (part w) (2 + waitOf o) s)
  else if a < 0x60000 then
    if n ≠ 4 then throw (.trap .ioAccess a)
    let sn := (a - 0x20000) / 4
    let s ← eccRead i 6 0 (4 * sn) o.dataErr s
    match slotRead i sn s with
    | .val v s => .ok (.val v (2 + waitOf o) s)
    | .wait s => .ok (.slotWait sn s)
    | .trap c => throw (.trap c a)
  else if a < 0x70000 then
    if n ≠ 4 then throw (.trap .ioAccess a)
    tcCheck s i ((a - 0x60000) / 16)
    let (w, s) ← tcRead o ((a - 0x60000) / 16) (a % 16 / 4) s
    .ok (.val w (2 + waitOf o) s)
  else if a < 0x71000 then
    if n ≠ 4 then throw (.trap .ioAccess a)
    if (lampOf s i).spec then throw (.stop 0)
    if rctlDenied s i a then throw (.trap .localDenied a)
    .ok (.val (rctlRead s i a) 2 s)
  else if 0x80000 ≤ a ∧ a < 0x82000 ∧ n = 2 then
    let (h, s) ← legacyRead o a s
    .ok (.val (h.zeroExtend 32) (6 + waitOf o) s)
  else throw (.trap .ioAccess a)

/-- A write of the low `n` bytes of `v` to IO-space (R105): cost and state. -/
def ioWriteAt (o : LampOp) (a n : Nat) (v : Word) (s : State) : Acc (Nat × State) := do
  let i := o.lamp
  alignCheck a n
  if a < 0x10000 then throw (.trap .ioAccess a)
  else if a < 0x20000 then
    let off := (a - 0x10000) / 4 * 4
    let s ← outWrite o a off (v <<< (8 * (a % 4))) (byteMask a n) s
    .ok (2 + waitOf o, s)
  else if a < 0x60000 then throw (.trap (.chart 5 ((a - 0x20000) / 4) 0 0) a)
  else if a < 0x70000 then
    if n ≠ 4 ∨ 8 ≤ a % 16 then throw (.trap .ioAccess a)
    tcCheck s i ((a - 0x60000) / 16)
    let s ← eccStore i 7 0 (a - 0x60000) true o.dataErr s
    let s ← tcWrite o ((a - 0x60000) / 16) (a % 16 / 4) v s
    .ok (2 + waitOf o, s)
  else if a < 0x71000 then
    if n ≠ 4 ∨ !rctlWritable a then throw (.trap .ioAccess a)
    if (lampOf s i).spec then throw (.stop 0)
    if rctlDenied s i a then throw (.trap .localDenied a)
    .ok (2, rctlWrite i a v s)
  else if 0x80000 ≤ a ∧ a < 0x82000 ∧ n = 2 then
    let s ← legacyWrite o a (v.extractLsb' 0 16) 0xFFFF false s
    .ok (6 + waitOf o, s)
  else throw (.trap .ioAccess a)

/-- The legacy half-word mask of legacy bit b (R119). -/
def legacyBitMask (b : Nat) : Half := BitVec.ofNat 16 (2 ^ (15 - b))

/-- Reads one bit of IO-space; `lb` is the legacy half-word address and bit when the address is legacy (R138). -/
def ioBitReadAt (o : LampOp) (a bit : Nat) (s : State) : Acc (Bool × Nat × State) := do
  if 0x80000 ≤ a ∧ a < 0x82000 then
    alignCheck a 2
    let (h, s) ← legacyRead o a s
    .ok (h &&& legacyBitMask bit ≠ 0, 6 + waitOf o, s)
  else if a < 0x20000 ∧ bit < 8 then
    let m := w32 (2 ^ (8 * (a % 4) + bit))
    let (w, s) ← if a < 0x10000 then viewRead o a 0 m s else outRead o (a - 0x10000) m s
    .ok (w &&& m ≠ 0, 2 + waitOf o, s)
  else throw (.trap .ioAccess a)

/-- Writes one bit of IO-space (R138, R139). -/
def ioBitWriteAt (o : LampOp) (a bit : Nat) (b : Bool) (s : State) : Acc (Nat × State) := do
  if 0x80000 ≤ a ∧ a < 0x82000 then
    alignCheck a 2
    let m := legacyBitMask bit
    let s ← legacyWrite o a (if b then m else 0) m true s
    .ok (6 + waitOf o, s)
  else if 0x20000 ≤ a ∧ a < 0x60000 then throw (.trap (.chart 5 ((a - 0x20000) / 4) 0 0) a)
  else if 0x10000 ≤ a ∧ a < 0x20000 ∧ bit < 8 then
    let m := w32 (2 ^ (8 * (a % 4) + bit))
    let s ← outWrite o a ((a - 0x10000) / 4 * 4) (if b then m else 0) m s
    .ok (2 + waitOf o, s)
  else throw (.trap .ioAccess a)

/-- A counted read of IO-space. -/
def ioRead (o : LampOp) (a n : Nat) (s : State) : Acc IoRes := do
  match ← ioReadAt o a n s with
  | .val v cost s => .ok (.val v cost (ioTap o a s))
  | r => .ok r

/-- A counted write to IO-space. -/
def ioWrite (o : LampOp) (a n : Nat) (v : Word) (s : State) : Acc (Nat × State) := do
  let (cost, s) ← ioWriteAt o a n v s
  .ok (cost, ioTap o a s)

/-- A counted read of one bit. -/
def ioBitRead (o : LampOp) (a bit : Nat) (s : State) : Acc (Bool × Nat × State) := do
  let (x, cost, s) ← ioBitReadAt o a bit s
  .ok (x, cost, ioTap o a s)

/-- A counted write of one bit. -/
def ioBitWrite (o : LampOp) (a bit : Nat) (b : Bool) (s : State) : Acc (Nat × State) := do
  let (cost, s) ← ioBitWriteAt o a bit b s
  .ok (cost, ioTap o a s)

end Sys2Proof.Machine
end

