-- ==== Sys2Proof/Machine/LampMem.lean ====
section
/-!
DEFINITION. Loads, stores and IO-space accesses of a lamp (R136 to R139), rung logic (R140 to R144), edges (R145).
-/
namespace Sys2Proof.Machine

/-! ### D-space -/

/-- A load of `n` bytes. -/
def lampLoad (o : LampOp) (n : Nat) (rd rs1 : Reg) (imm : BitVec 16) (s : State) : State :=
  lampExec o true (fun s => do
    let (v, cost, s) ← dLoad o (sumAddr (lampOf s o.lamp) rs1 imm) n s
    .ok (lampWrite o.lamp cost rd v s)) s

/-- A store of `n` bytes. -/
def lampStore (o : LampOp) (n : Nat) (rs2 rs1 : Reg) (imm : BitVec 16) (s : State) : State :=
  lampExec o true (fun s => do
    let l := lampOf s o.lamp
    let (cost, s) ← dStore o (sumAddr l rs1 imm) n (regGet l rs2) s
    .ok (lampNext o.lamp cost s)) s

/-! ### IO-space -/

/-- Writes the result of an IO read, or stalls in the slot read (R71). -/
def ioFinish (i : Nat) (rd : Reg) (r : IoRes) : State :=
  match r with
  | .val v cost s => lampWrite i cost rd v s
  | .slotWait n s => lampMod i (fun l => { l with mode := .slotWait n rd }) s

/-- An IO-space read of `n` bytes. -/
def lampIn (o : LampOp) (n : Nat) (rd rs1 : Reg) (imm : BitVec 16) (s : State) : State :=
  lampExec o true (fun s => do
    let r ← ioRead o (sumAddr (lampOf s o.lamp) rs1 imm) n s
    .ok (ioFinish o.lamp rd r)) s

/-- An IO-space write of `n` bytes. -/
def lampOut (o : LampOp) (n : Nat) (rs2 rs1 : Reg) (imm : BitVec 16) (s : State) : State :=
  lampExec o true (fun s => do
    let l := lampOf s o.lamp
    let (cost, s) ← ioWrite o (sumAddr l rs1 imm) n (regGet l rs2) s
    .ok (lampNext o.lamp cost s)) s

/-- The address of an image-bit form: rs1 + sext(off). -/
def bitAddr (l : Lamp) (rs1 : Reg) (off : BitVec 12) : Nat := (regGet l rs1 + off.signExtend 32).toNat

/-! ### Rung logic -/

/-- Address and bit of format RA: in the legacy window addr[0] is the bit's high part (R141). -/
def rungIo (addr : BitVec 20) (bit : BitVec 3) : Nat × Nat :=
  let a := addr.toNat
  if 0x80000 ≤ a ∧ a < 0x82000 then (a / 2 * 2, a % 2 * 8 + bit.toNat) else (a, bit.toNat)

/-- A rung read: ba = op ba x (R140). -/
def rungRead (o : LampOp) (b : RungBit) (op : Bool → Bool → Bool) (s : State) : State :=
  lampExec o true (fun s => do
    let set (cost : Nat) (x : Bool) (s : State) : State :=
      lampNext o.lamp cost (lampMod o.lamp (fun l => { l with ba := op l.ba x }) s)
    match b with
    | .reg r bit => .ok (set 1 ((regGet (lampOf s o.lamp) r).getLsbD bit.toNat) s)
    | .io addr bit =>
      let (a, n) := rungIo addr bit
      let (x, cost, s) ← ioBitRead o a n s
      .ok (set cost x s)) s

/-- A rung write of bit `y`, performed when `p` holds of ba (R143). -/
def rungWrite (o : LampOp) (b : RungBit) (p : Bool → Bool) (y : Bool → Bool) (s : State) : State :=
  lampExec o true (fun s => do
    let l := lampOf s o.lamp
    if !p l.ba then .ok (lampNext o.lamp 1 s)
    else match b with
      | .reg r bit =>
        let m := w32 (2 ^ bit.toNat)
        let v := if y l.ba then regGet l r ||| m else regGet l r &&& ~~~m
        .ok (lampWrite o.lamp 1 r v s)
      | .io addr bit =>
        let (a, n) := rungIo addr bit
        let (cost, s) ← ioBitWrite o a n (y l.ba) s
        .ok (lampNext o.lamp cost s)) s

/-- An edge instruction: ba = res c p, and c is written to p (R145). -/
def lampEdge (o : LampOp) (rs1 : Reg) (bit : BitVec 5) (off : BitVec 16) (res : Bool → Bool → Bool) (s : State) : State :=
  lampExec o true (fun s => do
    let i := o.lamp
    let l := lampOf s i
    let a := sumAddr l rs1 off
    alignCheck a 4
    let p ← dCheck s i a true
    let w := overlay l .dspace a (dWord s i p)
    let m := w32 (2 ^ bit.toNat)
    let s ← eccRead i p.mem p.unit p.off o.dataErr s
    let s ← dPut o p a (if l.ba then m else 0) m s
    let s := lampCtr i 9 1 (lampCtr i 8 1 (if p.mem = 4 then lampCtr i 7 (waitOf o) s else s))
    .ok (lampNext i (3 + (if p.mem = 4 then waitOf o else 0))
      (lampMod i (fun x => { x with ba := res l.ba (w &&& m ≠ 0) }) s))) s

/-! ### The meanings -/

/-- LDB (R136). -/
def execLdb (o : LampOp) (rd rs1 : Reg) (imm : BitVec 16) (s : State) : Out := .next (lampLoad o 1 rd rs1 imm s)
/-- LDH (R136). -/
def execLdh (o : LampOp) (rd rs1 : Reg) (imm : BitVec 16) (s : State) : Out := .next (lampLoad o 2 rd rs1 imm s)
/-- LDW (R136). -/
def execLdw (o : LampOp) (rd rs1 : Reg) (imm : BitVec 16) (s : State) : Out := .next (lampLoad o 4 rd rs1 imm s)
/-- STB (R136). -/
def execStb (o : LampOp) (rs2 rs1 : Reg) (imm : BitVec 16) (s : State) : Out := .next (lampStore o 1 rs2 rs1 imm s)
/-- STH (R136). -/
def execSth (o : LampOp) (rs2 rs1 : Reg) (imm : BitVec 16) (s : State) : Out := .next (lampStore o 2 rs2 rs1 imm s)
/-- STW (R136). -/
def execStw (o : LampOp) (rs2 rs1 : Reg) (imm : BitVec 16) (s : State) : Out := .next (lampStore o 4 rs2 rs1 imm s)
/-- INB (R136). -/
def execInb (o : LampOp) (rd rs1 : Reg) (imm : BitVec 16) (s : State) : Out := .next (lampIn o 1 rd rs1 imm s)
/-- INH (R136). -/
def execInh (o : LampOp) (rd rs1 : Reg) (imm : BitVec 16) (s : State) : Out := .next (lampIn o 2 rd rs1 imm s)
/-- INW (R136). -/
def execInw (o : LampOp) (rd rs1 : Reg) (imm : BitVec 16) (s : State) : Out := .next (lampIn o 4 rd rs1 imm s)
/-- OUTB (R136). -/
def execOutb (o : LampOp) (rs2 rs1 : Reg) (imm : BitVec 16) (s : State) : Out := .next (lampOut o 1 rs2 rs1 imm s)
/-- OUTH (R136). -/
def execOuth (o : LampOp) (rs2 rs1 : Reg) (imm : BitVec 16) (s : State) : Out := .next (lampOut o 2 rs2 rs1 imm s)
/-- OUTW (R136). -/
def execOutw (o : LampOp) (rs2 rs1 : Reg) (imm : BitVec 16) (s : State) : Out := .next (lampOut o 4 rs2 rs1 imm s)
/-- INBIT (R138). -/
def execInbit (o : LampOp) (rd rs1 : Reg) (bit : BitVec 4) (off : BitVec 12) (s : State) : Out :=
  .next (lampExec o true (fun s => do
    let (x, cost, s) ← ioBitRead o (bitAddr (lampOf s o.lamp) rs1 off) bit.toNat s
    .ok (lampWrite o.lamp cost rd (if x then 1 else 0) s)) s)
/-- OUTBIT (R138). -/
def execOutbit (o : LampOp) (rs2 rs1 : Reg) (bit : BitVec 4) (off : BitVec 12) (s : State) : Out :=
  .next (lampExec o true (fun s => do
    let l := lampOf s o.lamp
    let (cost, s) ← ioBitWrite o (bitAddr l rs1 off) bit.toNat ((regGet l rs2).getLsbD 0) s
    .ok (lampNext o.lamp cost s)) s)
/-- LD (R140). -/
def execLd (o : LampOp) (b : RungBit) (s : State) : Out := .next (rungRead o b (fun _ x => x) s)
/-- LDN (R140). -/
def execLdn (o : LampOp) (b : RungBit) (s : State) : Out := .next (rungRead o b (fun _ x => !x) s)
/-- AND of rung logic (R140). -/
def execRungAnd (o : LampOp) (b : RungBit) (s : State) : Out := .next (rungRead o b (fun a x => a && x) s)
/-- ANDN (R140). -/
def execAndn (o : LampOp) (b : RungBit) (s : State) : Out := .next (rungRead o b (fun a x => a && !x) s)
/-- OR of rung logic (R140). -/
def execRungOr (o : LampOp) (b : RungBit) (s : State) : Out := .next (rungRead o b (fun a x => a || x) s)
/-- ORN (R140). -/
def execOrn (o : LampOp) (b : RungBit) (s : State) : Out := .next (rungRead o b (fun a x => a || !x) s)
/-- XOR of rung logic (R140). -/
def execRungXor (o : LampOp) (b : RungBit) (s : State) : Out := .next (rungRead o b (fun a x => a != x) s)
/-- COIL (R143). -/
def execCoil (o : LampOp) (b : RungBit) (s : State) : Out := .next (rungWrite o b (fun _ => true) (fun a => a) s)
/-- SET (R143). -/
def execSet (o : LampOp) (b : RungBit) (s : State) : Out := .next (rungWrite o b (fun a => a) (fun _ => true) s)
/-- RST (R143). -/
def execRst (o : LampOp) (b : RungBit) (s : State) : Out := .next (rungWrite o b (fun a => a) (fun _ => false) s)
/-- BPUSH (R144). -/
def execBpush (o : LampOp) (mode : BitVec 2) (s : State) : Out :=
  .next (lampExec o (mode == 0) (fun s =>
    if 16 ≤ (lampOf s o.lamp).bits.length then .error (.trap .bitStack 0)
    else .ok (lampNext o.lamp 1 (lampMod o.lamp (fun l => { l with bits := l.ba :: l.bits }) s))) s)
/-- BPOP: mode 0 LD, 1 AND, 2 OR (R144). -/
def execBpop (o : LampOp) (mode : BitVec 2) (s : State) : Out :=
  .next (lampExec o (mode != 3) (fun s =>
    match (lampOf s o.lamp).bits with
    | [] => .error (.trap .bitStack 0)
    | t :: rest => .ok (lampNext o.lamp 1 (lampMod o.lamp (fun l => { l with
        bits := rest, ba := if mode = 0 then t else if mode = 1 then t && l.ba else t || l.ba }) s))) s)
/-- EDGEP (R145). -/
def execEdgep (o : LampOp) (rs1 : Reg) (bit : BitVec 5) (off : BitVec 16) (s : State) : Out :=
  .next (lampEdge o rs1 bit off (fun c p => c && !p) s)
/-- EDGEN (R145). -/
def execEdgen (o : LampOp) (rs1 : Reg) (bit : BitVec 5) (off : BitVec 16) (s : State) : Out :=
  .next (lampEdge o rs1 bit off (fun c p => !c && p) s)

end Sys2Proof.Machine
end

