-- ==== Sys2Proof/Machine/LampTimer.lean ====
section
/-!
DEFINITION. Timer and counter instructions (R146 to R154) and the restarts of blocks.
-/
namespace Sys2Proof.Machine

/-- The cycle-start TS64 a lamp's timers use: the predicted one in speculative work (R55, R80). -/
def lampStart (s : State) (l : Lamp) : Nat :=
  if predicted s l then predStart s l.task else (taskOf s l.task).start

/-- time_step of R148: the block after the step and d. -/
def timeStep (start : Nat) (inp : Bool) (b : TcBlock) : TcBlock × Nat :=
  let t : BitVec 48 := BitVec.ofNat 48 start
  if b.new ∨ (inp ∧ !b.inp) then ({ b with last := t, new := false }, 0)
  else
    let d := (t - b.last).toNat / 1000
    ({ b with last := b.last + BitVec.ofNat 48 (d * 1000), new := false }, d)

/-- ELAPSED after a step: min(ELAPSED + d, PRESET) (R148). -/
def stepElapsed (b : TcBlock) (d : Nat) : Word := w32 (min (b.elapsed.toNat + d) b.preset.toNat)

/-- TON (R150). -/
def tonEval (start : Nat) (inp : Bool) (b : TcBlock) : TcBlock :=
  let (b, d) := timeStep start inp b
  let e := if inp then stepElapsed b d else 0
  { b with kind := .ton, elapsed := e, q := inp && decide (b.preset.toNat ≤ e.toNat), inp := inp }

/-- TOF (R151). -/
def tofEval (start : Nat) (inp : Bool) (b : TcBlock) : TcBlock :=
  let (b, d) := timeStep start inp b
  let e := if inp then 0 else stepElapsed b d
  { b with kind := .tof, elapsed := e, q := inp || (b.q && decide (e.toNat < b.preset.toNat)), inp := inp }

/-- TP (R152). -/
def tpEval (start : Nat) (inp : Bool) (b : TcBlock) : TcBlock :=
  let rise := inp && !b.inp
  let (b, d) := timeStep start inp b
  let b := { b with kind := .tp, elapsed := stepElapsed b d }
  if b.pulse then
    if b.preset.toNat ≤ b.elapsed.toNat then { b with pulse := false, q := false, inp := inp }
    else { b with q := true }
  else if rise then
    if b.preset = 0 then { b with elapsed := 0, q := false, inp := true }
    else { b with elapsed := 0, pulse := true, q := true, inp := true }
  else { b with elapsed := if inp then b.elapsed else 0, q := false, inp := inp }

/-- CTU (R153). -/
def ctuEval (r cu : Bool) (b : TcBlock) : TcBlock :=
  let cv := if r then 0
    else if cu ∧ !b.inp ∧ b.elapsed.toInt < 2147483647 then b.elapsed + 1
    else b.elapsed
  { b with kind := .ctu, elapsed := cv, last := 0, q := decide (b.preset.toInt ≤ cv.toInt), inp := cu }

/-- CTD (R153). -/
def ctdEval (ld cd : Bool) (b : TcBlock) : TcBlock :=
  let cv := if ld then b.preset
    else if cd ∧ !b.inp ∧ b.elapsed.toInt > -2147483648 then b.elapsed - 1
    else b.elapsed
  { b with kind := .ctd, elapsed := cv, last := 0, q := decide (cv.toInt ≤ 0), inp := cd }

/-- The block of an instruction, checked: IO_ACCESS, then CHART_VIOLATION cause 6, then errors (R147). -/
def tcTake (o : LampOp) (rs1 : Reg) (blk : BitVec 12) (s : State) : Acc (Nat × TcBlock × State) := do
  let b := (regGet (lampOf s o.lamp) rs1 + blk.zeroExtend 32).toNat
  if 4096 ≤ b then throw (.trap .ioAccess (0x60000 + 16 * b))
  tcCheck s o.lamp b
  let (w0, s) ← tcRead o b 0 s
  let (w1, s) ← tcRead { o with dataErr := .ok } b 1 s
  let (w2, s) ← tcRead { o with dataErr := .ok } b 2 s
  let (w3, s) ← tcRead { o with dataErr := .ok } b 3 s
  .ok (b, tcOfWords w0 w1 w2 w3, s)

/-- Writes an evaluated block back and ba with it. -/
def tcDone (o : LampOp) (b cost : Nat) (x : TcBlock) (s : State) : Acc State := do
  let s ← tcWrite o b 1 (tcWord x 1) s
  let s ← tcWrite o b 2 (tcWord x 2) s
  let s ← tcWrite o b 3 (tcWord x 3) s
  let s := lampCtr o.lamp 7 (waitOf o) s
  .ok (lampNext o.lamp (cost + waitOf o) (lampMod o.lamp (fun l => { l with ba := x.q }) s))

/-- A timer instruction: the cycle start joins the read set of speculative work (R81, R147). -/
def lampTimer (o : LampOp) (rs1 : Reg) (blk : BitVec 12) (ev : Nat → Bool → TcBlock → TcBlock) (s : State) : State :=
  lampExec o true (fun s => do
    let (b, x, s) ← tcTake o rs1 blk s
    let l := lampOf s o.lamp
    let t := lampStart s l
    let s ← readSet o.lamp .cycleStart (t / 2 ^ 32) 0xFFFFFFFF (w32 t) s
    tcDone o b 6 (ev t l.ba x) s) s

/-- A counter instruction: R or LD is popped from the bit stack (R147). -/
def lampCounter (o : LampOp) (rs1 : Reg) (blk : BitVec 12) (ev : Bool → Bool → TcBlock → TcBlock) (s : State) : State :=
  lampExec o true (fun s => do
    let (b, x, s) ← tcTake o rs1 blk s
    let l := lampOf s o.lamp
    match l.bits with
    | [] => throw (.trap .bitStack 0)
    | r :: rest => tcDone o b 5 (ev r l.ba x) (lampMod o.lamp (fun l => { l with bits := rest }) s)) s

/-- The block a cold restart writes (R154). -/
def tcCold (c : TimerCfg) : TcBlock := { preset := c.preset, kind := c.kind, retain := c.retain, new := true }

/-! ### The meanings -/

/-- TON (R150). -/
def execTon (o : LampOp) (rs1 : Reg) (blk : BitVec 12) (s : State) : Out := .next (lampTimer o rs1 blk tonEval s)
/-- TOF (R151). -/
def execTof (o : LampOp) (rs1 : Reg) (blk : BitVec 12) (s : State) : Out := .next (lampTimer o rs1 blk tofEval s)
/-- TP (R152). -/
def execTp (o : LampOp) (rs1 : Reg) (blk : BitVec 12) (s : State) : Out := .next (lampTimer o rs1 blk tpEval s)
/-- CTU (R153). -/
def execCtu (o : LampOp) (rs1 : Reg) (blk : BitVec 12) (s : State) : Out := .next (lampCounter o rs1 blk ctuEval s)
/-- CTD (R153). -/
def execCtd (o : LampOp) (rs1 : Reg) (blk : BitVec 12) (s : State) : Out := .next (lampCounter o rs1 blk ctdEval s)

end Sys2Proof.Machine
end

