-- ==== Sys2Proof/Machine/LampFlow.lean ====
section
/-!
DEFINITION. Rung groups on lamps (R31, R63 to R65, R73), slot instructions (R155, R156), system instructions (R157)
and branches (R159).
-/
namespace Sys2Proof.Machine

/-! ### Placement (R64) -/

/-- Physical range of a logical range of a gallery. -/
def physOf (s : State) (g logical : Nat) : Nat := (tabGet none (galOf s g).lmap logical).getD logical

/-- The lamp a rung group is placed on. -/
def groupLamp (s : State) (c : GroupCfg) : Nat :=
  if (galOf s c.gallery).split then
    let r := physOf s c.gallery (c.place / 2)
    let x := rangeOf s c.gallery r
    if x.st == .half then 32 * c.gallery + 2 * r + b2n (!x.lamp0Ok) else 32 * c.gallery + 2 * r + c.place % 2
  else 32 * c.gallery + 2 * physOf s c.gallery c.place

/-- The range of a lamp can execute: in service, its memories ready, not between modes (R93, R193, R200). -/
def lampServes (s : State) (i : Nat) : Bool :=
  let g := galOf s (lampGal i)
  let r := rangeOf s (lampGal i) (lampRange i)
  (r.st == .inService || (r.st == .half && r.split && (if lampSide i = 0 then r.lamp0Ok else r.lamp1Ok))) &&
    g.memReady && !r.changing

/-- Order of service among tasks: vital first, then PRIORITY, then number (R31). -/
def taskBefore (s : State) (a b : Nat) : Bool :=
  let x := taskCfg s a
  let y := taskCfg s b
  if x.vital ≠ y.vital then x.vital
  else if x.priority ≠ y.priority then decide (x.priority < y.priority) else decide (a < b)

/-- Inserts a task in order of service. -/
def taskInsert (s : State) (k : Nat) : List Nat → List Nat
  | [] => [k]
  | x :: xs => if taskBefore s k x then k :: x :: xs else x :: taskInsert s k xs

/-- The tasks of the image in order of service. -/
def taskOrder (s : State) : List Nat := (tasksUsed s).foldr (taskInsert s) []

/-- The chart of task k with its indices, on lamp i. -/
def groupsOn (s : State) (k i : Nat) : List Nat :=
  let ch := taskChart s k
  (List.range ch.length).filter fun j => match ch[j]? with
    | some c => groupLamp s c == i
    | none => false

/-- Every start wait of group j has its version in cycle c (R31). -/
def groupReady (s : State) (k j c : Nat) : Bool :=
  match (taskChart s k)[j]? with
  | none => false
  | some g => g.reads.all fun r => !r.startWait ||
      (let (e, o) := reqVer c r
       let sl := slotOf s r.slot
       !verPrec sl.epoch sl.ord e o && !sl.prov)

/-- The next ready rung group of lamp i (R31). -/
def nextGroup (s : State) (i : Nat) : Option (Nat × Nat) :=
  (taskOrder s).findSome? fun k =>
    let t := taskOf s k
    if t.mode == .running && t.phase == .logic then
      match (groupsOn s k i).find? fun j => !t.taken.contains j with
      | some j => if groupReady s k j t.cycle then some (k, j) else none
      | none => none
    else none

/-- The content of the registers at a rung group's start: undefined (R65). -/
def freeRegs (n : Nat) : Vector Word 32 :=
  ⟨⟨0 :: (List.range 31).map fun r => Config.freeWord (n + r)⟩, by simp⟩

/-- A lamp begins a rung group. -/
def groupStart (i k j c : Nat) (spec : Bool) (s : State) : State :=
  let n := s.free
  let s := lampMod i (fun l => { l with
    mode := .exec, regs := freeRegs n, lk := Config.freeWord (n + 31), ba := (Config.freeWord (n + 32)).getLsbD 0
    bits := [], pc := ((taskChart s k).getD j ⟨0, 0, 0, 0, [], [], 0⟩).entry, task := k, group := j, cycle := c
    spec := spec, fc := 0, instrs := 0, visAt := 0, readSlots := [], pubSlots := [], depth := 0
    specs := if spec then l.specs ++ [⟨k, j, c, [], [], [], [], [], none, false, 0, 0, 0⟩] else l.specs }) s
  taskMod k (fun t => if spec ∧ c ≠ t.cycle then { t with takenNext := t.takenNext ++ [j] }
    else { t with taken := t.taken ++ [j] }) { s with free := n + 33 }

/-- An idle lamp takes its next ready rung group (R31). -/
def lampTake (i : Nat) (s : State) : State :=
  if (lampOf s i).mode == .idle && lampServes s i then
    match nextGroup s i with
    | some (k, j) => groupStart i k j (taskOf s k).cycle false s
    | none => s
  else s

/-- The lamps the charts of running tasks name. -/
def chartLamps (s : State) : List Nat :=
  ((tasksUsed s).flatMap fun k =>
    if (taskOf s k).mode == .running && (taskOf s k).phase == .logic then (taskChart s k).map (groupLamp s) else []).eraseDups

/-- Every idle lamp takes a group. -/
def takeGroups (s : State) : State := (chartLamps s).foldl (fun s i => lampTake i s) s

/-! ### The end of a rung group (R73, R123) -/

/-- A GROUP or OUTCOME entry of lamp i (R564 to R566): its kind, flags, task, group, cycle and fc. -/
def traceGroup (i kind flags k j c fc : Nat) (s : State) : State :=
  if traceOn s 0 && s.watch.galMask.getLsbD (lampGal i) && s.watch.taskMask.getLsbD k then
    traceCap { kind := kind, bit := some 0, source := rangeSrc (lampGal i) (lampRange i), flags := flags, ts := now s
               words := [fldF k 28 ||| bitF (lampSplit s i && lampSide i == 1) 24 ||| fldF j 0, w32 c, w32 fc] } s
  else s

/-- A rung group of task k on lamp i has ended for good; the last one merges the legacy shadow (R123). -/
def groupDone (i k j : Nat) (s : State) : State :=
  let g := lampGal i
  let s := taskMod k (fun t => { t with doneG := t.doneG ++ [j] }) s
  let s := ctrAdd 4 (some k) (some g) (some (lampRange i)) 1 s
  let s := galMod g (fun x => { x with groupCnt := satInc x.groupCnt }) s
  if (taskOf s k).doneG.length ≥ (taskChart s k).length then legacyMerge k s else s

/-- A lamp leaves its group. -/
def lampIdle (i : Nat) (s : State) : State :=
  lampMod i (fun l => { l with mode := .idle, regs := Vector.replicate 32 0, lk := 0, ba := false, bits := [], spec := false }) s

/-- A publish with its store-buffer entry in speculative work (R82, R83). -/
def spub (i n : Nat) (v : Word) (issue : Bool) (s : State) : Acc SlotRes :=
  if (lampOf s i).spec && !(bufUsed (lampOf s i) < (if lampSplit s i then 32 else 64)) then .error (.stop 1)
  else match slotPub i n v issue s with
    | .val v s =>
      if (lampOf s i).spec then
        match specStore i ⟨.slot, n, v, 0xFFFFFFFF, (lampOf s i).task⟩ s with
        | .ok s => .ok (.val v s)
        | .error e => .error e
      else .ok (.val v s)
    | r => .ok r

/-- Progress of GEND: done, or waiting. -/
inductive GendRes where
  | done (s : State)
  | wait (s : State)

/-- The reads a group did not perform (R73). -/
def gendReads (i : Nat) : List SlotRead → State → Acc GendRes
  | [], s => .ok (.done s)
  | r :: rs, s =>
    let l := lampOf s i
    if l.readSlots.contains r.slot || l.pubSlots.any (fun p => p.1 == r.slot) then gendReads i rs s
    else match slotRead i r.slot s with
      | .val _ s => gendReads i rs (lampMod i (fun l => { l with fc := l.fc + 1 }) s)
      | .wait s => .ok (.wait s)
      | .trap c => .error (.trap c 0)

/-- The publishes a group did not perform: the predecessor's value again (R73). -/
def gendPubs (i : Nat) (issue : Bool) : List SlotPub → State → Acc GendRes
  | [], s => .ok (.done s)
  | p :: ps, s =>
    if (lampOf s i).pubSlots.any (fun x => x.1 == p.slot) then gendPubs i issue ps s
    else match spub i p.slot (slotOf s p.slot).value issue s with
      | .ok (.val _ s) => gendPubs i issue ps (lampMod i (fun l => { l with fc := l.fc + 2 }) s)
      | .ok (.wait s) => .ok (.wait s)
      | .ok (.trap c) => .error (.trap c 0)
      | .error e => .error e

/-- GEND (R73, R158). -/
def gend (i : Nat) (issue : Bool) (s : State) : Acc State := do
  match ← gendReads i (lampGroup s i).reads s with
  | .wait s => .ok (lampMod i (fun l => { l with mode := .gendWait }) s)
  | .done s =>
    match ← gendPubs i issue (lampGroup s i).pubs s with
    | .wait s => .ok (lampMod i (fun l => { l with mode := .gendWait }) s)
    | .done s =>
      let l := lampOf s i
      let s := rangeMod (lampGal i) (lampRange i) (fun r => { r with snapSinceGend := false }) s
      let s := traceGroup i 1 (b2n l.spec) l.task l.group l.cycle (l.fc + 1) (lampCount i s)
      if l.spec then
        .ok (takeGroups (lampIdle i (lampMod i (specMod fun g =>
          { g with done := true, instrs := l.instrs + 1, fc := l.fc + 1 }) s)))
      else .ok (takeGroups (groupDone i l.task l.group (lampIdle i s)))

/-! ### Waits that end (R75, R156, R157) -/

/-- Takes the outcome of a resumed instruction. -/
def lampResume (i : Nat) (r : Acc State) (s : State) : State :=
  match r with
  | .ok s => s
  | .error (.stop full) =>
    let s := lampMod i (fun l => { l with mode := .specWait }) s
    raFull i full s
  | .error (.trap c a) => raiseTrap i c a s

/-- The fc of a slot wait of task k that has ended are counted (R96, R569). -/
def slotWaited (i k fc : Nat) (s : State) : State :=
  ctrAdd 6 (some k) (some (lampGal i)) (some (lampRange i)) fc (galMod (lampGal i) (fun g => { g with slotWaitFc := satAdd g.slotWaitFc fc }) s)

/-- A stalled slot read resumes; `fc` is the time it has waited (R75). -/
def opSlotReadResume (i fc : Nat) (s : State) : State :=
  match (lampOf s i).mode with
  | .slotWait n rd =>
    match slotRead i n s with
    | .val v s =>
      slotWaited i (lampOf s i).task fc (lampWrite i fc rd v (lampMod i (fun l => { l with mode := .exec }) s))
    | .wait s => s
    | .trap c => raiseTrap i c (0x20000 + 4 * n) s
  | .gendWait =>
    let k := (lampOf s i).task
    let s := lampResume i (gend i false s) s
    if (lampOf s i).mode == .gendWait then s else slotWaited i k fc s
  | _ => s

/-- A pending SPUB, or an implicit publish of GEND, issues; `fc` is the time it has waited (R156). -/
def opSpubIssue (i fc : Nat) (s : State) : State :=
  match (lampOf s i).mode with
  | .pubWait n v =>
    match spub i n v true s with
    | .ok (.val _ s) => takeGroups (lampNext i (fc + 2) (lampMod i (fun l => { l with mode := .exec }) s))
    | .ok (.wait s) => s
    | .ok (.trap c) => raiseTrap i c 0 s
    | .error e => lampResume i (.error e) s
  | .gendWait => lampResume i (gend i true s) s
  | _ => s

/-- A FENCE completes once the lamp's stores are visible (R157). -/
def opFenceComplete (i : Nat) (s : State) : State :=
  let l := lampOf s i
  if l.mode = .fenceWait ∧ l.drain = [] then
    lampNext i (l.visAt - l.fc + 1) (lampMod i (fun l => { l with mode := .exec }) s)
  else s

/-! ### Branches (R159) -/

/-- A compare-and-branch. -/
def lampBranch (o : LampOp) (rs1 rs2 : Reg) (off : BitVec 16) (c : Word → Word → Bool) (s : State) : State :=
  lampExec o true (fun s =>
    let l := lampOf s o.lamp
    if c (regGet l rs1) (regGet l rs2) then
      .ok (lampJump o.lamp 2 (w32 l.pc + (off.signExtend 32 <<< 2)).toNat s)
    else .ok (lampNext o.lamp 1 s)) s

/-- A jump to `target`, with lk written when `link`. -/
def lampJumpTo (o : LampOp) (link : Bool) (target : Lamp → Word) (s : State) : State :=
  lampExec o true (fun s =>
    let l := lampOf s o.lamp
    .ok (lampJump o.lamp 2 (target l).toNat
      (lampMod o.lamp (fun l => if link then { l with lk := w32 (l.pc + 4) } else l) s))) s

/-- The target of J and JAL. -/
def jTarget (off : BitVec 26) (l : Lamp) : Word := w32 l.pc + (off.signExtend 32 <<< 2)

/-! ### The meanings -/

/-- SWAIT (R155). -/
def execSwait (o : LampOp) (rd rs1 : Reg) (imm : BitVec 16) (s : State) : Out :=
  .next (lampExec o true (fun s => do
    let i := o.lamp
    let n := (regGet (lampOf s i) rs1 + imm.zeroExtend 32).toNat
    if 65536 ≤ n then throw (.trap .ioAccess (0x20000 + 4 * n))
    let s ← eccRead i 6 0 (4 * n) o.dataErr s
    match slotRead i n s with
    | .val v s => .ok (lampWrite i (2 + waitOf o) rd v (lampCtr i 7 (waitOf o) s))
    | .wait s => .ok (lampMod i (fun l => { l with mode := .slotWait n rd }) s)
    | .trap c => throw (.trap c (0x20000 + 4 * n))) s)
/-- SPUB (R155). -/
def execSpub (o : LampOp) (rs2 rs1 : Reg) (imm : BitVec 16) (s : State) : Out :=
  .next (lampExec o true (fun s => do
    let i := o.lamp
    let l := lampOf s i
    let n := (regGet l rs1 + imm.zeroExtend 32).toNat
    if 65536 ≤ n then throw (.trap .ioAccess (0x20000 + 4 * n))
    let s ← eccStore i 6 0 (4 * n) true o.dataErr s
    match ← spub i n (regGet l rs2) false s with
    | .val _ s => .ok (takeGroups (lampNext i 2 s))
    | .wait s => .ok (lampMod i (fun x => { x with mode := .pubWait n (regGet l rs2) }) s)
    | .trap c => throw (.trap c (0x20000 + 4 * n))) s)
/-- J (R159). -/
def execJ (o : LampOp) (off : BitVec 26) (s : State) : Out := .next (lampJumpTo o false (jTarget off) s)
/-- JAL (R159). -/
def execJal (o : LampOp) (off : BitVec 26) (s : State) : Out := .next (lampJumpTo o true (jTarget off) s)
/-- JR (R159). -/
def execJr (o : LampOp) (rs1 : Reg) (s : State) : Out := .next (lampJumpTo o false (fun l => regGet l rs1) s)
/-- JALR (R159). -/
def execJalr (o : LampOp) (rs1 : Reg) (s : State) : Out := .next (lampJumpTo o true (fun l => regGet l rs1) s)
/-- RET (R159). -/
def execRet (o : LampOp) (s : State) : Out := .next (lampJumpTo o false Lamp.lk s)
/-- JR through lk with link (R159). -/
def execJrThroughLkWithLink (o : LampOp) (s : State) : Out := .next (lampJumpTo o true Lamp.lk s)
/-- BEQ (R159). -/
def execBeq (o : LampOp) (rs1 rs2 : Reg) (off : BitVec 16) (s : State) : Out :=
  .next (lampBranch o rs1 rs2 off (fun a b => a == b) s)
/-- BNE (R159). -/
def execBne (o : LampOp) (rs1 rs2 : Reg) (off : BitVec 16) (s : State) : Out :=
  .next (lampBranch o rs1 rs2 off (fun a b => a != b) s)
/-- BLT (R159). -/
def execBlt (o : LampOp) (rs1 rs2 : Reg) (off : BitVec 16) (s : State) : Out :=
  .next (lampBranch o rs1 rs2 off (fun a b => a.slt b) s)
/-- BGE (R159). -/
def execBge (o : LampOp) (rs1 rs2 : Reg) (off : BitVec 16) (s : State) : Out :=
  .next (lampBranch o rs1 rs2 off (fun a b => !a.slt b) s)
/-- BLTU (R159). -/
def execBltu (o : LampOp) (rs1 rs2 : Reg) (off : BitVec 16) (s : State) : Out :=
  .next (lampBranch o rs1 rs2 off (fun a b => a.ult b) s)
/-- BGEU (R159). -/
def execBgeu (o : LampOp) (rs1 rs2 : Reg) (off : BitVec 16) (s : State) : Out :=
  .next (lampBranch o rs1 rs2 off (fun a b => !a.ult b) s)
/-- FENCE (R157). -/
def execFence (o : LampOp) (s : State) : Out :=
  .next (lampExec o true (fun s =>
    if storesVisible (lampOf s o.lamp) then .ok (lampNext o.lamp 1 s)
    else .ok (lampMod o.lamp (fun l => { l with mode := .fenceWait }) s)) s)
/-- YIELD (R157). -/
def execYield (o : LampOp) (n : BitVec 8) (s : State) : Out :=
  .next (lampExec o true (fun s => .ok (lampNext o.lamp (n.toNat + 2) s)) s)
/-- TRAP (R157). -/
def execTrap (o : LampOp) (code : BitVec 16) (s : State) : Out :=
  .next (lampExec o true (fun s =>
    if (lampOf s o.lamp).spec then .error (.stop 0) else .error (.trap (.user code.toNat) 0)) s)
/-- SPUB_ISSUE (R156). -/
def execSpubIssue (i fc : Nat) (s : State) : Out := .next (lampWorld i (opSpubIssue i fc) s)
/-- FENCE_COMPLETE (R157). -/
def execFenceComplete (i : Nat) (s : State) : Out := .next (lampWorld i (opFenceComplete i) s)
/-- FRT_CLEAR (R110). -/
def execFrtClear (k : Nat) (s : State) : Out := .next (frtClear k s)
/-- FRT_RUN (R110). -/
def execFrtRun (k : Nat) (run : Bool) (s : State) : Out := .next (frtRun k run s)

end Sys2Proof.Machine
end

