-- ==== Sys2Proof/Machine/View.lean ====
section
/-!
DEFINITION. What the IN phase reads: the module's own snapshot (R40, R302, R322, R347, R349, R385), the agreed image
of a twin (R213 to R216), task status, mode and twin status words, and input forcing (R39, R280, R275).
-/
namespace Sys2Proof.Machine

/-! ### The module's own reading of the local regions -/

/-- DI and DO fields of the input image, by word address. -/
def dioWord (s : State) (t0 a : Nat) : Word :=
  let half (f : Nat → Bool) : Word := if a % 8 = 0 then maskW f else maskW fun n => f (n + 32)
  let grp (f : Nat → Bool) : Nat := maskN f 4
  if a < 8 then half (diDeb s)
  else if a = 0x08 then maskW fun k => (pairCfg s k).en && (pairOf s k).value
  else if a = 0x0C then maskW fun k => (pairOf s k).fault
  else if a < 0x18 then half (diTpFault s)
  else if a < 0x20 then half (diInvalid s)
  else if a = 0x20 then
    fldF (grp fun g => (tabGet ({} : DiGroup) s.dio.groups g).missing) 0 |||
      fldF (grp fun g => (tabGet ({} : DiGroup) s.dio.groups g).low) 8
  else if a = 0x24 then if s.dio.strobeTs = some t0 then s.dio.lineOld else s.dio.line
  else if a = 0x28 then maskW fun n =>
    let c := dchOf s n
    c.short || c.overload || c.isOpen || c.stuckOn || c.stuckOff
  else if a = 0x2C then
    fldF (grp (cutIsOpen s)) 0 ||| fldF (grp fun g => (dgrpOf s g).aFail || (dgrpOf s g).bFail) 8 |||
      fldF (grp fun g => (dgrpOf s g).overload) 16 ||| bitF s.dio.supMissing 24
  else if a = 0x30 then maskW fun n => (dchOf s n).reqPass
  else if a = 0x34 then maskW fun n => (dchOf s n).reqNotDone
  else 0

/-- State code of a HART channel. -/
def hartCode : HartSt → Nat
  | .off => 0 | .identify => 1 | .cyclic => 2 | .noResponse => 3

/-- Word j of the HART block of input n (R322). -/
def hartWord (s : State) (t0 n j : Nat) : Word :=
  let h := hartOf s n
  if j = 0 then h.pv else if j = 1 then h.sv else if j = 2 then h.tv else if j = 3 then h.qv
  else if j = 4 then h.loopMa else if j = 5 then h.units
  else if j = 6 then fldF (h.resp % 256) 0 ||| fldF (h.fds % 256) 8 ||| fldF (hartCode h.st) 16 ||| fldF (h.cnt % 256) 24
  else match h.lastTs with
    | none => 0xFFFFFFFF
    | some t => w32 (sat32 ((t0 - t) / 1000000))

/-- The output carries its safe current (R320, R321). -/
def loAtSafe (s : State) (n : Nat) : Bool := (aoTarget s n).2 && (loOf s n).delivered == (aoTarget s n).1

/-- Loop fields of the input image, by word address (R322). -/
def loopWord (s : State) (t0 a : Nat) : Word :=
  let (winTs, vals) := loopLatch s t0
  let m (f : Nat → Bool) : Nat := maskN f 16
  let o (f : Nat → Bool) : Nat := maskN f 8
  if a < 0x140 then BitVec.ofInt 32 (tabGet 0 vals ((a - 0x100) / 4))
  else if a = 0x140 then w32 (winTs / 1000000)
  else if a = 0x144 then fldF (m fun n => (liOf s n).faultLow) 0 ||| fldF (m fun n => (liOf s n).faultHigh) 16
  else if a = 0x148 then fldF (m (liInvalid s)) 0 ||| fldF (m fun n => (liOf s n).starved) 16
  else if a = 0x14C then fldF (m fun n => (liCfg s n).supplyEn && buoyServes s 2) 0 ||| fldF (m fun n => (liOf s n).supLimit) 16
  else if a < 0x170 then BitVec.ofInt 32 (loOf s ((a - 0x150) / 4)).rb
  else if a = 0x170 then
    fldF (o fun n => (loOf s n).comp) 0 ||| fldF (o fun n => (loOf s n).rbFault) 8 ||| fldF (o (loAtSafe s)) 16 |||
      fldF (o fun n => decide (24000000 < (loOf s n).cmd)) 24
  else if 0x180 ≤ a ∧ a < 0x380 then hartWord s t0 ((a - 0x180) / 32) (a % 32 / 4)
  else 0

/-- Mode words (R280), by word address. -/
def modeWordAt (s : State) (k a : Nat) (t0 : Nat) : Word :=
  if a = 0x600 then
    fldF (powerCode s.mode.power) 12 ||| bitF (!s.fab.forces.isEmpty) 8 ||| fldF (if s.mode.exec = .proof then 2 else 1) 0
  else if a = 0x604 then
    fldF (taskOf s k).forces.length 16 ||| fldF ((taskOf s k).forces.filter ForcePoint.vital).length 0
  else if a = 0x608 then
    match (taskOf s k).forces.filter ForcePoint.vital with
    | [] => 0xFFFFFFFF
    | f :: fs =>
      let t := fs.foldl (fun m x => min m x.ts) f.ts
      w32 ((t + 28800000000000 - t0) / 1000000000)
  else 0

/-! ### Network regions -/

/-- Writes bytes of the view where the task declares the page. -/
def viewPut (pages : List Nat) (a : Nat) : List Byte → Tab Byte → Tab Byte
  | [], v => v
  | b :: bs, v => viewPut pages (a + 1) bs (if pages.contains (a / 256) then bytePut v a b else v)

/-- The CAN receive slot of filter i of port n as it stands at `cut` (R347, R348). -/
def slotBytes (s : State) (n i : Nat) (cut : Nat) (prev : Option Nat) : List Byte :=
  let c := tabGet ({} : CanSlot) (portOf s n).slots i
  let f := fltOf s n i
  match slotAt c cut with
  | none => wordBytes 0 ++ wordBytes (bitF true 7) ++ List.replicate 72 0
  | some r =>
    let fresh := match prev with
      | none => true
      | some p => decide (p < r.ts)
    rxBytes r fresh (f.timeout != 0 && decide (r.ts + f.timeout * 1000000 < cut))

/-- The FIFO entries of port n that task k's IN moves at `cut` (R349). -/
def fifoDue (s : State) (n cut : Nat) : List CanRx := (portOf s n).fifo.filter fun r => decide (r.ts ≤ cut)

/-- CAN bytes of the snapshot: status blocks, receive slots, and the FIFO windows of task k. -/
def canView (s : State) (k cut : Nat) (pages : List Nat) (v : Tab Byte) : Tab Byte :=
  (List.range 4).foldl (fun v n =>
    let p := portOf s n
    let v := viewPut pages (0x1000 + 32 * n) (canStatusBytes s n) v
    if !p.configured then v
    else
      let v := p.cfg.flts.foldl (fun v (i, f) =>
        if f.en && f.action == 1 then
          viewPut pages (0x1000 + 16 * f.slot) (slotBytes s n i cut (taskOf s k).lastCut) v
        else v) v
      if p.cfg.fifoTask = some k then
        let due := fifoDue s n cut
        let hdr := wordBytes (w32 due.length) ++ wordBytes (w32 p.ovfIn) ++ List.replicate 8 0
        viewPut pages (0x1000 + p.cfg.fifoOff)
          ((hdr ++ due.flatMap (fun r => rxBytes r true false) ++ List.replicate 2560 0).take 2576) v
      else v) v

/-- The receive area of a connection at `cut` (R385). -/
def areaBytes (s : State) (k j : Nat) (c : BeamRxCfg) (cut : Nat) : List Byte :=
  let x := brxOf s j
  let d := x.past.find? fun y => decide (y.1 ≤ cut)
  let a := (d.map Prod.snd).getD {}
  let fresh := match d, (taskOf s k).lastCut with
    | some (t, _), some p => decide (p < t)
    | some _, none => true
    | none, _ => false
  let st := bitF x.stale 0 ||| bitF a.safe 1 ||| bitF a.forced 2 ||| bitF a.holdover 3 ||| bitF d.isNone 4 |||
    bitF fresh 5 ||| fldF (min 255 (tabGet 0 x.lostFor k)) 8
  wordBytes (w32 a.seq) ++ wordBytes (w32 a.ts) ++ wordBytes (w32 (a.ts / 2 ^ 32)) ++ wordBytes st ++
    (a.data ++ List.replicate c.len 0).take c.len

/-- The bytes of one page that a word function gives. -/
def pageBytes (p : Nat) (f : Nat → Word) : List Byte := (List.range 64).flatMap fun i => wordBytes (f (256 * p + 4 * i))

/-- The cuts of task k's cycle for CAN and for Beam: t0 − 2 µs, or t0 for the network that started it (R351, R385). -/
def cutsOf (s : State) (k t0 : Nat) : Nat × Nat :=
  match (taskCfg s k).trigger with
  | .canFilter _ _ => (t0, t0 - 2000)
  | .beamConn _ => (t0 - 2000, t0)
  | _ => (t0 - 2000, t0 - 2000)

/-- The module's own snapshot of task k's declared pages (R40, R213). -/
def ownSnapshot (s : State) (k t0 : Nat) : Tab Byte :=
  let pages := (taskCfg s k).pages
  let put (v : Tab Byte) (p : Nat) (f : Nat → Word) : Tab Byte := bytesPut v (256 * p) (pageBytes p f)
  let v := if pages.contains 0 then put [] 0 (dioWord s t0) else []
  let v := [1, 2, 3].foldl (fun v p => if pages.contains p then put v p (loopWord s t0) else v) v
  let v := put v 6 fun a => modeWordAt s k a t0
  let (cc, cb) := cutsOf s k t0
  let v := canView s k cc pages v
  (brxCfgs s).foldl (fun v (j, c) => viewPut pages c.off (areaBytes s k j c cb) v) v

/-- What the copies of the IN phase consume: FIFO entries and loss counts (R349, R385). -/
def snapshotTaken (k t0 : Nat) (s : State) : State :=
  let (cc, cb) := cutsOf s k t0
  let s := (List.range 4).foldl (fun s n =>
    if (portOf s n).configured ∧ (portOf s n).cfg.fifoTask = some k then
      portMod n (fun p => { p with fifo := p.fifo.filter fun r => !decide (r.ts ≤ cc), ovfIn := 0 }) s
    else s) s
  let s := (brxCfgs s).foldl (fun s (j, _) =>
    { s with beam := { s.beam with rx := tabMod {} s.beam.rx j fun x => { x with lostFor := tabPut 0 x.lostFor k 0 } } }) s
  taskMod k (fun t => { t with lastCut := some (max cc cb) }) s

/-! ### The agreed image (R213 to R216) -/

/-- A bit of a byte table. -/
def bitAt (m : Tab Byte) (base n : Nat) : Bool := (byteAt m (base + n / 8)).getLsbD (n % 8)

/-- rule(ch) for a DI decision or pair value: principal's reading and the other's (R214). -/
def diRule (r : DiRule) (p a : Bool) : Bool × Bool :=
  match r with
  | .principal => (p, false)
  | .conj => (p && a, false)
  | .disj => (p || a, false)
  | .agree => (p && a, p != a)

/-- agree() of R215: value, discrepancy flag, invalid in both. -/
def agreeBit (r : DiRule) (own partner : Bool) (ownInv partnerInv principal : Bool) : Bool × Bool × Bool :=
  if partnerInv then (if ownInv then (false, false, true) else (own, false, false))
  else if ownInv then (partner, false, false)
  else let x := if principal then diRule r own partner else diRule r partner own
    (x.1, x.2, false)

/-- The rule of a loop input on two valid values (R214). -/
def loopRule (c : LoopInCfg) (p a : Int) : Int × Bool :=
  let disc := decide ((c.band : Int) * 1000 < (p - a).natAbs)
  match c.rule with
  | .principal => (p, disc)
  | .low => (min p a, disc)
  | .high => (max p a, disc)
  | .mean => ((p + a).fdiv 2, disc)

/-- agree() for a loop input. -/
def agreeLoop (c : LoopInCfg) (own partner : Int) (ownInv partnerInv principal : Bool) : Int × Bool × Bool :=
  if partnerInv then (if ownInv then (0, false, true) else (own, false, false))
  else if ownInv then (partner, false, false)
  else let x := if principal then loopRule c own partner else loopRule c partner own
    (x.1, x.2, false)

/-- Twin status words (R216) of a cycle: `alone` when the partner is absent. -/
def twinWords (s : State) (alone : Bool) (di : Nat → Bool × Bool × Bool) (li : Nat → Int × Bool × Bool) : List Word :=
  let pr := s.mode.role == .principal
  let node := if pr || alone then s.id.node else s.twin.cfg.partnerNode
  let rejoin := s.mode.role == .rejoining || s.twin.partnerRole == .rejoining
  [fldF (node % 2 ^ 14) 0 ||| bitF (!alone) 16 ||| bitF alone 17 ||| bitF rejoin 18,
   w32 (if pr || alone then s.twin.epoch else s.twin.partnerEpoch),
   maskW (fun n => (di n).2.1), maskW (fun n => (di (n + 32)).2.1),
   fldF (maskN (fun n => (li n).2.1) 16) 0,
   maskW (fun n => (di n).2.2), maskW (fun n => (di (n + 32)).2.2),
   fldF (maskN (fun n => (li n).2.2) 16) 0]

/-- The words of DI fields that are ORed, and of those the principal gives (R302). -/
def orWords : List Nat := [0x0C, 0x10, 0x14, 0x20, 0x24, 0x28, 0x2C, 0x144, 0x14C]

/-- Replaces the words at some addresses. -/
def setWords (v : Tab Byte) (l : List (Nat × Word)) : Tab Byte := l.foldl (fun v (a, w) => wordPut v a w) v

/-- The 64-bit instant of a receive slot's bytes. -/
def rxTs (m : Tab Byte) (a : Nat) : Nat := (wordAt m (a + 8)).toNat + (wordAt m (a + 12)).toNat * 2 ^ 32

/-- The agreed image of task k from the own snapshot and the partner's (R214); both hold the declared pages. -/
def agreedView (s : State) (k : Nat) (own par : Tab Byte) : Tab Byte :=
  let pr := s.mode.role == .principal
  let main := if pr then own else par
  let pages := (taskCfg s k).pages
  let inv (m : Tab Byte) (n : Nat) : Bool := bitAt m 0x18 n
  let di (n : Nat) : Bool × Bool × Bool :=
    agreeBit (diCfg s n).rule (bitAt own 0 n) (bitAt par 0 n) (inv own n) (inv par n) pr
  let pair (j : Nat) : Bool :=
    (agreeBit (diCfg s (2 * j)).rule (bitAt own 8 j) (bitAt par 8 j) (inv own (2 * j)) (inv par (2 * j)) pr).1
  let li (n : Nat) : Int × Bool × Bool :=
    agreeLoop (liCfg s n) (wordAt own (0x100 + 4 * n)).toInt (wordAt par (0x100 + 4 * n)).toInt
      (bitAt own 0x148 n) (bitAt par 0x148 n) pr
  let ored (a : Nat) : Nat × Word := (a, wordAt own a ||| wordAt par a)
  let v := if pages.contains 0 then
      setWords main ([(0, maskW fun n => (di n).1), (4, maskW fun n => (di (n + 32)).1), (8, maskW pair),
        (0x18, wordAt own 0x18 &&& wordAt par 0x18), (0x1C, wordAt own 0x1C &&& wordAt par 0x1C)] ++
        (orWords.filter (· < 0x100)).map ored)
    else main
  let v := if pages.contains 1 then
      setWords v ((List.range 16).map (fun n => (0x100 + 4 * n, BitVec.ofInt 32 (li n).1)) ++
        [ored 0x144, ored 0x14C,
         (0x148, ((wordAt own 0x148 &&& wordAt par 0x148) &&& 0xFFFF) ||| ((wordAt own 0x148 ||| wordAt par 0x148) &&& 0xFFFF0000))])
    else v
  let take (a n : Nat) (useOwn : Bool) (v : Tab Byte) : Tab Byte :=
    viewPut pages a (bytesAt (if useOwn then own else par) a n) v
  let v := (List.range 4).foldl (fun v n =>
    if !(portOf s n).configured then v
    else (portOf s n).cfg.flts.foldl (fun v (_, f) =>
      if f.en && f.action == 1 then
        let a := 0x1000 + 16 * f.slot
        let tOwn := rxTs own a
        let tp := rxTs par a
        take a 80 (match f.rule with
          | .principal => pr
          | .newest => decide (tp < tOwn) || (tp == tOwn && pr)) v
      else v) v) v
  let v := (brxCfgs s).foldl (fun v (_, c) =>
    let d := wordAt own c.off - wordAt par c.off
    take c.off (16 + c.len) (match c.rule with
      | .principal => pr
      | .newest => decide (0 < d.toInt) || (d == 0 && pr)) v) v
  setWords v (((List.range 8).zip (twinWords s false (if pages.contains 0 then di else fun _ => (false, false, false))
    (if pages.contains 1 then li else fun _ => (0, false, false)))).map fun (i, w) => (0x680 + 4 * i, w))

/-- The image formed as if the partner were absent (R213, R215). -/
def aloneView (s : State) (k : Nat) (own : Tab Byte) : Tab Byte :=
  let pages := (taskCfg s k).pages
  let di (n : Nat) : Bool × Bool × Bool :=
    if pages.contains 0 then agreeBit .principal (bitAt own 0 n) false (bitAt own 0x18 n) true true else (false, false, false)
  let li (n : Nat) : Int × Bool × Bool :=
    if pages.contains 1 then agreeLoop {} (wordAt own (0x100 + 4 * n)).toInt 0 (bitAt own 0x148 n) true true
    else (0, false, false)
  let v := if pages.contains 0 then
      setWords own [(0, maskW fun n => (di n).1), (4, maskW fun n => (di (n + 32)).1)] else own
  let v := if pages.contains 1 then
      setWords v ((List.range 16).map fun n => (0x100 + 4 * n, BitVec.ofInt 32 (li n).1)) else v
  setWords v (((List.range 8).zip (twinWords s true di li)).map fun (i, w) => (0x680 + 4 * i, w))

/-! ### Task status and forcing (R39, R275) -/

/-- Word j of the status block of task k (R39). -/
def statusWord (s : State) (k j : Nat) : Word :=
  let t := taskOf s k
  if !t.started then 0
  else if j = 0 then w32 t.cycle
  else if j = 1 then w32 t.start
  else if j = 2 then w32 (t.start / 2 ^ 32)
  else if j = 3 then w32 (sat32 t.lateUs)
  else if j = 4 then w32 (sat32 t.overrunCnt)
  else if j = 5 then w32 (sat32 t.skipCnt)
  else if j = 6 then w32 (sat32 t.lostCnt)
  else
    bitF t.pendFlag 7 ||| bitF (!t.forces.isEmpty) 6 ||| bitF (t.first == .rejoin) 5 ||| bitF (t.first == .warm) 4 |||
      bitF (t.first == .cold) 3 ||| bitF t.skipFlag 2 ||| bitF t.late 1 ||| bitF t.overFlag 0

/-- The status blocks of all 16 tasks in a view (R36, R39). -/
def statusBlocks (s : State) (v : Tab Byte) : Tab Byte :=
  setWords v ((List.range 16).flatMap fun k => (List.range 8).map fun j => (0x400 + 32 * k + 4 * j, statusWord s k j))

/-- Sets or clears a bit of a byte table. -/
def bitPut (v : Tab Byte) (base n : Nat) (b : Bool) : Tab Byte :=
  let m : Byte := BitVec.ofNat 8 (2 ^ (n % 8))
  let x := byteAt v (base + n / 8)
  bytePut v (base + n / 8) (if b then x ||| m else x &&& ~~~m)

/-- Input forcing on a view (R275). -/
def forceView (s : State) (k : Nat) (v : Tab Byte) : Tab Byte :=
  let pages := (taskCfg s k).pages
  (taskOf s k).forces.foldl (fun v f =>
    if f.kind = 0 ∧ pages.contains 0 then bitPut v 0 f.index (f.value.getLsbD 0)
    else if f.kind = 1 ∧ pages.contains 0 then bitPut v 8 f.index (f.value.getLsbD 0)
    else if f.kind = 3 ∧ pages.contains 1 then wordPut v (0x100 + 4 * f.index) f.value
    else if f.kind = 5 ∧ f.index < 0x10000 ∧ pages.contains (f.index / 256) then wordPut v f.index f.value
    else v) v

/-- The view of task k from an agreed or own image: forcing, then status blocks. -/
def finishView (s : State) (k : Nat) (v : Tab Byte) : Tab Byte := statusBlocks s (forceView s k v)

end Sys2Proof.Machine
end

