-- ==== Sys2Proof/Machine/Restart.lean ====
section
/-!
DEFINITION. Restarts (R58 to R60, R74, R153, R154): the initial state of a task's variables, blocks, slots and outputs,
and retain values from a save.
-/
namespace Sys2Proof.Machine

/-- The source of a task's events: the lowest gallery of its sector (R62; assumption log, entry 22). -/
def taskSrc (s : State) (k : Nat) : Nat := match sectorGals s (taskCfg s k).sector with
  | [] => 0
  | g :: _ => 0x10 + g

/-- A D-space address with its gallery in the bits above 31, as the image's retain ranges and mapping entries carry it
(assumption log, entry 10). -/
def dAddrPlace (a : Nat) : Option DPlace :=
  let g := a / 2 ^ 32
  let o := a % 2 ^ 32
  if 0x100000 ≤ o ∧ o < 0x180000 ∧ g < 16 then some ⟨2, g, o - 0x100000⟩
  else if 0x1000000 ≤ o ∧ o < 0x1800000 then some ⟨4, 0, o - 0x1000000⟩
  else none

/-- `n` bytes of D-space variables from an address with its gallery. -/
def dBytes (s : State) (a n : Nat) : List Byte := match dAddrPlace a with
  | none => []
  | some p => bytesAt (dMem s p) p.off n

/-- Writes bytes of D-space variables. -/
def dBytesPut (a : Nat) (bs : List Byte) (s : State) : State := match dAddrPlace a with
  | none => s
  | some p =>
    if p.mem = 2 then galMod p.unit (fun x => { x with data := bytesPut x.data p.off bs }) s
    else { s with fab := { s.fab with gmem := bytesPut s.fab.gmem p.off bs } }

/-- The task a page belongs to. -/
def pageTask : PageUse → Option Nat
  | .unassigned => none
  | .task k => some k
  | .exchange k => some k

/-- The place of a data page by its key (R67). -/
def pagePlace (key : Nat) : DPlace :=
  if key < 65536 then ⟨2, key / 2048, 256 * (key % 2048)⟩ else ⟨4, 0, 256 * (key - 65536)⟩

/-- The initial content of a data page. -/
def pageInit (p : ProgImage) (key : Nat) : List Byte :=
  let q := pagePlace key
  bytesAt (if q.mem = 2 then (tabGet {} p.gal q.unit).data else p.gmem) q.off 256

/-- Writes a data page. -/
def pagePut (key : Nat) (bs : List Byte) (s : State) : State :=
  let q := pagePlace key
  if q.mem = 2 then galMod q.unit (fun x => { x with data := bytesPut x.data q.off bs }) s
  else { s with fab := { s.fab with gmem := bytesPut s.fab.gmem q.off bs } }

/-- The data pages of task k. -/
def taskPages (p : ProgImage) (k : Nat) : List (Nat × PageUse) :=
  p.pages.filter fun (key, u) => decide (key < 131072) && pageTask u == some k

/-- The timer/counter blocks of task k. -/
def taskBlocks (p : ProgImage) (k : Nat) : List Nat :=
  (p.pages.filter fun (key, u) => decide (131072 ≤ key) && pageTask u == some k).flatMap fun (key, _) =>
    (List.range 16).map fun j => 16 * (key - 131072) + j

/-- The output bytes of task k. -/
def taskOuts (p : ProgImage) (k : Nat) : List Nat :=
  ((p.outOwners.filter fun o => o.task == k).flatMap fun o => (List.range o.len).map fun j => o.off + j).filter
    fun o => !outReserved o

/-- A slot before the first cycle (R74). -/
def slotCold (p : ProgImage) (c : SlotCfg) : Slot :=
  { value := c.init, epoch := 255, ord := c.width, quota := chartQuota (tabGet [] p.chart c.owner) c.slot c.width c.width
    token := c.token, owner := c.owner }

/-- A retain block as a warm restart writes it (R153, R154). -/
def tcWarm (c : TimerCfg) (r : RetainBlock) : TcBlock :=
  let timer := c.kind = .ton ∨ c.kind = .tof ∨ c.kind = .tp
  { tcCold c with elapsed := r.elapsed, q := r.q, inp := r.inp, pulse := decide timer && r.pulse, new := !decide timer }

/-- Commits the exchange pages of task k as they stand (R69). -/
def exCommit (k : Nat) (s : State) : State := match s.img with
  | none => s
  | some p =>
    (p.pages.filter fun (key, u) => decide (key < 131072) && u == .exchange k).foldl (fun s (key, _) =>
      let q := pagePlace key
      { s with fab := { s.fab with exPub := bytesPut s.fab.exPub (256 * key) (bytesAt (dMem s q) q.off 256) } }) s

/-- The retain region as one string (R510). -/
def retainBytes (s : State) (p : ProgImage) : List Byte := p.retain.flatMap fun (a, n) => dBytes s a n

/-- The bytes of the retain ranges of task k, from offset `off` of a save. -/
def retainPut (p : ProgImage) (k : Nat) (m : Tab Byte) : Nat → List (Nat × Nat) → State → State
  | _, [], s => s
  | off, (a, n) :: rs, s =>
    let mine := match dAddrPlace a with
      | some q => pageTask (tabGet .unassigned p.pages (dPage q)) == some k
      | none => false
    retainPut p k m (off + n) rs (if mine then dBytesPut a (bytesAt m off n) s else s)

/-- A restart of task k (R58): its state, and its outputs at their safe values; `next` is its first grid instant at or
after an instant. -/
def restartTask (p : ProgImage) (k : Nat) (first : FirstKind) (src : Option RetArea) (after : Nat) (s : State) : State :=
  let s := (taskPages p k).foldl (fun s (key, _) => pagePut key (pageInit p key) s) s
  let s := match src with
    | some a => retainPut p k a.data 0 p.retain s
    | none => s
  let s := (taskBlocks p k).foldl (fun s b =>
    let c := tabGet ({} : TimerCfg) p.timers b
    let x := match (src.map RetArea.blocks).bind fun l => l.find? fun r => r.block == b with
      | some r => if c.retain then tcWarm c r else tcCold c
      | none => tcCold c
    { s with fab := { s.fab with blocks := tabPut {} s.fab.blocks b (if c.kind = .unused then {} else x) } }) s
  let s := (p.slots.filter fun c => c.owner == k).foldl (fun s c => slotMod c.slot (fun _ => slotCold p c) s) s
  let safe := (taskOuts p k).map fun o => (o, byteAt p.safeOut o)
  let s := { s with fab := { s.fab with outImg := safe.foldl (fun m (o, b) => bytePut m o b) s.fab.outImg } }
  let s := exCommit k s
  taskMod k (fun t => {
    mode := .running, first := first, work := safe.foldl (fun m (o, b) => bytePut m o b) [], outForces := t.outForces
    nextAt := if isCyclic k then some (gridAt (tabGet {} p.tasks k) after) else none }) s

/-- The task's commands have no effect until its first strobe; its connections open anew (R58, R378). -/
def taskRestart (k : Nat) (first : FirstKind) (src : Option RetArea) (after : Nat) (s : State) : State :=
  match s.img with
  | none => s
  | some p => aoUpdate (latchUpdate (beamOpen k (restartTask p k first src after s)))

/-- The retain source of a warm restart (R59): the power-down or stop save of the most recent run, else its newest
snapshot. RUN_NUMBER is counter 6. -/
def retainSource (s : State) : Option RetArea :=
  let run := counterGet s 6
  let lay := (s.img.map ProgImage.layout).getD 0
  let l := [s.nvm.areaA, s.nvm.areaB].filter fun a => a.valid && a.crcOk && a.run == run && a.layout == lay
  match l.find? fun a => a.kind == 1 || a.kind == 2 with
  | some a => some a
  | none => l.foldl (fun b a => match b with
    | none => some a
    | some x => if x.gen < a.gen then some a else some x) none

/-- The reason of WARM_FALLBACK_COLD (R60): 1 none found, 2 check failed, 3 layout mismatch. -/
def fallbackReason (s : State) : Nat :=
  let run := counterGet s 6
  let lay := (s.img.map ProgImage.layout).getD 0
  let l := [s.nvm.areaA, s.nvm.areaB].filter fun a => a.valid && a.run == run
  if l.any fun a => a.crcOk && a.layout != lay then 3 else if l.any fun a => !a.crcOk then 2 else 1

end Sys2Proof.Machine
end

