-- ==== Sys2Proof/Machine/RegsMod.lean ====
section
/-!
DEFINITION. Register windows MOD_, MBX_, CLK_, WDG_ and RTC_ (R15, R21 to R24, R413, R434, R548, R549): the value of
each register, by its offset in the window.
-/
namespace Sys2Proof.Machine

/-- The running firmware's slot (R22). -/
def fwActive (s : State) : FwSlot := if s.fw.active then s.fw.slotB else s.fw.slotA
/-- The other slot. -/
def fwInactive (s : State) : FwSlot := if s.fw.active then s.fw.slotA else s.fw.slotB

/-- MOD_TYPE. -/
def modType (s : State) : Word :=
  fldF 0x5124 16 ||| fldF (if s.id.variantV then 0x56 else 0x4E) 8 ||| fldF s.id.hwRev.toNat 0

/-- MOD_FW_SLOT. -/
def modFwSlot (s : State) : Word := bitF s.fw.inactiveValid 8 ||| bitF s.fw.active 0

/-- At least one unit is in a view conflict (R433). -/
def viewAny (s : State) : Bool := s.kp.views.any ViewState.conflict

/-- MOD_STATUS (R21). -/
def modStatus (s : State) : Word :=
  bitF (s.id.variantV && s.twin.locked) 10 ||| bitF (viewAny s) 9 |||
    bitF ((List.range 3).any fun b => (sockOf s b).eol) 8 ||| bitF ((List.range 3).any fun b => (sockOf s b).maint) 7 |||
    bitF (s.sec.margCount != 0) 6 ||| bitF s.rcd.degraded 5 ||| bitF (timeQualified s) 4 ||| bitF s.pwr.holdup 3 |||
    bitF s.pwr.b.ok 2 ||| bitF s.pwr.a.ok 1 ||| bitF s.mode.safeLatched 0

/-- Ranges of a gallery in service. -/
def inServiceCnt (s : State) (g : Nat) : Nat :=
  ((List.range 16).filter fun r => (rangeOf s g r).st == .inService).length

/-- MOD_UNITS (R24). -/
def modUnits (s : State) : Word :=
  bitF s.id.variantV 24 ||| fldF (maskN (fun b => buoyAuth s b) 3) 16 |||
    fldF (maskN (fun g => decide (0 < inServiceCnt s g)) 16) 0

/-- The MOD_ window (R21). -/
def regMod (s : State) (o : Nat) : Word :=
  if o = 0x00 then modType s
  else if o = 0x04 then w32 s.id.serial.toNat
  else if o = 0x08 then w32 (s.id.serial.toNat / 2 ^ 32)
  else if o = 0x0C then w32 s.id.node
  else if o = 0x10 then (fwActive s).keeperVer
  else if o = 0x14 then (fwActive s).lroomVer
  else if o = 0x18 then modFwSlot s
  else if o = 0x20 then modeWord s
  else if o = 0x24 then modStatus s
  else if o = 0x28 then modUnits s
  else if o = 0x2C then w32 s.kp.epoch
  else 0

/-- The port with CMD_EN, if any (R360). -/
def cmdPort (s : State) : Option Nat := (List.range 4).find? fun n => (portOf s n).configured && (portOf s n).cfg.cmdEn

/-- MBX_m_BIND.ROLE (R474). -/
def roleNum : Role → Nat
  | .viewer => 0 | .operator => 1 | .engineer => 2 | .securityOfficer => 3 | .vendorService => 4

/-- MBX_m_BIND of a host mailbox (R434). -/
def mbxBind (s : State) (m : Nat) : Word :=
  let x := mbxOf s m
  if m < 8 then
    bitF x.session.isSome 31 ||| bitF x.retainUntil.isSome 30 |||
      (if x.session.isSome || x.retainUntil.isSome then fldF (roleNum x.role) 16 ||| fldF x.port 8 else 0) |||
      (match x.retainUntil with
       | some t => fldF (min 255 ((t - now s + 999999999) / 1000000000)) 0
       | none => 0)
  else 0

/-- A unit's conflict flag. -/
def viewConflict (s : State) (u : UnitName) : Bool := s.kp.views.any fun v => v.name == u && v.conflict

/-- Mailbox registers of mailbox m (R434). -/
def regMbxM (s : State) (m o : Nat) : Word :=
  let x := mbxOf s m
  if o < 0x40 then x.tk.words.getD (o / 4) 0
  else if o = 0x40 then ackWord x.tk.ack
  else if o = 0x44 then flagsByte x.tk false false ||| fldF x.tk.collCnt 8
  else if 0x80 ≤ o ∧ o < 0xC0 then x.fk.words.getD ((o - 0x80) / 4) 0
  else if o = 0xC0 then ackWord x.fk.ack
  else if o = 0xC4 then flagsByte x.fk (pollOnly m) (wakeEn s m) ||| fldF x.fk.collCnt 8
  else if o = 0xC8 then w32 x.fkEpoch
  else if o = 0xCC then mbxBind s m
  else 0

/-- The MBX_ window (R434). -/
def regMbx (s : State) (o : Nat) : Word :=
  if o = 0x000 then
    fldF (maskN (fun m => (mbxOf s m).retainUntil.isSome) 8) 24 ||| fldF (maskN (fun m => (mbxOf s m).session.isSome) 8) 16 |||
      fldF (min 64 s.kp.queue.length) 8 ||| fldF ((cmdPort s).getD 0) 2 |||
      bitF (cmdPort s).isSome 1 ||| bitF s.kp.ready 0
  else if o = 0x004 then w32 s.kp.epoch
  else if o = 0x008 then fldF (maskN (fun g => viewConflict s (.gallery g)) 16) 0
  else if o = 0x00C then
    fldF (maskN (fun b => viewConflict s (.buoy b)) 3) 0 ||| bitF (viewConflict s .partner) 8 |||
      bitF (s.kp.views.any fun v => v.conflict && match v.name with
        | .range _ _ => true
        | _ => false) 16
  else if o = 0x010 then match s.kp.lastRange with
    | some (g, r) => bitF true 31 ||| fldF g 8 ||| fldF r 4
    | none => 0
  else if o = 0x040 then w32 s.kp.collisionCnt
  else if o = 0x044 then w32 s.kp.unitDownCnt
  else if o = 0x048 then w32 s.kp.restartCnt
  else if o = 0x04C then w32 s.kp.busyRestartCnt
  else if o = 0x050 then w32 s.kp.noteCnt
  else if o = 0x054 then w32 s.kp.ackIgnored
  else if o = 0x058 then w32 s.kp.canReject
  else if o = 0x05C then w32 s.kp.viewConflictCnt
  else if 0x1000 ≤ o ∧ o < 0x1000 + 0x100 * 26 then regMbxM s ((o - 0x1000) / 256) (o % 256)
  else 0

/-- The CLK_ window (R548). -/
def regClk (s : State) (o : Nat) : Word :=
  let c := s.clk
  if o = 0x000 then bitF c.xtal 4 ||| bitF c.tcxo 3 ||| bitF c.rc 2 ||| bitF c.periph 1 ||| bitF c.root 0
  else if o = 0x004 then c.en.zeroExtend 32
  else if o = 0x008 then bitF s.wdg.clkRc 0
  else if o = 0x00C then c.rcDev.zeroExtend 32
  else if o = 0x010 then match c.measSel with
    | some (a, b, _) => fldF a 0 ||| fldF b 8
    | none => 0
  else if o = 0x014 then match c.measSel with
    | some (_, _, g) => w32 g
    | none => 0
  else if o = 0x018 then c.measCnt
  else if o = 0x01C then c.measRef
  else if o = 0x020 then w32 c.measSeq
  else if o = 0x040 then w32 c.gatedCnt
  else if o = 0x044 then w32 c.rcFaultCnt
  else 0

/-- Watchdog resets of the last 3,600 s (R538). -/
def wdgRepeat (s : State) : Nat := (s.wdg.history.filter fun t => decide (now s ≤ t + 3600000000000)).length

/-- WDG_STATUS.WINDOW. -/
def windowCode : WdgWindow → Nat
  | .timeout => 0 | .boot => 1 | .restart => 2

/-- The WDG_ window (R549). -/
def regWdg (s : State) (o : Nat) : Word :=
  let w := s.wdg
  let p := s.pwr
  if o = 0x000 then
    bitF w.supB 7 ||| bitF w.supA 6 ||| bitF w.repeatHold 5 ||| bitF w.monOk 4 ||| fldF (windowCode w.window) 1 ||| bitF w.armed 0
  else if o = 0x004 then fldF w.timeoutMs 0 ||| bitF w.setRc 16
  else if o = 0x008 then w32 (sat32 ((w.deadline - now s) / 1000))
  else if o = 0x00C then w32 w.resetCnt
  else if o = 0x010 then fldF (min 3 (wdgRepeat s)) 8 ||| fldF w.cause 0
  else if o = 0x014 then w32 w.rstTs
  else if o = 0x020 then w32 w.kickCnt
  else if o = 0x100 then w32 p.a.mv
  else if o = 0x104 then w32 p.b.mv
  else if o = 0x108 then w32 p.bankMv
  else if o = 0x10C then
    fldF (powerCode s.mode.power) 6 ||| bitF p.holdup 4 ||| bitF p.b.disc 3 ||| bitF p.a.disc 2 ||| bitF p.b.ok 1 ||| bitF p.a.ok 0
  else if o = 0x110 then w32 p.lossCnt
  else if o = 0x114 then w32 p.overCnt
  else if o = 0x118 then w32 p.discCnt
  else 0

/-- RTC_DATE and RTC_TIME of a calendar. -/
def dateWord (c : Cal) : Word := fldF c.year 16 ||| fldF c.mon 8 ||| fldF c.day 0
/-- Its time word. -/
def timeWord (c : Cal) : Word := fldF c.hour 16 ||| fldF c.min 8 ||| fldF c.sec 0

/-- An RTC alarm's registers (R413). -/
def regAlarm (a : Alarm) (o : Nat) : Word :=
  if o = 0 then fldF a.hour 16 ||| fldF a.min 8 ||| fldF a.sec 0
  else if o = 4 then fldF a.wday 16 ||| fldF a.mon 8 ||| fldF a.day 0
  else if o = 8 then bitF a.en 31 ||| bitF a.fired 30 ||| bitF a.onBackup 29 ||| fldF a.mask 0
  else 0

/-- RTC_STATUS. -/
def rtcStatus (s : State) : Word :=
  let r := s.rtc
  let f (k : Nat) : Bool := (tabGet ({} : Alarm) r.alms k).fired
  bitF r.firstValid 7 ||| bitF r.cellLow 6 ||| fldF r.supply 4 ||| bitF (f 1) 3 ||| bitF (f 0) 2 ||| bitF r.wrapped 1 |||
    bitF r.valid 0

/-- The RTC_ window (R413). -/
def regRtc (s : State) (o : Nat) : Word :=
  let r := s.rtc
  if o = 0x000 then rtcStatus s
  else if o = 0x004 then w32 r.sub
  else if o = 0x008 then timeWord r.cal
  else if o = 0x00C then dateWord r.cal
  else if o = 0x010 then w32 r.wday
  else if o = 0x014 then match r.shift with
    | some k => bitF true 31 ||| (BitVec.ofInt 16 k).zeroExtend 32
    | none => 0
  else if 0x020 ≤ o ∧ o < 0x040 then regAlarm (tabGet {} r.alms ((o - 0x20) / 16)) (o % 16)
  else if o = 0x044 then w32 r.bkpCnt
  else if o = 0x048 then timeWord r.firstCal
  else if o = 0x04C then dateWord r.firstCal
  else if o = 0x050 then w32 r.firstSub
  else if o = 0x060 then w32 r.cellMv
  else if o = 0x064 then w32 r.capMv
  else if o = 0x080 then w32 r.syncCnt
  else 0

end Sys2Proof.Machine
end

