-- ==== Sys2Proof/Machine/RegsNvm.lean ====
section
/-!
DEFINITION. Records and the last-light record as bytes (R517, R523), the retain areas, and the register windows NVM_ and
EVR_ (R525, R526).
-/
namespace Sys2Proof.Machine

/-- Bytes 4 to 43 of the last-light record (R523). -/
def llHead (l : LastLight) : List Byte :=
  item32 (b2n l.valid + 2 * b2n l.copied + 256 * min 255 l.lost) ++ item32 l.seq ++ item64 l.ts ++ item32 l.cause ++
    item32 l.page ++ item32 l.staged ++ (List.range 3).flatMap fun i => item32 (l.modes.getD i 0).toNat

/-- PENDING of the last-light record: 208 bytes. -/
def llPending (l : LastLight) : List Byte := (l.pend ++ List.replicate 208 0).take 208

/-- The 256 bytes of the last-light register; all 0 before the first failure (R523). -/
def llBytes (l : LastLight) : List Byte :=
  if l.valid || l.copied then
    let b := item32 0x4C4C0001 ++ llHead l ++ llPending l
    b ++ item32 (crc32 b).toNat
  else List.replicate 256 0

/-- The word of four bytes, the first in [31:24]. -/
def wordBE (l : List Byte) (i : Nat) : Word := l.getD i 0 ++ l.getD (i + 1) 0 ++ l.getD (i + 2) 0 ++ l.getD (i + 3) 0

/-- GEN `a` is after GEN `b`, by modular difference. -/
def genAfter (a b : Nat) : Bool := let d := (a + 2 ^ 32 - b) % 2 ^ 32; decide (0 < d) && decide (d < 2 ^ 31)

/-- A valid area (R511). -/
def areaOk (a : RetArea) : Bool := a.valid && a.crcOk

/-- The newer valid area: 0 A, 1 B, none when neither is valid (R512). -/
def areaNewer (s : State) : Option Nat :=
  match areaOk s.nvm.areaA, areaOk s.nvm.areaB with
  | false, false => none
  | true, false => some 0
  | false, true => some 1
  | true, true => if genAfter s.nvm.areaB.gen s.nvm.areaA.gen then some 1 else some 0

/-- An area. -/
def areaOf (s : State) (a : Nat) : RetArea := if a = 0 then s.nvm.areaA else s.nvm.areaB

/-- Changes an area. -/
def areaMod (a : Nat) (f : RetArea → RetArea) (s : State) : State :=
  if a = 0 then { s with nvm := { s.nvm with areaA := f s.nvm.areaA } }
  else { s with nvm := { s.nvm with areaB := f s.nvm.areaB } }

/-- Pages queued in a class. -/
def queuedPages (s : State) (cls : Nat) : Nat :=
  (s.nvm.jobs.filter fun j => j.cls == cls).foldl (fun n j => n + j.pages.length) 0

/-- Registers of a retain area (R525). -/
def regArea (s : State) (a o : Nat) : Word :=
  let x := areaOf s a
  let lay := (s.img.map ProgImage.layout)
  if o = 0x00 then
    bitF (areaOk x) 31 ||| bitF x.writing 30 ||| bitF (areaNewer s == some a) 29 ||| bitF (lay == some x.layout) 28 ||| fldF x.kind 24
  else if o = 0x04 then w32 x.run
  else if o = 0x08 then w32 x.gen
  else if o = 0x0C then w32 x.layout
  else if o = 0x10 then w32 x.ts
  else if o = 0x18 then w32 x.length
  else 0

/-- The NVM_ window (R525). -/
def regNvm (s : State) (o : Nat) : Word :=
  let n := s.nvm
  let kindIn (l : List Nat) : Bool := match n.capture with
    | some c => l.contains c.kind
    | none => false
  if o = 0x000 then
    bitF n.mediaFault 5 ||| bitF n.zeroing 4 ||| bitF (kindIn [3, 4, 5]) 3 ||| bitF (kindIn [1, 2]) 2 |||
      bitF n.recovered 1 ||| bitF n.ready 0
  else if o = 0x004 then
    fldF (maskN (fun b => n.jobs.any fun j => j.pages.any fun p => p.1 / 256 % 16 == b) 16) 0
  else if o = 0x008 then
    fldF (min 255 (queuedPages s 0)) 0 ||| fldF (min 255 (queuedPages s 1)) 8 ||| fldF (min 255 (queuedPages s 2)) 16
  else if o = 0x00C then
    match n.jobs.find? fun j => match j.work with
      | .journal _ => true
      | _ => false with
    | some j => bitF j.complete 31 ||| fldF (min 255 j.pages.length) 0
    | none => 0
  else if o = 0x010 then w32 (counterGet s 6)
  else if o = 0x014 then fldF n.snapPeriod 0
  else if o = 0x018 then match n.lastFail with
    | some p => bitF true 31 ||| fldF (p % 2 ^ 22) 0
    | none => 0
  else if 0x020 ≤ o ∧ o < 0x060 then regArea s ((o - 0x20) / 0x20) ((o - 0x20) % 0x20)
  else if o = 0x080 then w32 n.commitCnt
  else if o = 0x084 then w32 n.retryCnt
  else if o = 0x088 then w32 n.pageFailCnt
  else if o = 0x08C then w32 n.recDone
  else if o = 0x090 then w32 n.recRoll
  else if o = 0x094 then w32 n.saveCnt
  else if o = 0x098 then w32 n.snapCnt
  else if o = 0x09C then w32 n.saveUs
  else 0

/-- SEQ `a` does not precede SEQ `b`, by modular difference. -/
def seqGe (a b : Nat) : Bool := decide ((a + 2 ^ 32 - b) % 2 ^ 32 < 2 ^ 31)

/-- SEQ of the newest record staged. -/
def newestSeq (s : State) : Nat := (s.rcd.nextSeq + 2 ^ 32 - 1) % 2 ^ 32

/-- The oldest valid sequence number: the ring's first record, not below the floor (R519). -/
def oldestSeq (s : State) : Nat :=
  match s.rcd.ring with
  | r :: _ => if seqGe r.rcd.seq s.rcd.floor then r.rcd.seq else s.rcd.floor
  | [] => match s.rcd.staged with
    | r :: _ => if seqGe r.seq s.rcd.floor then r.seq else s.rcd.floor
    | [] => s.rcd.floor

/-- Pages of the ring in use. -/
def ringPages (s : State) : Nat :=
  ((s.rcd.ring.flatMap fun r => pagesOf r.off (recLen r.rcd)).eraseDups).length

/-- The EVR_ window (R526). -/
def regEvr (s : State) (o : Nat) : Word :=
  let r := s.rcd
  if o = 0x000 then
    bitF (r.buckets.any fun b => b.2.suppressed != 0) 5 ||| bitF r.clearing 4 ||| bitF r.ll.copied 3 ||| bitF r.ll.valid 2 |||
      bitF r.degraded 1 ||| bitF r.ready 0
  else if o = 0x004 then w32 (newestSeq s)
  else if o = 0x008 then w32 (oldestSeq s)
  else if o = 0x00C then w32 r.floor
  else if o = 0x010 then fldF (recBytes r.staged) 0
  else if o = 0x014 then fldF (ringPages s) 0 ||| fldF r.badPages.length 16
  else if o = 0x018 then match r.volRing with
    | x :: _ => w32 x.seq
    | [] => 0
  else if o = 0x01C then 0x0014000A
  else if o = 0x040 then w32 r.recCnt
  else if o = 0x044 then w32 r.suppressCnt
  else if o = 0x048 then w32 r.summaryCnt
  else if o = 0x04C then w32 r.overwriteCnt
  else if o = 0x050 then w32 r.damagedCnt
  else if o = 0x054 then w32 r.volCnt
  else if o = 0x058 then w32 r.clearCnt
  else if 0x100 ≤ o ∧ o < 0x200 then wordBE (llBytes r.ll) (o - 0x100)
  else 0

end Sys2Proof.Machine
end

