-- ==== Sys2Proof/Machine/Retain.lean ====
section
/-!
DEFINITION. Retain captures (R61, R510 to R512, R515, R516): the consistent instant, what is captured, and the start of a
save or snapshot. GEND stands here because a rung group's end may be the instant a snapshot waits for.
-/
namespace Sys2Proof.Machine

/-- Some task has RETAIN = 1. -/
def anyRetain (s : State) : Bool := (tasksUsed s).any fun k => (taskCfg s k).retain

/-- The instant meets R61: no range is inside a rung group of a task with RETAIN = 1, and its stores have all landed. -/
def retainReady (s : State) : Bool := s.fab.lamps.all fun x =>
  (x.2.mode == .idle || !(taskCfg s x.2.task).retain) && x.2.drain.all fun e => !(taskCfg s e.task).retain

/-- The retain blocks of a program with their state, in ascending block order (R510). -/
def retainBlocks (s : State) (p : ProgImage) : List RetainBlock :=
  (p.timers.filter fun x => x.2.retain && x.2.kind != .unused).map fun x =>
    let b := tabGet ({} : TcBlock) s.fab.blocks x.1
    { block := x.1, elapsed := b.elapsed, q := b.q, inp := b.inp, pulse := b.pulse }

/-- The area the next save or snapshot writes (R512). -/
def retainTarget (s : State) : Nat := match areaNewer s with
  | some 0 => 1
  | _ => 0

/-- The retain region as it stands. -/
def retainCapture (kind : Nat) (reqs : List Req) (s : State) (p : ProgImage) : RetCapture :=
  let bs := retainBytes s p
  let bl := retainBlocks s p
  { kind := kind, area := retainTarget s, ts := now s, run := counterGet s 6, layout := p.layout
    data := bytesPut [] 0 bs, blocks := bl, length := bs.length + 8 * bl.length, reqs := reqs }

/-- The page of an area's header. -/
def headerPage (a : Nat) : Nat := 0x310000 + 0x100 * a

/-- A save or snapshot begins: the target area becomes invalid first (R512). -/
def retainStart (kind cls : Nat) (reqs : List Req) (s : State) : State := match s.img with
  | none => s
  | some p =>
    let c := retainCapture kind reqs s p
    let s := areaMod c.area (fun a => { a with valid := false, writing := true })
      { s with nvm := { s.nvm with capture := some c } }
    nvmPush { work := .retain kind c.area 1, cls := cls, pages := [(headerPage c.area, 0)] } s

/-- The waiting snapshot is taken at the first instant that meets R61 (R515, R516). -/
def snapTry (s : State) : State :=
  match s.nvm.capture, s.nvm.snapWait with
  | none, some w =>
    if scanning s && s.mode.power != .saving && retainReady s then
      let due := if s.nvm.snapPeriod = 0 then none else some (now s + s.nvm.snapPeriod * 1000000000)
      retainStart w.kind 1 w.reqs { s with nvm := { s.nvm with snapWait := none, snapDue := due } }
    else s
  | _, _ => s

/-- A snapshot of a kind is asked for; it merges with one that waits (R516). -/
def snapAsk (kind : Nat) (reqs : List Req) (s : State) : State :=
  let w : SnapWait := match s.nvm.snapWait with
    | some w => { kind := max w.kind kind, reqs := w.reqs ++ reqs }
    | none => { kind := kind, reqs := reqs }
  snapTry { s with nvm := { s.nvm with snapWait := some w } }

/-- A power-down or stop save abandons a snapshot that is being written (R516). -/
def snapAbandon (s : State) : State := match s.nvm.capture with
  | some c =>
    if c.kind ≤ 2 then s
    else
      let s := { s with nvm := { s.nvm with
        capture := none, jobs := s.nvm.jobs.filter fun j => match j.work with
          | .retain _ _ _ => false
          | _ => true } }
      c.reqs.foldl (fun s q => finish q { rc := 0x0304 } s) (record 0x0E06 0x02C0 (items [1]) s)
  | none => s

/-- A save of kind 1 or 2 (R274, R513); whether one is written. -/
def saveStart (kind cls : Nat) (s : State) : Bool × State :=
  if anyRetain s && s.img.isSome then (true, retainStart kind cls [] (snapAbandon s)) else (false, s)

/-! ### The power-down sequence (R513) -/

/-- A lamp completes the rung group it executes; a group in a slot wait, and speculative work, does not count. -/
def lampBusy (l : Lamp) : Bool := (l.mode == .exec || l.mode == .fenceWait) && !l.spec

/-- The capture instant of the power-down sequence: every range has completed its rung group or waits for a slot; the
output part of R271 is applied, and save, records and counters 0 and 9 are written in class 0. -/
def savingTry (s : State) : State :=
  if s.nvm.saveStage = 1 ∧ s.fab.lamps.all (fun x => !lampBusy x.2) then
    let s := outputsSafe (lampsStop (fun _ => true) s)
    let (_, s) := saveStart 1 0 (snapDrop { s with nvm := { s.nvm with saveStage := 2 } })
    let n := (s.time.mono - s.nvm.operAt) / 1000000000
    let s := { s with nvm := { s.nvm with operAt := s.nvm.operAt + n * 1000000000 } }
    counterPut 9 (counterGet s 9) 0 (counterPut 0 (counterGet s 0 + n) 0 (flushStaged 0 s))
  else s

/-- GEND (R73). -/
def execGend (o : LampOp) (s : State) : Out :=
  .next (savingTry (snapTry (lampExec o true (fun s => gend o.lamp false s) s)))
/-- SLOT_READ_RESUME (R75). -/
def execSlotReadResume (i fc : Nat) (s : State) : Out := .next (savingTry (snapTry (lampWorld i (opSlotReadResume i fc) s)))

end Sys2Proof.Machine
end

