-- ==== Sys2Proof/Machine/RunAhead.lean ====
section
/-!
DEFINITION. Run-ahead (R79 to R88): speculative starts, validation, squashes, draining and suspension.
-/
namespace Sys2Proof.Machine

/-! ### A speculative start (R79) -/

/-- The cycle a speculative start of task k is for: one ahead of the latest completed IN (R79). -/
def specCycle (s : State) (k : Nat) : Nat :=
  let t := taskOf s k
  if t.phase = .agree then t.cycle else t.cycle + 1

/-- The start waits of group j are met for speculative work: a version, provisional only for a consumer (R31, R83). -/
def specReady (s : State) (k j c : Nat) : Bool :=
  match (taskChart s k)[j]? with
  | none => false
  | some g => g.reads.all fun r => !r.startWait ||
      (let (e, o) := reqVer c r
       let sl := slotOf s r.slot
       !verPrec sl.epoch sl.ord e o && (!sl.prov || (r.consumer && !sl.token && decide (sl.depth < 4))))

/-- The next speculative rung group of lamp i (R79): a cyclic run-ahead task, not suspended, whose share of the current
cycle on this lamp has ended. -/
def nextSpec (s : State) (i : Nat) : Option (Nat × Nat) :=
  (taskOrder s).findSome? fun k =>
    let t := taskOf s k
    let c := taskCfg s k
    if isCyclic k && c.runAhead && t.raSuspended == 0 && t.mode == .running && t.started && !t.ended then
      let gs := groupsOn s k i
      let agree := t.phase == .agree
      if agree || gs.all (fun j => t.taken.contains j) then
        match gs.find? fun j => !(if agree then t.taken else t.takenNext).contains j with
        | some j => if specReady s k j (specCycle s k) then some (k, j) else none
        | none => none
      else none
    else none

/-- SPECULATIVE_START (R79). -/
def opSpecStart (i : Nat) (s : State) : State :=
  if (lampOf s i).mode == .idle && lampServes s i && (nextGroup s i).isNone && !s.fab.isShadow && i < 512 then
    match nextSpec s i with
    | some (k, j) => groupStart i k j (specCycle s k) true s
    | none => s
  else s

/-! ### Squash (R85) -/

/-- A lamp gives up a speculative group: QUOTAs it took return, its publishes are undone, and it is to be taken again. -/
def specDrop (i : Nat) (g : SpecGroup) (running : Bool) (s : State) : State :=
  let l := lampOf s i
  let s := g.pubs.reverse.foldl (fun s p => slotMod p.slot (fun _ => p.old) s) s
  let s := g.quotas.foldl (fun s n =>
    if g.pubs.any fun p => p.slot == n then s else slotMod n (fun x => { x with quota := x.quota + 1 }) s) s
  let s := taskMod g.task (fun t =>
    if g.cycle = t.cycle then { t with taken := t.taken.filter (· != g.group), raSquashed := t.raSquashed + 1 }
    else { t with takenNext := t.takenNext.filter (· != g.group), raSquashed := t.raSquashed + 1 }) s
  let fc := if running then l.fc else g.fc
  let n := (if running then l.instrs else g.instrs) - g.before
  let c (ev n : Nat) (s : State) : State := ctrAdd ev (some g.task) (some (lampGal i)) (some (lampRange i)) n s
  let s := traceGroup i 2 3 g.task g.group g.cycle fc (c 5 1 (c 3 n s))
  galMod (lampGal i) (fun x => { x with raSquash := satInc x.raSquash, raSquashFc := satAdd x.raSquashFc fc }) s

/-- Squashes the speculative groups of lamp i from position n on, and by cascade every group that read a slot they
published; the fuel bounds the cascade. -/
def squashFrom : Nat → Nat → Nat → State → State
  | 0, _, _, s => s
  | f + 1, i, n, s =>
    let l := lampOf s i
    let gone := l.specs.drop n
    let s := gone.reverse.foldl (fun s g =>
      let s := g.pubs.foldl (fun s p =>
        s.fab.lamps.foldl (fun s (j, _) =>
          if j = i then s
          else match (lampOf s j).specs.findIdx? fun h => h.used.any fun u => u.1 == p.slot with
            | some m => squashFrom f j m s
            | none => s) s) s
      specDrop i g (l.spec && (l.specs.getLast?.map fun x => x.group == g.group && x.task == g.task) == some true) s) s
    let s := lampMod i (fun l => { l with specs := l.specs.take n }) s
    if gone ≠ [] ∧ l.spec then lampIdle i s else s

/-- A squash from a lamp's first group, after which the lamps take groups again (R86). -/
def squash (i : Nat) (s : State) : State := takeGroups (squashFrom 64 i 0 s)

/-! ### Validation (R85) -/

/-- A read-set entry equals the real view. -/
def readHolds (s : State) (k : Nat) (r : ReadEnt) : Bool :=
  let t := taskOf s k
  match r.space with
  | .view => (wordAt t.view r.addr &&& r.mask) == (r.value &&& r.mask)
  | .exchange => (wordAt t.exSnap r.addr &&& r.mask) == (r.value &&& r.mask)
  | .otherOut => (wordAt t.outSnap r.addr &&& r.mask) == (r.value &&& r.mask)
  | .cycleStart => r.addr == t.start / 2 ^ 32 && r.value == w32 t.start

/-- A group commits: its stores drain in order, its held trap is raised, and a running one goes on as work of the
cycle. -/
def specCommit (i : Nat) (g : SpecGroup) (s : State) : State :=
  let l := lampOf s i
  let running := l.spec && l.specs.length == 1
  let s := lampMod i (fun l => { l with
    specs := l.specs.drop 1, drain := l.drain ++ g.stores
    spec := if running then false else l.spec
    mode := if running && l.mode == .specWait then .exec else l.mode }) s
  let n := (if running then l.instrs else g.instrs) - g.before
  let s := ctrAdd 2 (some g.task) (some (lampGal i)) (some (lampRange i)) n s
  let s := traceGroup i 2 1 g.task g.group g.cycle (if running then l.fc else g.fc) s
  let s := galMod (lampGal i) (fun x => { x with raCommit := satInc x.raCommit }) s
  let s := taskMod g.task (fun t => { t with raCommitted := t.raCommitted + 1 }) s
  match g.trap with
  | some t => trapTake i t (lampMod i (fun l => { l with task := g.task, group := g.group }) s)
  | none => if g.done then groupDone i g.task g.group s else s

/-- VALIDATE_GROUP: the first speculative group of lamp i, once the view of its cycle is complete (R85). -/
def opValidate (i : Nat) (s : State) : State :=
  match (lampOf s i).specs with
  | [] => s
  | g :: _ =>
    let t := taskOf s g.task
    if g.cycle ≠ t.cycle ∨ t.phase ≠ .logic then s
    else if g.used.any fun u => let sl := slotOf s u.1; sl.prov && verNum sl.epoch sl.ord == u.2 then s
    else if g.reads.all (readHolds s g.task) then takeGroups (specCommit i g s)
    else squash i s

/-! ### Draining (R86) -/

/-- Applies a committed store-buffer entry of lamp i to its target. -/
def drainOne (i : Nat) (e : BufStore) (s : State) : State :=
  match e.space with
  | .dspace => match dPlace s i e.addr with
    | some p => dWordPut p e.value e.mask s
    | none => s
  | .io =>
    if e.addr < 0x20000 then outPut e.task (e.addr - 0x10000) e.value e.mask s
    else tcPut ((e.addr - 0x60000) / 16) ((e.addr - 0x60000) % 16 / 4) e.value e.mask s
  | .slot => slotMod e.addr (fun x => { x with prov := false, depth := 0 }) s

/-- STORE_BUFFER_DRAIN: one entry of lamp i, in the order written (R86). -/
def opDrain (i : Nat) (s : State) : State :=
  match (lampOf s i).drain with
  | [] => s
  | e :: es =>
    let s := drainOne i e (lampMod i (fun l => { l with drain := es }) s)
    if e.space = .slot then takeGroups s else s

/-! ### Suspension (R88) -/

/-- The RA_SUSPEND bit of a task in the galleries of its sector. -/
def raShow (k : Nat) (on : Bool) (s : State) : State :=
  let b : BitVec 8 := BitVec.ofNat 8 (2 ^ k)
  (sectorGals s (taskCfg s k).sector).foldl (fun s g =>
    galMod g (fun x => { x with raSuspend := if on then x.raSuspend ||| b else x.raSuspend &&& ~~~b }) s) s

/-- RA_SUSPENDED: a window of 64 cycles ends with more squashes than commits. The count of suspended cycles runs from
257, and ends at 1 when the 256th begins. -/
def opRaSuspended (k : Nat) (s : State) : State :=
  let t := taskOf s k
  if k < 8 ∧ 64 ≤ t.raCycles ∧ t.raCommitted < t.raSquashed ∧ t.raSuspended = 0 then
    let s := taskMod k (fun t => { t with raSuspended := 257, raCycles := 0, raSquashed := 0, raCommitted := 0 }) s
    record 0x020B (taskSrc s k) (items [k, t.raSquashed, t.raCommitted]) (raShow k true s)
  else s

/-- RA_RESUMED: the 256 cycles of suspension end. -/
def opRaResumed (k : Nat) (s : State) : State :=
  if (taskOf s k).raSuspended = 1 then
    record 0x020C (taskSrc s k) (items [k]) (raShow k false (taskMod k (fun t => { t with raSuspended := 0 }) s))
  else s

/-- The run-ahead window of a task as a cycle starts. -/
def raCycle (t : Task) : Task :=
  if 0 < t.raSuspended then { t with raSuspended := max 1 (t.raSuspended - 1) }
  else if 64 ≤ t.raCycles ∧ ¬ t.raCommitted < t.raSquashed then { t with raCycles := 1, raSquashed := 0, raCommitted := 0 }
  else { t with raCycles := t.raCycles + 1 }

/-! ### The meanings -/

/-- SPECULATIVE_START (R79). -/
def execSpeculativeStart (i : Nat) (s : State) : Out := .next (opSpecStart i s)
/-- VALIDATE_GROUP (R85). -/
def execValidateGroup (i : Nat) (s : State) : Out := .next (opValidate i s)
/-- STORE_BUFFER_DRAIN (R86). -/
def execStoreBufferDrain (i : Nat) (s : State) : Out := .next (opDrain i s)
/-- RA_SUSPENDED (R88). -/
def execRaSuspended (k : Nat) (s : State) : Out := .next (opRaSuspended k s)
/-- RA_RESUMED (R88). -/
def execRaResumed (k : Nat) (s : State) : Out := .next (opRaResumed k s)

end Sys2Proof.Machine
end

