-- ==== Sys2Proof/Machine/Shadow.lean ====
section
/-!
DEFINITION. The shadow of a proof run (R249 to R255): capture, state mapping, comparison and verdict, and the declared
cut-over (R256).
-/
namespace Sys2Proof.Machine

/-! ### State mapping (R247, R251) -/

/-- The task whose state an entry changes, by its place in program `p`. -/
def mapTask (p : ProgImage) : MapEnt → Option Nat
  | .move _ new _ => (dAddrPlace new).bind fun q => pageTask (tabGet .unassigned p.pages (dPage q))
  | .initAt a _ => (dAddrPlace a).bind fun q => pageTask (tabGet .unassigned p.pages (dPage q))
  | .blockPreset b _ => pageTask (tabGet .unassigned p.pages (131072 + b / 16))
  | .blockInit b _ => pageTask (tabGet .unassigned p.pages (131072 + b / 16))
  | .slotInit n _ => (p.slots.find? fun c => c.slot == n).map SlotCfg.owner
  | .dropMem _ _ | .dropBlock _ | .dropSlot _ => none

/-- Applies one entry. -/
def mapOne (e : MapEnt) (s : State) : State :=
  match e with
  | .move old new n => dBytesPut new (dBytes s old n) s
  | .initAt a bs => dBytesPut a bs s
  | .blockPreset b v =>
    { s with fab := { s.fab with blocks := tabMod {} s.fab.blocks b fun x => { x with preset := v } } }
  | .blockInit b c => { s with fab := { s.fab with blocks := tabPut {} s.fab.blocks b (tcCold c) } }
  | .slotInit n v => slotMod n (fun x => { x with value := v }) s
  | .dropMem _ _ | .dropBlock _ | .dropSlot _ => s

/-- Sets each slot of task k to the final version of the cycle before `c` under program p, keeping its value (R251). -/
def slotsSet (p : ProgImage) (k c : Nat) (s : State) : State :=
  (p.slots.filter fun x => x.owner == k).foldl (fun s x =>
    slotMod x.slot (fun sl => { slotCold p x with value := sl.value, epoch := (c + 255) % 256 }) s) s

/-- The state of task k passes into program p, whose cycle `c` comes next (R251, R256). -/
def mapTaskState (p : ProgImage) (ents : List MapEnt) (k c : Nat) (s : State) : State :=
  slotsSet p k c ((ents.filter fun e => mapTask p e == some k).foldl (fun s e => mapOne e s) s)

/-- The inverse mapping of a rollback (R259): what the edit moved goes back, what it wrote into blocks returns. -/
def mapInverse (old : ProgImage) (ents : List MapEnt) (kept : Tab TcBlock) (k : Nat) (s : State) : State :=
  ents.foldl (fun s e =>
    match e with
    | .move a b n =>
      if (dAddrPlace a).bind (fun q => pageTask (tabGet .unassigned old.pages (dPage q))) = some k then
        dBytesPut a (dBytes s b n) s
      else s
    | .blockPreset b _ =>
      if pageTask (tabGet .unassigned old.pages (131072 + b / 16)) = some k then
        mapOne (.blockPreset b (tabGet ({} : TimerCfg) old.timers b).preset) s
      else s
    | .blockInit b _ =>
      if pageTask (tabGet .unassigned old.pages (131072 + b / 16)) = some k then
        { s with fab := { s.fab with blocks := tabPut {} s.fab.blocks b (tabGet {} kept b) } }
      else s
    | _ => s) s

/-! ### Declared cut-over (R256) -/

/-- The first cycle of the anchor task whose strobe lies at least `d` ns ahead: its number and the strobe's instant. -/
def cutCycle (s : State) (d : Nat) : Nat × Nat :=
  let k := s.edit.anchor
  let c := taskCfg s k
  let t := taskOf s k
  let off := c.strobeOffset * 1000
  let g := gridAt c (now s + d - off)
  ((t.cycle + (g - t.sched) / max 1 (c.period * 1000)) % 2 ^ 32, g + off)

/-- Declares the cut-over, or with `rolling` the rollback; its cycle and T_cut. -/
def declareCut (rolling : Bool) (s : State) : (Nat × Nat) × State :=
  let x := cutCycle s (if twinOn s then 2000000 else 1000000)
  (x, { s with
    edit := { s.edit with tCut := some x.2, cutC := x.1, rolling := rolling, until_ := if rolling then s.edit.until_ else none }
    mode := { s.mode with declared := s.mode.declared ++ [⟨if rolling then .rollback else .cutOver, x.2⟩] } })

/-! ### The verdict (R254, R255) -/

/-- PASSED once every affected cyclic task has completed N proof cycles. -/
def proofVerdict (s : State) : State :=
  match s.edit.delta with
  | none => s
  | some d =>
    if s.edit.st = .proving ∧ (d.affected.filter isCyclic).all (fun k => decide (d.n ≤ tabGet 0 s.edit.proofN k)) ∧
        d.affected.any (fun k => 0 < tabGet 0 s.edit.proofN k) then
      let s := { s with edit := { s.edit with st := .held, until_ := some (now s + 600000000000) } }
      let s := record 0x0504 0 (items [s.edit.masked]) s
      if d.cutAuto then (declareCut false s).2 else s
    else s

/-- The expected-change mask at an output byte (R245). -/
def maskAt (d : Delta) (off : Nat) : Byte :=
  d.mask.foldl (fun m r => if r.off ≤ off ∧ off < r.off + r.len then m ||| r.bits else m) 0

/-- Inserts a number into a rising list. -/
def insertNat (n : Nat) : List Nat → List Nat
  | [] => [n]
  | x :: xs => if n ≤ x then n :: x :: xs else x :: insertNat n xs

/-- Output bytes that task k owns in either program, in ascending order, with the byte of each (R252). -/
def proofBytes (s : State) (live new : ProgImage) (sf : Fabric) (k : Nat) : List (Nat × Byte × Byte) :=
  let offs := (taskOuts live k ++ (taskOuts new k).filter fun o => ownerIn live o ≠ some k).foldr insertNat []
  offs.map fun o =>
    (o, if ownerIn live o = some k then byteAt (taskOf s k).work o else 0,
     if ownerIn new o = some k then byteAt (tabGet ({} : Task) sf.tasks k).work o else 0)

/-- The shadow of task k has ended the LOGIC of its cycle. -/
def shadowDone (sf : Fabric) (img : Option ProgImage) (k : Nat) : Bool :=
  let t := tabGet ({} : Task) sf.tasks k
  match img with
  | none => false
  | some p => t.phase == .logic && decide ((tabGet [] p.chart k).length ≤ t.doneG.length)

/-- PROOF_COMPARE of task k's cycle (R252): unexpected differences fail the proof, masked ones are counted. -/
def proofCompare (k : Nat) (s : State) : State :=
  match s.edit.shadow, s.edit.delta, s.img with
  | some sf, some d, some live =>
    if !s.edit.captured.contains k || !shadowDone sf (some d.image) k then s
    else
      let diffs := (proofBytes s live d.image sf k).filterMap fun (o, a, b) =>
        if a = b then none else some (o, a ^^^ b, maskAt d o)
      let sf := { sf with tasks := tabMod {} sf.tasks k fun t => { t with phase := .armed } }
      let masked := (diffs.filter fun x => x.2.1 &&& x.2.2 ≠ 0).length
      let s := { s with edit := { s.edit with
        shadow := some sf, masked := satAdd s.edit.masked masked
        proofN := tabMod 0 s.edit.proofN k (· + 1)
        cycles := if k = s.edit.anchor then s.edit.cycles + 1 else s.edit.cycles } }
      match diffs.find? fun x => x.2.1 &&& ~~~x.2.2 ≠ 0 with
      | some (o, x, m) =>
        let bits := (x &&& ~~~m).toNat
        let s := { s with edit := { s.edit with
          firstCycle := (taskOf s s.edit.anchor).cycle, firstOff := o, firstBits := bits } }
        proofFail 1 k (taskOf s k).cycle o bits s
      | none => proofVerdict s
  | _, _, _ => s

/-! ### Capture and the shadow's cycles (R249, R251) -/

/-- Copies the live pages, blocks and slots of task k, as program `p` assigns them, into a fabric. -/
def captureTask (p : ProgImage) (k : Nat) (s : State) (sf : Fabric) : Fabric :=
  let sf := (taskPages p k).foldl (fun sf (key, _) =>
    let q := pagePlace key
    let bs := bytesAt (dMem s q) q.off 256
    if q.mem = 2 then { sf with gal := tabMod {} sf.gal q.unit fun x => { x with data := bytesPut x.data q.off bs } }
    else { sf with gmem := bytesPut sf.gmem q.off bs }) sf
  let sf := (taskBlocks p k).foldl (fun sf b => { sf with blocks := tabPut {} sf.blocks b (tabGet {} s.fab.blocks b) }) sf
  (p.slots.filter fun c => c.owner == k).foldl (fun sf c =>
    { sf with slots := tabPut {} sf.slots c.slot (tabGet {} s.fab.slots c.slot) }) sf

/-- Galleries as the shadow lamps see them: the host's ranges serve. -/
def shadowGals (s : State) (sf : Fabric) : Fabric :=
  match shadowPlace s with
  | none => sf
  | some p =>
    let open_ (g : Nat) (sf : Fabric) : Fabric :=
      { sf with gal := tabMod {} sf.gal g fun x => { x with
          power := (galOf s g).power, memReady := (galOf s g).memReady
          ranges := p.ranges.foldl (fun t (h, r) =>
            if h = g then tabMod {} t r fun y => { y with st := .inService, changing := false } else t) x.ranges } }
    (p.ranges.map Prod.fst ++ p.gals).eraseDups.foldl (fun sf g => open_ g sf) sf

/-- The capture of task k, whose live cycle begins (R251). -/
def shadowCapture (k : Nat) (d : Delta) (s : State) : State :=
  match s.edit.shadow, s.img with
  | some sf, some live =>
    let sf := captureTask live k s sf
    let sf := { sf with tasks := tabPut {} sf.tasks k (taskOf s k) }
    let r := mapTaskState d.image d.map k (taskOf s k).cycle { s with fab := sf }
    { s with edit := { s.edit with shadow := some r.fab, captured := s.edit.captured ++ [k] } }
  | _, _ => s

/-- A cycle of task k begins with its view complete: a shadow cycle that is late fails the proof, and the next shadow
cycle begins on the same view (R249, R251, R254). -/
def shadowCycle (k : Nat) (s : State) : State :=
  match s.edit.shadow, s.edit.delta with
  | some sf, some d =>
    if !d.affected.contains k || s.edit.host = 3 then s
    else
      let have_ := s.edit.captured.contains k
      let was := (tabGet ({} : Task) sf.tasks k).phase
      if have_ && was == .logic then proofFail 4 k (taskOf s k).cycle 0 0 s
      else if s.mode.exec ≠ .proof ∨ ((taskOf s k).sched < s.edit.tStart ∧ !have_) then s
      else
        let s := if have_ then s else shadowCapture k d s
        match s.edit.shadow with
        | none => s
        | some sf =>
          let live := taskOf s k
          let sf := { shadowGals s sf with outImg := s.fab.outImg, exPub := s.fab.exPub }
          let sf := { sf with tasks := tabMod {} sf.tasks k fun t =>
            { live with work := t.work, taken := [], doneG := [], takenNext := [], shadow := [], phase := .logic } }
          onShadow takeGroups { s with edit := { s.edit with shadow := some sf } }
  | _, _ => s

/-- At the live strobe of task k a shadow cycle that is due and not compared is late (R254); the first may still run. -/
def shadowStrobe (k : Nat) (s : State) : State :=
  let s := proofCompare k s
  match s.edit.shadow with
  | some sf =>
    if s.edit.captured.contains k ∧ (tabGet ({} : Task) sf.tasks k).phase = .logic ∧ 0 < tabGet 0 s.edit.proofN k then
      proofFail 4 k (taskOf s k).cycle 0 0 s
    else s
  | none => s

end Sys2Proof.Machine
end

