-- ==== Sys2Proof/Machine/TwinCycle.lean ====
section
/-!
DEFINITION. A task cycle in a twin: snapshot and agreement (R213 to R216), digests and their outcome (R217 to R220),
and a change of the twin role (R237).
-/
namespace Sys2Proof.Machine

/-- The twin state of a task's cycle. -/
def twOf (s : State) (k : Nat) : TwinTask := tabGet {} s.twin.tasks k

/-- Changes it. -/
def twMod (k : Nat) (f : TwinTask → TwinTask) (s : State) : State :=
  { s with twin := { s.twin with tasks := tabMod {} s.twin.tasks k f } }

/-! ### Roles (R237) -/

/-- The registers of a role change (R243). -/
def roleNote (o r : TwinRole) (cause t : Nat) (s : State) : State :=
  { s with
    twin := { s.twin with
      epoch := (s.twin.epoch + 1) % 2 ^ 32, epochTs := t, swTs := t, swCause := cause, swNew := roleCode r
      swOld := roleCode o, switchCnt := satInc s.twin.switchCnt, pend := none, relinq := none, decided := true }
    edit := { s.edit with back := false } }

/-- What the loops do at a role change (R237, R313). -/
def roleLoops (o r : TwinRole) (s : State) : State :=
  let s := if r = .principal then hartStart true s else if o = .principal then hartStart false s else s
  if r = .rejoining ∨ r = .isolated then
    { s with loop := { s.loop with outs := s.loop.outs.map fun (n, x) => (n, { x with live := false }) } } else s

/-- The module's role changes at instant `t`, with its cause as TWN_SW_CAUSE encodes it (R237, R243). -/
def roleSet (r : TwinRole) (cause t : Nat) (s : State) : State :=
  let o := s.mode.role
  if o = r then s
  else
    let s := if proving s then proofAbort 9 s else s
    let s := roleNote o r cause t (modeChange 12 (fun s => { s with mode := { s.mode with role := r } }) s)
    let s := if r = .rejoining then tasksHalt .notScanning { s with twin := { s.twin with tasks := [] } } else s
    let s := record 0x0404 0 (items [roleCode o, roleCode r, cause] ++ item64 t ++ item32 s.twin.epoch) s
    aoUpdate (latchUpdate (roleLoops o r s))

/-! ### Frames of the link (R206, R211, R229) -/

/-- Visibility and CARRY of the partner, as a valid frame or heartbeat shows them (R221, R229). -/
def partnerSign (carry : BitVec 4) (s : State) : State :=
  { s with twin := { s.twin with visible := true, lastSign := now s, carry := carry } }

/-- A frame with valid CRC-32 is taken; out of lock none is (R209 to R211). Misses are counted. -/
def frameIn (h : TwinHdr) (f : State → State) (s : State) : State :=
  let s := { s with twin := { s.twin with hdrErr := satAdd s.twin.hdrErr h.misses } }
  if !s.twin.locked then s
  else if !h.crcOk then { s with twin := { s.twin with crcErr := satInc s.twin.crcErr } }
  else
    let s := { s with twin := { s.twin with
      frameRx := satInc s.twin.frameRx, lastFrame := now s, lastSeq := h.seq, silence := false, split := false } }
    f (outsUpdate (partnerSign h.carry s))

/-! ### Absence (R215) -/

/-- A rejoin is under way at the cycle that starts at `t`: before T_assist one module rejoins (R215, R241); the assistant
host of an edit stands as a rejoining module does (R250). -/
def rejoinAt (s : State) (t : Nat) : Bool :=
  editApart s || (s.mode.role == .rejoining || s.twin.partnerRole == .rejoining) && match s.twin.rejoin.tAssist with
    | some a => decide (t < a)
    | none => true

/-- The partner is absent for task k's cycle (R215). -/
def partnerAbsent (s : State) (k : Nat) : Bool :=
  !s.twin.locked || s.twin.partnerFailed.contains (taskCfg s k).sector || s.mode.role == .isolated ||
    s.mode.role == .noRole || rejoinAt s (taskOf s k).start

/-- The module follows the principal's snapshot in task k's cycle (R215). -/
def follows (s : State) (k : Nat) : Bool := (s.mode.role == .rejoining || assistHost s) && rejoinAt s (taskOf s k).start

/-! ### CRC-64 -/

/-- One byte of the CRC-64 of ECMA-182. -/
def crc64Byte (c : BitVec 64) (b : Byte) : BitVec 64 :=
  (List.range 8).foldl (fun c _ => if c.getLsbD 63 then (c <<< 1) ^^^ 0x42F0E1EBA9EA3693#64 else c <<< 1)
    (c ^^^ (b.zeroExtend 64 <<< 56))

/-- CRC-64 of ECMA-182. -/
def crc64Ecma (bs : List Byte) : Nat := (bs.foldl crc64Byte 0).toNat

/-- One byte of the CRC-64 of ISO 3309. -/
def crc64IsoByte (c : BitVec 64) (b : Byte) : BitVec 64 :=
  (List.range 8).foldl (fun c _ => if c.getLsbD 0 then (c >>> 1) ^^^ 0xD800000000000000#64 else c >>> 1)
    (c ^^^ b.zeroExtend 64)

/-- CRC-64 of ISO 3309. -/
def crc64Iso (bs : List Byte) : Nat := (bs.foldl crc64IsoByte 0).toNat

/-! ### Proof with host ASSISTANT (R250, R252) -/

/-- Task k's bytes that either program owns, in ascending order, with the bits of the mask cleared; a byte of the other
program alone counts as 0. -/
def apartBytes (s : State) (d : Delta) (k : Nat) : List Byte := match s.img with
  | none => []
  | some cur =>
    let old := if assistHost s then s.edit.old.getD cur else cur
    let offs := (taskOuts old k ++ (taskOuts d.image k).filter fun o => ownerIn old o ≠ some k).foldr insertNat []
    offs.map fun o => (if ownerIn cur o = some k then byteAt (taskOf s k).work o else 0) &&& ~~~maskAt d o

/-- The last CRCs kept of each side. -/
def crcKeep (x : Nat × Nat × Nat) (l : List (Nat × Nat × Nat)) : List (Nat × Nat × Nat) :=
  x :: (l.filter fun y => y.1 != x.1)

/-- A proof cycle of task k has been judged. -/
def apartJudged (k c : Nat) (equal : Bool) (s : State) : State :=
  if equal then
    proofVerdict { s with edit := { s.edit with
      proofN := tabMod 0 s.edit.proofN k (· + 1)
      cycles := if k = s.edit.anchor then s.edit.cycles + 1 else s.edit.cycles } }
  else
    proofFail 1 k c 0xFFFF 0 { s with edit := { s.edit with
      firstCycle := (taskOf s s.edit.anchor).cycle, firstOff := 0xFFFF, firstBits := 0 } }

/-- The assistant host compares the two CRCs of task k's cycle once both are there, and tells the principal. -/
def apartTry (k : Nat) (s : State) : State :=
  match s.edit.ownCrc.find? fun y => y.1 == k, s.edit.parCrc.find? fun y => y.1 == k with
  | some (_, c, a), some (_, e, b) =>
    if c = e then
      let s := { s with
        edit := { s.edit with
          ownCrc := s.edit.ownCrc.filter fun y => y.1 != k
          parCrc := s.edit.parCrc.filter fun y => y.1 != k }
        twin := { s.twin with txQ := s.twin.txQ ++ [{ cls := 4, typ := 9, tag := 0, words := [2, k, c, b2n (a == b)] }] } }
      apartJudged k c (a == b) s
    else s
  | _, _ => s

/-- After the LOGIC of task k's proof cycle: the principal sends its CRC, the assistant host keeps its own. -/
def proofApart (k : Nat) (s : State) : State := match s.edit.delta with
  | none => s
  | some d =>
    let t := taskOf s k
    if editApart s && proving s && d.affected.contains k && decide (s.edit.tStart ≤ t.sched) then
      let crc := crc64Ecma (apartBytes s d k)
      if assistHost s then apartTry k { s with edit := { s.edit with ownCrc := crcKeep (k, t.cycle, crc) s.edit.ownCrc } }
      else
        { s with twin := { s.twin with txQ := s.twin.txQ ++
          [{ cls := 4, typ := 9, tag := 0, words := [1, k, t.cycle, crc] }] } }
    else s

/-! ### Snapshot (R213) -/

/-- The local and network pages of a task's snapshot, in order (R213, R44). -/
def snapPages (s : State) (k : Nat) : List Nat :=
  let p := (taskCfg s k).pages
  ([0, 1, 2, 3].filter fun i => p.contains i) ++ [6] ++ (p.filter fun i => 16 ≤ i).foldr insertNat []

/-- The bytes of a snapshot. -/
def snapBytes (s : State) (k : Nat) (v : Tab Byte) : List Byte := (snapPages s k).flatMap fun p => bytesAt v (256 * p) 256

/-- The snapshot that bytes stand for. -/
def snapOf (s : State) (k : Nat) (bs : List Byte) : Tab Byte :=
  ((snapPages s k).zip (List.range 256)).foldl (fun v (p, i) => bytesPut v (256 * p) ((bs.drop (256 * i)).take 256)) []

/-- Frames of a snapshot: 1,024 bytes each. -/
def snapCount (s : State) (k : Nat) : Nat := ((snapPages s k).length + 3) / 4

/-- The module sends no SNAPSHOT, DIGEST, Beam or CAN frame of a failed sector (R233). -/
def sendsFor (s : State) (k : Nat) : Bool :=
  s.twin.locked && sectorState s (taskCfg s k).sector != .safe &&
    (s.mode.role == .principal || (s.mode.role == .assistant && !assistHost s) || (s.mode.role == .rejoining && !follows s k))

/-- T_IN of task k in fc, and the bytes of its pages (R44). -/
def tInFc (s : State) (k : Nat) : Nat × Nat :=
  let n := 256 * (snapPages s k).length
  let copy := (n + 15) / 16
  (if twinOn s then 2 * copy + 335 * ((n + 1023) / 1024) + 508 else copy + 8, n)

/-- The agreement deadline of a cycle with t0 (R213). -/
def agreeDeadline (s : State) (k : Nat) : Nat :=
  let (t, n) := tInFc s k
  (taskOf s k).start + 2 * (t - (n + 15) / 16 - 8)

/-- The module's snapshot frames join the link's queue (R213). -/
def snapSend (k : Nat) (v : Tab Byte) (s : State) : State :=
  if sendsFor s k then
    let bs := snapBytes s k v
    let t := taskOf s k
    let n := snapCount s k
    (List.range n).foldl (fun s i => twinQueue
      { cls := 2, typ := 1, tag := 4096 * k + i, last := decide (i + 1 = n), order := agreeDeadline s k
        words := if i = 0 then [k, t.cycle, t.start] else [], data := (bs.drop (1024 * i)).take 1024 } s) s
  else s

/-! ### The agreed image -/

/-- AGREE_HASH: over the view's local and network pages as written (R213). -/
def agreeHash (s : State) (k : Nat) : Nat := crc64Ecma (snapBytes s k (taskOf s k).view)

/-- IN is complete: task k has its view, whose changes are traced (R564). -/
def viewSet (k : Nat) (v : Tab Byte) (s : State) : State :=
  let t := taskOf s k
  traceImages k 0 0 (taskSrc s k) t.cycle t.view v (taskMod k (fun t => { t with view := v }) s)

/-- LOGIC begins: the ranges are released, and the shadow of a proof run begins its cycle (R40, R249). -/
def logicStart (k : Nat) (s : State) : State :=
  takeGroups (shadowCycle k (taskMod k (fun t => { t with phase := .logic }) s))

/-- The view is formed from what the module has: `par` the partner's snapshot where it takes part. -/
def viewForm (k : Nat) (par : Option (Tab Byte)) (incomplete : Bool) (s : State) : State :=
  let own := (twOf s k).snap
  let v := match par with
    | some p => if follows s k then p else agreedView s k own p
    | none => aloneView s k own
  let s := viewSet k (finishView s k v) s
  let s := twMod k (fun x => { x with
    incomplete := incomplete, alone := par.isNone, hash := agreeHash s k, own := none, partner := none, adopt := false
    takeOver := false, frames := [], last := none }) s
  logicStart k s

/-- Every snapshot frame of the partner has arrived for the cycle. -/
def snapComplete (s : State) (k : Nat) : Bool :=
  (List.range (snapCount s k)).all fun i => (twOf s k).frames.any fun f => f.1 == i

/-- The partner's snapshot. -/
def snapPartner (s : State) (k : Nat) : Tab Byte :=
  snapOf s k ((List.range (snapCount s k)).flatMap fun i => (((twOf s k).frames.find? fun f => f.1 == i).map Prod.snd).getD [])

/-- The two modules' late starts agree on the later one (R51). -/
def startAgree (k : Nat) (s : State) : State :=
  let t := taskOf s k
  let p := (twOf s k).pT0
  if t.late ∧ t.start < p ∧ (taskCfg s k).trigger = .none then
    taskMod k (fun t => { t with start := p, lateUs := (p - (t.start - t.lateUs * 1000)) / 1000 }) s
  else s

/-- The agreement of task k completes when every partner frame is there (R213). -/
def agreeTry (k : Nat) (s : State) : State :=
  if (taskOf s k).phase = .agree ∧ snapComplete s k ∧ (!partnerAbsent s k || follows s k) ∧
      (!(twOf s k).firstJoin || s.twin.rejoin.done.contains k) then
    let s := startAgree k s
    viewForm k (some (snapPartner s k)) false s
  else s

/-- SNAPSHOT_FRAME (R213): index, LAST and payload; the first frame carries CYCLE and the proposed start. -/
def opSnapshotFrame (h : TwinHdr) (k idx : Nat) (last : Bool) (cycle t0 : Nat) (data : List Byte) (s : State) : State :=
  frameIn h (fun s =>
    if k < 16 then
      let s := twMod k (fun x => { x with
        frames := (idx, data) :: x.frames.filter fun f => f.1 != idx
        last := if last then some idx else x.last
        pCycle := if idx = 0 then cycle else x.pCycle, pT0 := if idx = 0 then t0 else x.pT0 }) s
      agreeTry k s
    else s) s

/-- AGREEMENT_DEADLINE (R213): a module that lacks frames forms the view alone. -/
def opAgreeDeadline (k : Nat) (s : State) : State :=
  let t := taskOf s k
  if t.phase = .agree then
    let s := reach (agreeDeadline s k) s
    if follows s k then s
    else if partnerAbsent s k then viewForm k none false s
    else
      let miss := (List.range (snapCount s k)).filter fun i => !(twOf s k).frames.any fun f => f.1 == i
      let s := { s with twin := { s.twin with snapMiss := satInc s.twin.snapMiss } }
      viewForm k none true (record 0x0409 0x02A0 (items [k, t.cycle, maskN miss.contains 32, maskN (fun n => miss.contains (n + 32)) 32]) s)
  else s

/-! ### Digests (R217) -/

/-- Owned DO commands of task k with their mask, of an output image. -/
def ownDo (s : State) (k : Nat) (m : Tab Byte) : Word × Word :=
  let own (n : Nat) : Bool := ownerOf s (n / 8) == some k
  (maskW fun n => own n && (byteAt m (n / 8)).getLsbD (n % 8), maskW own)

/-- Owned AO commands of task k. -/
def ownAo (s : State) (k : Nat) (m : Tab Byte) : List (Nat × Nat) :=
  ((List.range 8).filter fun n => aoOwner s n == some k).map fun n => (n, (wordAt m (0x100 + 4 * n)).toNat)

/-- The module's digest of task k's staged outputs (R217); the task number, CYCLE and start enter it as items. -/
def ownDigest (s : State) (k : Nat) : Digest :=
  let t := taskOf s k
  let outs := match s.img with
    | none => []
    | some p => (taskOuts p k).foldr insertNat []
  let bs := item32 k ++ item32 t.cycle ++ item64 t.start ++ outs.map (byteAt t.staged)
  let (c, m) := ownDo s k t.staged
  { cycle := t.cycle, t0 := t.start, incomplete := (twOf s k).incomplete, hash := (twOf s k).hash
    dig1 := crc64Ecma bs, dig2 := crc64Iso bs, doCmd := c, doMask := m, ao := ownAo s k t.staged, outTs := t.outAt }

/-- The strobe of a stretched or event-task cycle in a twin (R220). -/
def agreedStrobe (own : Nat) (partner : Option Nat) : Nat := usCeil (max own (partner.getD own) + 2000)

/-- Task k's cycle strobes off its grid (R46, R49). -/
def offGrid (s : State) (k : Nat) : Bool := !isCyclic k || (taskOf s k).stretched

/-- The strobe is armed, with the outcome of the digests. -/
def armTask (k : Nat) (partner : Option Nat) (s : State) : State :=
  taskMod k (fun t => { t with
    phase := .armed, strobeAt := if offGrid s k then agreedStrobe t.outAt partner else t.strobeAt }) s

/-- This module adopts the partner's commands and will rejoin (R218, R219). -/
def adoptTask (k : Nat) (s : State) : State := twMod k (fun x => { x with adopt := true }) s

/-- N_k of R241. -/
def joinCount (s : State) (k : Nat) : Nat := min 16 (max 1 (1000000 / max 1 (taskCfg s k).period))

/-- Every cyclic task has given its equal digests: the principal declares T_assist (R241). -/
def assistDeclare (s : State) : State :=
  let r := s.twin.rejoin
  if r.sender ∧ r.tJoin.isSome ∧ r.tAssist = none ∧ (cyclicTasks s).all fun k => decide (joinCount s k ≤ (twOf s k).equalN) then
    let t := switchInstant s 1000000
    twinQueue { cls := 3, typ := 8, tag := 0, words := [4, t] }
      { s with twin := { s.twin with rejoin := { s.twin.rejoin with tAssist := some t } } }
  else s

/-- The comparison of a rejoining module's digests (R241): equal ones count, one unequal fails the attempt. -/
def qualify (k : Nat) (equal : Bool) (s : State) : State :=
  if equal then assistDeclare (twMod k (fun x => { x with equalN := x.equalN + 1 }) s) else rejoinFail 4 s

/-! ### Handing over a task at its capture instant (R240) -/

/-- Cuts a list into pieces of `n`. -/
def pieces {α : Type} (n : Nat) (l : List α) : List (List α) :=
  (List.range ((l.length + n - 1) / max 1 n)).map fun i => (l.drop (n * i)).take n

/-- The content of a data page. -/
def pageNow (s : State) (key : Nat) : List Byte :=
  let q := pagePlace key
  bytesAt (dMem s q) q.off 256

/-- The page differs from what the partner was last sent. -/
def pageDirty (s : State) (key : Nat) : Bool := pageNow s key != bytesAt s.twin.rejoin.sent (256 * key) 256

/-- The items of task k's state beside its pages. -/
def taskItems (p : ProgImage) (k : Nat) (s : State) : List (List RejoinItem) :=
  let ex := (p.pages.filter fun (key, u) => decide (key < 131072) && u == .exchange k).map fun (key, _) =>
    RejoinItem.exchange key (bytesAt s.fab.exPub (256 * key) 256)
  let bl := (taskBlocks p k).map fun b => RejoinItem.block b (tabGet {} s.fab.blocks b)
  let sl := (p.slots.filter fun c => c.owner == k).map fun c => RejoinItem.slot c.slot (tabGet {} s.fab.slots c.slot)
  let sq := (btxCfgs s).filterMap fun (j, c) => if c.task = k then some (RejoinItem.seqBase j (btxOf s j).seqBase) else none
  pieces 4 ex ++ pieces 64 bl ++ pieces 64 sl ++
    [sq ++ [.outs ((taskOuts p k).map fun o => (o, byteAt s.fab.outImg o)), .task k (taskOf s k)]]

/-- At the first cycle start of task k at or after T_join the principal hands over the task as it stands (R240). -/
def rejoinCapture (k : Nat) (s : State) : State :=
  match s.img, s.twin.rejoin.tJoin with
  | some p, some t =>
    if s.twin.rejoin.sender ∧ t ≤ (taskOf s k).start ∧ !s.twin.rejoin.done.contains k then
      let lines := ((taskPages p k).map Prod.fst).filter (pageDirty s)
      let fs := pieces 4 (lines.map fun key => RejoinItem.line key (pageNow s key)) ++ taskItems p k s
      let s := { s with twin := { s.twin with
        txQ := s.twin.txQ ++ fs.map fun x => { cls := 4, typ := 7, tag := 0, state := x }
        rejoin := { s.twin.rejoin with done := s.twin.rejoin.done ++ [k] } } }
      if (cyclicTasks s).all s.twin.rejoin.done.contains then
        { s with twin := { s.twin with rejoin := { s.twin.rejoin with phase := 5 } } }
      else s
    else s
  | _, _ => s

/-- The first cycle of task k in a rejoining module (R240, R241). -/
def joinFirst (k : Nat) (s : State) : State :=
  if s.mode.role = .rejoining ∧ !(twOf s k).joined then
    twMod k (fun x => { x with joined := true, firstJoin := true }) (taskMod k (fun t => { t with first := .rejoin }) s)
  else s

/-- The outcome of task k's digests (R218). -/
def digestOutcome (k : Nat) (s : State) : State :=
  let t := taskOf s k
  let vital := (taskCfg s k).vital
  let x := twOf s k
  match x.own, x.partner with
  | some a, some b =>
    let same := a.hash == b.hash && a.dig1 == b.dig1 && a.dig2 == b.dig2
    if rejoinAt s t.start then armTask k none (qualify k same s)
    else
      let arm := armTask k (some b.outTs)
      let pr := s.mode.role == .principal
      if same then arm s
      else if a.hash = b.hash then
        let rec_ (o : Nat) (s : State) : State := record 0x040B 0x02A0 (items [k, t.cycle] ++ item64 a.dig1 ++ item64 a.dig2 ++
          item64 b.dig1 ++ item64 b.dig2 ++ item32 o) s
        let s := { s with twin := { s.twin with digMismatch := satInc s.twin.digMismatch } }
        if vital then sectorSafe (taskCfg s k).sector 0x040B (rec_ 3 s)
        else if pr then arm s else arm (adoptTask k (rec_ 2 s))
      else
        let rec_ (o : Nat) (s : State) : State :=
          record 0x040A 0x02A0 (items [k, t.cycle, b2n a.incomplete, b2n b.incomplete, o]) s
        let s := { s with twin := { s.twin with diverge := satInc s.twin.diverge } }
        if a.incomplete ∧ !b.incomplete then arm (adoptTask k (rec_ 2 s))
        else if b.incomplete ∧ !a.incomplete then
          arm (if pr then s else twMod k (fun x => { x with takeOver := true }) s)
        else if a.incomplete ∨ !vital then if pr then arm s else arm (adoptTask k (rec_ 2 s))
        else sectorSafe (taskCfg s k).sector 0x040A (rec_ 3 s)
  | _, _ => s

/-- The digests are compared as soon as both are present (R218). -/
def digestTry (k : Nat) (s : State) : State :=
  if (taskOf s k).phase = .digest ∧ (twOf s k).own.isSome ∧ (twOf s k).partner.isSome then digestOutcome k s else s

/-- DIGEST_FRAME (R217). -/
def opDigestFrame (h : TwinHdr) (k : Nat) (d : Digest) (s : State) : State :=
  frameIn h (fun s =>
    let t := taskOf s k
    if 16 ≤ k ∨ d.cycle ≠ t.cycle then s
    else if t.phase = .logic ∨ t.phase = .digest ∨ t.phase = .agree then
      digestTry k (twMod k (fun x => { x with partner := some d }) s)
    else if t.phase = .armed ∧ rejoinAt s t.start ∧ now s ≤ t.strobeAt - 56 then
      digestOutcome k (twMod k (fun x => { x with partner := some d }) s)
    else s) s

/-- The digest deadline: 28 fc before the strobe (R217). -/
def digestDeadline (s : State) (k : Nat) : Nat :=
  let t := taskOf s k
  (if offGrid s k then agreedStrobe t.outAt none else t.strobeAt) - 56

/-- DIGEST_DEADLINE (R218). -/
def opDigestDeadline (k : Nat) (s : State) : State :=
  if (taskOf s k).phase = .digest then
    let s := reach (digestDeadline s k) s
    if partnerAbsent s k then armTask k none s
    else
      let s := { s with twin := { s.twin with digMiss := satInc s.twin.digMiss } }
      armTask k none (record 0x040C 0x02A0 (items [k, (taskOf s k).cycle]) s)
  else s

/-- The module's DIGEST frame joins the link's queue, and the compare begins (R42, R217). -/
def digestSend (k : Nat) (s : State) : State :=
  let d := ownDigest s k
  let s := twMod k (fun x => { x with own := some d }) (taskMod k (fun t => { t with phase := .digest }) s)
  let rejoined := s.mode.role = .rejoining ∧ (twOf s k).joined
  let s := if sendsFor s k ∨ (s.twin.locked ∧ rejoined) then twinQueue
      { cls := 2, typ := 2, tag := 4096 * k, inc := d.incomplete, order := digestDeadline s k
        words := [k, d.cycle, d.t0, d.hash, d.dig1, d.dig2, d.doCmd.toNat, d.doMask.toNat, d.outTs] ++
          d.ao.flatMap fun x => [x.1, x.2] } s else s
  if partnerAbsent s k ∧ ¬ rejoinAt s (taskOf s k).start then armTask k none s
  else if rejoinAt s (taskOf s k).start ∧ s.mode.role ≠ .rejoining then armTask k none (digestTry k s)
  else digestTry k s

/-! ### The meanings -/

/-- SNAPSHOT_FRAME (R213). -/
def execSnapshotFrame (h : TwinHdr) (k idx : Nat) (last : Bool) (cycle t0 : Nat) (data : List Byte) (s : State) : Out :=
  .next (opSnapshotFrame h k idx last cycle t0 data s)
/-- DIGEST_FRAME (R217). -/
def execDigestFrame (h : TwinHdr) (k : Nat) (d : Digest) (s : State) : Out := .next (opDigestFrame h k d s)
/-- AGREEMENT_DEADLINE (R213). -/
def execAgreementDeadline (k : Nat) (s : State) : Out := .next (opAgreeDeadline k s)
/-- DIGEST_DEADLINE (R218). -/
def execDigestDeadline (k : Nat) (s : State) : Out := .next (opDigestDeadline k s)

end Sys2Proof.Machine
end

