-- ==== Sys2Proof/Machine/Scan.lean ====
section
/-!
DEFINITION. The scan cycle: starts (R29, R40, R46, R47, R49, R50), the end of LOGIC (R42), the output strobe (R43),
deadlines and watchdogs (R49, R52, R53).
-/
namespace Sys2Proof.Machine

/-! ### A task passes to the other program (R256, R257) -/

/-- Program `cur` with what belongs to task k taken from `new`. -/
def imgSwitch (k : Nat) (cur new : ProgImage) : ProgImage :=
  { cur with
    tasks := tabPut {} cur.tasks k (tabGet {} new.tasks k)
    chart := tabPut [] cur.chart k (tabGet [] new.chart k)
    slots := (cur.slots.filter fun c => c.owner != k) ++ (new.slots.filter fun c => c.owner == k)
    pages := (new.pages.filter fun x => pageTask x.2 == some k).foldl (fun t (p, u) => tabPut .unassigned t p u)
      (cur.pages.filter fun x => pageTask x.2 != some k)
    timers := (taskBlocks new k).foldl (fun t b => tabPut {} t b (tabGet {} new.timers b)) cur.timers
    outOwners := (cur.outOwners.filter fun o => o.task != k) ++ (new.outOwners.filter fun o => o.task == k) }

/-- The program a cut-over or rollback leads to. -/
def editTarget (s : State) : Option ProgImage :=
  if s.edit.rolling then s.edit.old else s.edit.delta.map Delta.image

/-- Task k runs the other program from the cycle that starts now (R256). -/
def switchTask (k c : Nat) (s : State) : State :=
  match editTarget s, s.img, s.edit.delta with
  | some p, some cur, some d =>
    let s := if s.edit.rolling then slotsSet p k c (mapInverse p d.map s.edit.oldBlocks k s) else mapTaskState p d.map k c s
    let left := s.edit.toSwitch.filter (· != k)
    { s with img := some (if left = [] then p else imgSwitch k cur p), edit := { s.edit with toSwitch := left } }
  | _, _, _ => s

/-- The affected tasks that have not yet passed to the other program pass now: none of them will take a cycle before the
next change of program (R256). -/
def editFlush (s : State) : State :=
  s.edit.toSwitch.foldl (fun s k => switchTask k ((taskOf s k).cycle + 1) s) s

/-! ### Forcing at a cycle start (R277) -/

/-- A forced point belongs to task k (R276). -/
def forceIn (s : State) (k kind idx : Nat) : Bool :=
  let pg (p : Nat) : Bool := (taskCfg s k).used && (taskCfg s k).pages.contains p
  if kind = 0 ∨ kind = 1 then pg 0
  else if kind = 2 then ownerOf s (idx / 8) == some k
  else if kind = 3 then pg 1
  else if kind = 4 then aoOwner s idx == some k
  else if idx < 0x10000 then pg (idx / 256)
  else ownerOf s (idx - 0x10000) == some k

/-- The 8 h of R277. -/
def forceHold : Nat := 28800000000000

/-- Changes the forcing table, and with it FORCING (R278). -/
def forcesPut (l : List ForcePoint) (s : State) : State :=
  modeChange 13 (fun s => { s with fab := { s.fab with forces := l } }) s

/-- A force's point as FORCE encodes it: KIND in [31:28], INDEX below (chapter 18). -/
def forcePoint (f : ForcePoint) : Nat := f.kind * 2 ^ 28 + f.index

/-- Releases the points that meet `p`; cause 1 command, 2 restart. -/
def forcesDrop (p : ForcePoint → Bool) (cause : Nat) (s : State) : State :=
  let l := s.fab.forces.filter p
  if l = [] then s
  else l.foldl (fun s f => record 0x0112 0 (items [forcePoint f, cause]) s) (forcesPut (s.fab.forces.filter fun f => !p f) s)

/-- Vital points of task k forced 8 h before `t` are released (R277). -/
def autoRelease (k t : Nat) (s : State) : State :=
  let old (f : ForcePoint) : Bool := f.vital && decide (f.ts + forceHold ≤ t) && forceIn s k f.kind f.index
  let l := s.fab.forces.filter old
  if l = [] then s
  else l.foldl (fun s f => record 0x0113 0 (items [forcePoint f] ++ item64 f.ts) s)
    (forcesPut (s.fab.forces.filter fun f => !old f) s)

/-! ### The start of a cycle (R40) -/

/-- Timers of a warm restart count from their task's first cycle (R58, R154). -/
def warmTimers (k start : Nat) (s : State) : State := match s.img with
  | none => s
  | some p =>
    (taskBlocks p k).foldl (fun s b =>
      let c := tabGet ({} : TimerCfg) p.timers b
      if c.retain && (c.kind == .ton || c.kind == .tof || c.kind == .tp) then
        { s with fab := { s.fab with blocks := tabMod {} s.fab.blocks b fun x => { x with last := BitVec.ofNat 48 start } } }
      else s) s

/-- A cycle of task k begins at `start`, for the scheduled instant `sched` (R40); `lateUs` and `pend` as R39 shows them. -/
def cycleStart (k start sched lateUs : Nat) (late pend : Bool) (s : State) : State :=
  let t := taskOf s k
  let s := if t.stretched then record 0x0101 (taskSrc s k) (items [k, t.cycle, lateUs]) s else s
  let s := if 0 < t.skipNext then record 0x0102 (taskSrc s k) (items [k, t.skipNext]) s else s
  let c := if t.started then (t.cycle + 1) % 2 ^ 32 else 0
  let s := if s.edit.toSwitch.contains k ∧ s.edit.tCut.getD 0 ≤ sched then switchTask k c s else s
  let s := autoRelease k start s
  let s := if t.first = .warm ∧ !t.started then warmTimers k start s else s
  let s := taskMod k (fun t => raCycle { t with
    cycle := c, start := start, sched := sched, lateUs := lateUs, late := late, pendFlag := pend
    skipFlag := decide (0 < t.skipNext), skipCnt := satAdd t.skipCnt t.skipNext, skipNext := 0
    overFlag := t.stretched, stretched := false, lateNext := false, started := true
    nextAt := if isCyclic k then some (gridAt (taskCfg s k) (sched + 1)) else none
    strobeAt := sched + (taskCfg s k).strobeOffset * 1000, outAt := 0, held := none
    outSnap := s.fab.outImg, exSnap := s.fab.exPub, forces := s.fab.forces
    taken := t.takenNext, takenNext := [], doneG := [], phase := .logic }) s
  let s := rejoinCapture k (joinFirst k (ctrAdd 15 (some k) none none 1 s))
  let own := ownSnapshot s k start
  let s := snapshotTaken k start s
  if twinOn s then
    let s := snapSend k own (twMod k (fun x => { x with snap := own }) (taskMod k (fun t => { t with phase := .agree }) s))
    if partnerAbsent s k && !follows s k then viewForm k none false s else agreeTry k s
  else logicStart k (viewSet k (finishView s k own) s)

/-- Task k may start a cycle. -/
def mayStart (s : State) (k : Nat) : Bool :=
  let t := taskOf s k
  scanning s && (taskCfg s k).used && t.mode == .running && t.phase == .idle && !t.ended && s.mode.power != .saving &&
    s.mode.role != .noRole

/-- SCHEDULED_INSTANT (R40): a cyclic task reaches its grid instant. A task in the safe state only counts its instants
for the Beam frames that R380 still owes. -/
def opScheduled (k : Nat) (s : State) : State :=
  match (taskOf s k).nextAt with
  | none => s
  | some t =>
    if !isCyclic k || (taskOf s k).lateNext then s
    else if mayStart s k then cycleStart k t t 0 false false (reach t s)
    else if (twOf s k).firstJoin && s.mode.role == .rejoining then rejoinFail 7 (reach t s)
    else if (taskOf s k).mode != .running && beamSafeLeft s k then
      let s := reach t s
      beamSafeDue k (taskMod k (fun x => { x with
        cycle := (x.cycle + 1) % 2 ^ 32, nextAt := some (gridAt (taskCfg s k) (t + 1)) }) s)
    else s

/-- The latest grid instant of task k at or before `t` (R50). -/
def gridBefore (s : State) (k t : Nat) : Nat :=
  gridAt (taskCfg s k) (t + 1) - (taskCfg s k).period * 1000

/-- LATE_CYCLE_START (R49, R50). -/
def opLateStart (k : Nat) (s : State) : State :=
  match (taskOf s k).nextAt with
  | none => s
  | some t =>
    if isCyclic k && (taskOf s k).lateNext && mayStart s k then
      let g := gridBefore s k t
      cycleStart k t g ((t - g) / 1000) (decide (g < t)) false (reach t s)
    else s

/-! ### Event tasks (R45 to R47) -/

/-- Number of a trigger kind in EVENT_LOST: the place of its row in R45's table. -/
def trigKind : Trigger → Nat
  | .none => 0 | .eventBit _ => 1 | .instant => 2 | .diChange _ _ _ => 3 | .canFilter _ _ => 4 | .beamConn _ => 5

/-- A trigger of event task k with instant `t0`: it starts a cycle, is held, or is lost (R46, R47, R402). -/
def triggerAt (k t0 : Nat) (s : State) : State :=
  let t := taskOf s k
  if isCyclic k || 16 ≤ k || (taskCfg s k).trigger == .none then s
  else if mayStart s k then cycleStart k t0 t0 0 false false s
  else if t.mode == .running && t.phase != .idle && scanning s then
    match t.held with
    | none => taskMod k (fun t => { t with held := some (now s) }) s
    | some _ => record 0x0105 (taskSrc s k) (items [k, trigKind (taskCfg s k).trigger])
        (taskMod k (fun t => { t with lostCnt := satInc t.lostCnt }) s)
  else s

/-- A trigger of event task k at this instant. -/
def triggerTask (k : Nat) (s : State) : State := triggerAt k (now s) s

/-! ### Deadlines and watchdogs (R49, R52, R53) -/

/-- The cycle has not ended LOGIC. -/
def inLogic (t : Task) : Bool := t.phase == .logic || t.phase == .agree

/-- A non-vital cyclic task passes its logic deadline: the cycle is stretched (R49). -/
def stretch (k : Nat) (s : State) : State :=
  taskMod k (fun t => { t with stretched := true, overrunCnt := satInc t.overrunCnt }) s

/-- LOGIC_DEADLINE (R49). -/
def opLogicDeadline (k : Nat) (s : State) : State :=
  let t := taskOf s k
  let c := taskCfg s k
  if isCyclic k && !c.vital && inLogic t && !t.stretched then stretch k (reach (t.strobeAt - 2 * c.tOut) s) else s

/-- WATCHDOG passes before LOGIC has ended (R52, R53); the first cycle of a rejoin is exempt (R240). -/
def opWatchdog (k : Nat) (vital : Bool) (s : State) : State :=
  let t := taskOf s k
  let c := taskCfg s k
  if c.vital == vital && c.used && inLogic t && !(twOf s k).firstJoin then
    let s := reach (t.start + c.watchdog * 1000) s
    if vital then sectorSafe c.sector 0x0103 (record 0x0103 (taskSrc s k) (items [k, t.cycle, c.sector]) s)
    else taskStop k (record 0x0104 (taskSrc s k) (items [k, t.cycle]) s)
  else s

/-! ### The end of LOGIC (R42) -/

/-- Every group of task k has ended and every store of it has reached its memory. -/
def logicDone (s : State) (k : Nat) : Bool :=
  decide ((taskChart s k).length ≤ (taskOf s k).doneG.length) &&
    s.fab.lamps.all fun x => x.2.drain.all fun e => e.task != k

/-- LOGIC_END at instant `t` (R42): OUT stages the owned bytes, the digest goes out, and the strobe is armed. -/
def opLogicEnd (k t : Nat) (s : State) : State :=
  let x := taskOf s k
  let c := taskCfg s k
  if x.phase ≠ .logic ∨ !logicDone s k then s
  else
    let s := reach t s
    if x.start + c.watchdog * 1000 < now s ∧ !(twOf s k).firstJoin then opWatchdog k c.vital s
    else
      let late := isCyclic k && !c.vital && !x.stretched && decide (x.strobeAt < now s + 2 * c.tOut)
      let s := if late then stretch k s else s
      let s := taskMod k (fun x => { x with staged := x.work, outAt := now s + 2 * c.tOut }) s
      let s := snapTry (proofApart k (proofCompare k s))
      if twinOn s then digestSend k s
      else taskMod k (fun x => { x with phase := .armed, strobeAt := if offGrid s k then x.outAt else x.strobeAt }) s

/-! ### The output strobe (R43) -/

/-- The output image with task k's bytes committed; `adopt` puts the partner's DO and AO commands in their place
(R218). -/
def commitOut (s : State) (k : Nat) (p : ProgImage) : Tab Byte :=
  let t := taskOf s k
  let m := (taskOuts p k).foldl (fun m o => bytePut m o (byteAt t.staged o)) s.fab.outImg
  match (twOf s k).adopt, (twOf s k).partner with
  | true, some d =>
    let m := (List.range 4).foldl (fun m j =>
      let mask := d.doMask.extractLsb' (8 * j) 8
      bytePut m j ((byteAt m j &&& ~~~mask) ||| (d.doCmd.extractLsb' (8 * j) 8 &&& mask))) m
    d.ao.foldl (fun m (n, v) => wordPut m (0x100 + 4 * n) (w32 v)) m
  | _, _ => m

/-- Reflex-request bits of the bytes task k owns, as committed (R43). -/
def reqCommit (k : Nat) (s : State) : State :=
  { s with rfx := { s.rfx with req := BitVec.ofNat 64 (maskN (fun n =>
      if ownerOf s (0x200 + n / 8) = some k then outBitAt s (0x200 + n / 8) (n % 8) else s.rfx.req.getLsbD n) 64) } }

/-- Event-request bits that task k's strobe raises (R45). -/
def raiseEvents (k : Nat) (s : State) : State :=
  if ownerOf s 0x208 = some k then
    (List.range 8).foldl (fun s n =>
      if outBitAt s 0x208 n ∧ (taskCfg s (8 + n)).trigger = .eventBit n then triggerTask (8 + n) s else s) s
  else s

/-- When a stop is declared, its T_stop (R274). -/
def stopAt (s : State) : Option Nat :=
  s.mode.declared.findSome? fun d => match d.kind with
    | .stop _ => some d.ts
    | _ => none

/-- The next grid instant of task k from `n`: on the grid of the other program where a cut-over has passed (R256). -/
def gridNext (s : State) (k n : Nat) : Nat :=
  let g := gridAt (taskCfg s k) n
  let t := s.edit.tCut.getD 0
  match s.edit.toSwitch.contains k, editTarget s with
  | true, some p => if t ≤ g then gridAt (tabGet {} p.tasks k) (max n t) else g
  | _, _ => g

/-! ### Stopping (R274) -/

/-- Task k has stopped: its last strobe is taken, or it does not run. -/
def taskEnded (s : State) (k : Nat) : Bool := (taskOf s k).ended || (taskOf s k).mode != .running

/-- Every task Beam connection is silent (R380). -/
def beamSilent (s : State) : State :=
  { s with beam := { s.beam with tx := s.beam.tx.map fun x => (x.1, { x.2 with state := 0, safeLeft := 0 }) } }

/-- The STOP column of R264 is applied to the field: sectors in RUN are in STOP, outputs at 0 and safe currents. -/
def stopField (s : State) : State :=
  let secs := ((tasksUsed s).map fun k => (taskCfg s k).sector).eraseDups
  let s := secs.foldl (fun s sec => if sectorState s sec = .run then setSector sec .stop s else s) s
  aoUpdate (latchUpdate (beamSilent (canDiscard (fun _ => true) s)))

/-- When every task has stopped, the field is in STOP and the stop save begins; with none to write, the stop can end
(R274). -/
def stopTry (s : State) : State :=
  if s.mode.stopStage = 1 ∧ (tasksUsed s).all (taskEnded s) then
    let s := snapDrop (stopField s)
    let (w, s) := if s.mode.stopImm then (false, s) else saveStart 2 1 s
    { s with mode := { s.mode with stopStage := if w then 2 else 3, stopSaveWritten := false } }
  else s

/-- After a strobe: the next start of a cyclic task (R29, R49, R50), the held trigger of an event task (R47), or the
end of the task in a stop (R274). -/
def afterStrobe (k : Nat) (s : State) : State :=
  let t := taskOf s k
  let c := taskCfg s k
  let n := now s
  let stop := match stopAt s with
    | some x => decide (x ≤ n)
    | none => false
  let s := taskMod k (fun t => { t with phase := .idle, first := .none }) s
  let s := if (twOf s k).firstJoin then twMod k (fun x => { x with firstJoin := false }) s else s
  if t.mode ≠ .running then s
  else if stop then stopTry (taskMod k (fun t => { t with ended := true, nextAt := none, held := none }) s)
  else if isCyclic k then
    let next := gridAt c (t.sched + 1)
    if t.stretched then
      let b := max (usCeil n) next
      let g := if b = next then next else gridAt c (b + 1) - c.period * 1000
      let skip := (g - t.sched) / max 1 (c.period * 1000) - 1
      taskMod k (fun t => { t with nextAt := some b, lateNext := decide (g < b) || decide (next < b), skipNext := skip }) s
    else taskMod k (fun t => { t with nextAt := some (gridNext s k (t.sched + 1)) }) s
  else match t.held with
    | some h => cycleStart k n n ((n - h) / 1000) true true s
    | none => s

/-- Role changes that a strobe decides (R218, R219, R241). -/
def strobeRoles (k : Nat) (s : State) : State :=
  let x := twOf s k
  if x.adopt then
    let s := roleSet .rejoining 11 (now s) s
    { s with twin := { s.twin with partnerRole := .principal } }
  else if x.takeOver ∧ s.mode.role = .assistant then
    let s := roleSet .principal 11 (now s) s
    { s with twin := { s.twin with partnerRole := .rejoining } }
  else if s.mode.role = .rejoining ∧ s.twin.rejoin.tAssist.isSome ∧ !rejoinAt s (taskOf s k).start ∧ !x.alone then
    let r := s.twin.rejoin
    let s := record 0x040F 0 (items [r.bytes, r.pass, r.ms]) (roleSet .assistant 10 (now s) s)
    { s with twin := { s.twin with rejoin := { r with
        phase := 0, result := 1, attempt := 0, tJoin := none, tAssist := none, retryAt := none, done := [] } } }
  else s

/-- OUTPUT_STROBE (R43): `line` and `drv` are the readback at the strobe, `clamps` the estimates of R296, `bad` the
transmit connections on whose frame the safety channels disagree. -/
def opStrobe (k : Nat) (line drv : Word) (clamps : List (Nat × Nat)) (bad : List Nat) (s : State) : State :=
  match s.img with
  | none => s
  | some p =>
    let t := taskOf s k
    if t.phase ≠ .armed ∨ t.mode ≠ .running then s
    else
      let s := shadowStrobe k (reach t.strobeAt s)
      let oldCmd := maskW (doCmd s)
      let oldReq := maskW fun n => outBitAt s (4 + n / 8) (n % 8)
      let s := if s.dio.strobeTs = some (now s) then s
        else { s with dio := { s.dio with lineOld := s.dio.line, strobeTs := some (now s) } }
      let adopt := (twOf s k).adopt
      let s := exCommit k { s with fab := { s.fab with outImg := commitOut s k p } }
      let s := traceImages k 1 0x10000 (taskSrc s k) t.cycle t.commit t.staged (ctrAdd 16 (some k) none none 1 s)
      let s := taskMod k (fun t => { t with outForces := t.forces, strobed := true, commit := t.staged, commitCycle := t.cycle }) s
      let s := latchUpdate (rfxUpdate (reqCommit k s))
      let s := doStrobe k oldCmd oldReq line drv s
      let s := aoStrobe k (latchUpdate s)
      let s := beamStrobe k (outForced s k) adopt bad (canStrobe k adopt s)
      let s := clamps.foldl (fun s (n, mj) => doClamp n mj s) s
      let s := if clamps = [] then s else lifeCheck 1 s
      let s := strobeRoles k s
      afterStrobe k (raiseEvents k s)

/-! ### The meanings -/

/-- SCHEDULED_INSTANT (R40). -/
def execScheduledInstant (k : Nat) (s : State) : Out := .next (opScheduled k s)
/-- EVENT_TRIGGER (R46). -/
def execEventTrigger (k : Nat) (s : State) : Out := .next (triggerTask k s)
/-- LOGIC_END (R42). -/
def execLogicEnd (k t : Nat) (s : State) : Out := .next (opLogicEnd k t s)
/-- OUTPUT_STROBE (R43). -/
def execOutputStrobe (k : Nat) (line drv : Word) (clamps : List (Nat × Nat)) (bad : List Nat) (s : State) : Out :=
  .next (opStrobe k line drv clamps bad s)
/-- LOGIC_DEADLINE (R49). -/
def execLogicDeadline (k : Nat) (s : State) : Out := .next (opLogicDeadline k s)
/-- LATE_CYCLE_START (R50). -/
def execLateCycleStart (k : Nat) (s : State) : Out := .next (opLateStart k s)
/-- TASK_WDG_VITAL (R52). -/
def execTaskWdgVital (k : Nat) (s : State) : Out := .next (opWatchdog k true s)
/-- TASK_WDG_NONVITAL (R53). -/
def execTaskWdgNonvital (k : Nat) (s : State) : Out := .next (opWatchdog k false s)

end Sys2Proof.Machine
end

