-- ==== Sys2Proof/Machine/Lockstep.lean ====
section
/-!
DEFINITION. Locked ranges and galleries: mismatch, LBIST, retirement and relocation (R186 to R193, R90, R91), split and
join (R197 to R199), gallery power (R92 to R94), the interconnect checker (R95), scrubbing (R118) and the restart of a
sector (R191, R192).
-/
namespace Sys2Proof.Machine

/-! ### Placement in a gallery (R64, R89, R90) -/

/-- The range can carry placed work: it is neither RETIRED nor, outside a split sector, HALF. -/
def rangeFit (x : Gallery) (r : Nat) : Bool :=
  let y := tabGet ({} : Range) x.ranges r
  y.st != .retired && (y.st != .half || x.split)

/-- The spares a gallery's program sets: the highest-numbered whole ranges (R89). -/
def spareList (x : Gallery) : List Nat :=
  (((List.range 16).reverse.filter fun r =>
    let y := tabGet ({} : Range) x.ranges r
    y.st != .retired && y.st != .half).take x.sparesCfg)

/-- Places the ranges of a powered gallery afresh: spares, and the logical numbers of the others in rising order. -/
def galPlace (g : Nat) (s : State) : State :=
  let x := galOf s g
  let sp := spareList x
  let work := (List.range 16).filter fun r => rangeFit x r && !sp.contains r
  galMod g (fun x => { x with
    spare := BitVec.ofNat 16 (sp.foldl (fun m r => m + 2 ^ r) 0), lent := 0
    lmap := ((List.range 16).zip work).foldl (fun t (l, r) => tabPut none t l (if l = r then none else some r)) []
    ranges := (List.range 16).foldl (fun t r => tabMod {} t r fun y =>
      if y.st = .half ∨ y.st = .retired then y
      else
        let w : RangeState := if sp.contains r then .spare else .inService
        if y.st = .lbist ∨ y.changing then { y with was := w } else { y with st := w, was := w }) x.ranges }) s

/-- The logical range that physical range r serves, if it is not a spare. -/
def logicalOf (s : State) (g r : Nat) : Option Nat :=
  if (galOf s g).spare.getLsbD r || (galOf s g).lent.getLsbD r then none
  else (List.range 16).find? fun l => physOf s g l == r

/-- Every group of the sector's tasks has a range that can serve it (R91). -/
def sectorFits (s : State) (sec : Nat) : Bool :=
  (sectorTasks s sec).all fun k => (taskChart s k).all fun c =>
    rangeFit (galOf s c.gallery) (lampRange (groupLamp s c))

/-- The lowest-numbered available spare of a gallery; one on loan is taken when no other is left (R90). -/
def spareFor (s : State) (g : Nat) : Option (Nat × Bool) :=
  let x := galOf s g
  match (List.range 16).find? fun r => x.spare.getLsbD r && (tabGet ({} : Range) x.ranges r).st == .spare with
  | some r => some (r, false)
  | none => ((List.range 16).find? fun r => x.lent.getLsbD r).map fun r => (r, true)

/-- Relocates the logical range of a lost physical range (R90, R91); the new physical range. -/
def relocate (g r : Nat) (s : State) : Option Nat × State :=
  match logicalOf s g r with
  | none =>
    (none, galMod g (fun x => { x with spare := x.spare &&& ~~~(BitVec.ofNat 16 (2 ^ r)) }) s)
  | some l =>
    match spareFor s g with
    | none => (none, record 0x0203 (0x10 + g) (items [g, (galOf s g).sector]) s)
    | some (n, lent) =>
      let s := if lent then record 0x0204 (0x10 + g) (items [g, n]) (proofAbort 7 s) else s
      let s := galMod g (fun x => { x with
        lmap := tabPut none x.lmap l (if l = n then none else some n), relocCnt := satInc x.relocCnt
        spare := x.spare &&& ~~~(BitVec.ofNat 16 (2 ^ n)), lent := x.lent &&& ~~~(BitVec.ofNat 16 (2 ^ n))
        ranges := tabMod {} x.ranges n fun y => { y with st := .inService, was := .inService } }) s
      (some n, record 0x0202 (0x10 + g) (items [g, l, r, n]) s)

/-! ### Restart of a sector (R191, R192, R451) -/

/-- RESTART_COLD of a task or sector; `cause` 1 power-up, 2 run command, 3 sector restart, 4 task restart. -/
def recCold (cause : Nat) (s : State) : State :=
  record 0x0106 0 (items [cause] ++ item128 ((s.img.map ProgImage.id).getD 0)) s

/-- RESTART_WARM: the source, 1 save or 2 snapshot, and its TS64. -/
def recWarm (a : RetArea) (s : State) : State :=
  record 0x0107 0 (items [if a.kind ≤ 2 then 1 else 2] ++ item64 a.ts) s

/-- The tasks of a sector restart warm, or cold where no source exists, at their first grid instant at or after `t`;
its cuts close and it is in RUN (R192). -/
def sectorRestart (sec t : Nat) (s : State) : State :=
  let ks := sectorTasks s sec
  let src := retainSource s
  let s := match src with
    | some _ => s
    | none => record 0x0108 0 (items [fallbackReason s]) s
  let s := setSector sec .run s
  let s := forcesDrop (fun f => ks.any fun k => forceIn s k f.kind f.index) 2 s
  let s := ks.foldl (fun s k => taskRestart k (if src.isSome then .warm else .cold) src t s) s
  let s := cutsClose (fun g => match ownerOf s g with
    | some k => ks.contains k
    | none => false) s
  match src with
  | some a => recWarm a s
  | none => recCold 3 s

/-- The restart without command after a mismatch (R191): in a solo module, within the count. -/
def autoRestart (sec : Nat) (s : State) : State :=
  if sectorState s sec ≠ .safe ∨ !(sectorTasks s sec).all (fun k => (taskCfg s k).autoRestart) ∨ twinOn s ∨
      !sectorFits s sec ∨ !scanning s then s
  else
    let h := (tabGet [] s.fab.autoRestarts sec).filter fun t => decide (now s < t + 3600000000000)
    if 3 ≤ h.length then record 0x0307 0 (items [sec] ++ item64 (h.getLast?.getD 0)) s
    else
      let s := { s with fab := { s.fab with autoRestarts := tabPut [] s.fab.autoRestarts sec (now s :: h) } }
      record 0x0306 0 (items [sec, h.length + 1]) (sectorRestart sec (now s + 1544) s)

/-! ### Mismatch (R186, R187) -/

/-- State code of a range (FAB_n_RANGE_r). -/
def rangeCode : RangeState → Nat
  | .off => 0 | .inService => 1 | .spare => 2 | .lent => 3 | .lbist => 4 | .half => 5 | .retired => 6

/-- Scratch of a range is zero. -/
def scratchZero (g r : Nat) (s : State) : State :=
  galMod g (fun x => { x with scratch := x.scratch.filter fun e => !(decide (0x8000 * r ≤ e.1) && decide (e.1 < 0x8000 * (r + 1))) }) s

/-- Both lamps of a range stop and lose what they hold. -/
def rangeClear (g r : Nat) (s : State) : State :=
  { s with fab := { s.fab with lamps := s.fab.lamps.filter fun x => x.1 / 2 != 16 * g + r } }

/-- LBIST starts on a range (R189). -/
def lbistStart (g r : Nat) (cause : LbistCause) (s : State) : State :=
  rangeClear g r (rangeMod g r (fun x => { x with
    st := .lbist, lbCause := cause, outcome := .running, compare := false, changing := false, lbTs := now s }) s)

/-- LOCKSTEP_MISMATCH: output code, main and checker values (R186, R187). -/
def opMismatch (g r code : Nat) (main chk : Word) (s : State) : State :=
  let x := rangeOf s g r
  if 16 ≤ g ∨ 16 ≤ r ∨ x.split ∨ !(x.st == .inService || x.st == .spare || x.st == .lent) then s
  else
    let l := lampOf s (32 * g + 2 * r)
    let idle := l.mode == .idle
    let k := if idle then 0 else l.task
    let j := if idle then 0 else l.group
    let sec := (galOf s g).sector
    let run := x.st == .inService && (galOf s g).sstate == .run
    let host := x.st == .lent || (galOf s g).sstate == .shadow
    let s := rangeMod g r (fun x => { x with
      mismatchCnt := satInc x.mismatchCnt, lastTs := now s, sigValid := true, sigWarm := false, sig := code
      sigTask := k, sigGroup := j, lastMain := main, lastChk := chk }) s
    let s := record 0x0301 (rangeSrc g r) (items [code, main.toNat, chk.toNat, k, j,
      if idle then 0 else (taskOf s k).cycle, rangeCode x.st]) s
    let s := if host then proofAbort 7 s else s
    let s := if run then sectorSafe sec 0x0301 s else s
    lbistStart g r .mismatch (rangeMod g r (fun y => { y with was := if x.st = .lent then .spare else x.st }) s)

/-! ### The outcome of LBIST (R189 to R193) -/

/-- Cause code of an LBIST run. -/
def lbCode : LbistCause → Nat
  | .wake => 0 | .mismatch => 1 | .warm => 2 | .retest => 3

/-- A range-retest ends with its third run (R193): pass bits, and whether the record is cleared. -/
def retestDone (g r bits : Nat) (s : State) : State :=
  let ok := bits == 63
  let s := record 0x030B (rangeSrc g r) (items [bits, b2n ok]) s
  let s := rangeMod g r (fun x => { x with retest := 0, retestBits := bits }) s
  let s := if ok then
      nvmJournal 4 (galMod g (fun y => { y with spare := y.spare ||| BitVec.ofNat 16 (2 ^ r) })
        (rangeMod g r (fun x => { x with
          lamp0Ok := true, lamp1Ok := true, persist := false, was := .spare, changing := true, chgTrig := 4
          chgSplit := false, outcome := .none }) s))
    else rangeMod g r (fun x => { x with st := x.was }) s
  match s.kp.long.find? fun l => l.req.opcode == 0x0215 && (l.req.args.getD 0 0).toNat % 256 == 16 * g + r with
  | some l => longDone l.req 0 [w32 (bits + if ok then 256 else 0)] s
  | none => s

/-- A lamp, or both, of a range are retired (R190, R193). -/
def retire (g r : Nat) (p0 p1 : Bool) (s : State) : State :=
  let half := p0 || p1
  let log := (logicalOf s g r).getD 255
  let s := nvmJournal 4 (rangeMod g r (fun x => { x with
    st := if half then .half else .retired, lamp0Ok := p0, lamp1Ok := p1, persist := true
    outcome := if half then (if p0 then .lamp1 else .lamp0) else .range }) s)
  let (n, s) := relocate g r s
  let phys := n.getD 255
  if half then record 0x0304 (rangeSrc g r) (items [if p0 then 1 else 0, log, phys]) s
  else record 0x0305 (rangeSrc g r) (items [log, phys]) s

/-- LBIST_RESULT: which lamps pass (R189, R190, R191). -/
def opLbist (g r : Nat) (p0 p1 : Bool) (s : State) : State :=
  let x := rangeOf s g r
  if 16 ≤ g ∨ 16 ≤ r ∨ x.st ≠ .lbist ∨ x.changing then s
  else
    let s := reach (x.lbTs + 2000000) s
    let s := scratchZero g r (rangeMod g r (fun x => { x with
      lbistCnt := satInc x.lbistCnt, lbDone := true, lb0Pass := p0, lb1Pass := p1, lbUs := 2000 }) s)
    let s := record 0x0302 (rangeSrc g r) (items [lbCode x.lbCause, b2n p0, b2n p1, 2000]) s
    if x.lbCause = .retest then
      let bits := x.retestBits + b2n p0 * 2 ^ (2 * (3 - x.retest)) + b2n p1 * 2 ^ (2 * (3 - x.retest) + 1)
      if x.retest ≤ 1 then retestDone g r bits s
      else rangeMod g r (fun x => { x with retest := x.retest - 1, retestBits := bits, lbTs := now s }) s
    else
      let s := if p0 && p1 then
          let s := rangeMod g r (fun x => { x with
            changing := true, chgTrig := 4, chgSplit := false
            transientCnt := if x.lbCause = .mismatch then satInc x.transientCnt else x.transientCnt
            outcome := if x.lbCause = .mismatch then .transient else .none }) s
          if x.lbCause = .mismatch then record 0x0303 (rangeSrc g r) (items [(rangeOf s g r).transientCnt]) s else s
        else retire g r p0 p1 s
      if x.lbCause = .mismatch then autoRestart (galOf s g).sector s else s

/-! ### Split and join (R197 to R200) -/

/-- The lamps of the range have no work and their store buffers are empty. -/
def rangeQuiet (s : State) (g r : Nat) : Bool :=
  [0, 1].all fun l =>
    let x := lampOf s (32 * g + 2 * r + l)
    x.mode == .idle && x.drain.isEmpty && x.specs.isEmpty

/-- RANGE_SPLIT (R198): 512 fc after a drain of `d` fc. -/
def opSplit (g r d : Nat) (s : State) : State :=
  let x := rangeOf s g r
  if g < 16 ∧ x.changing ∧ x.chgSplit ∧ rangeQuiet s g r then
    let s := scratchZero g r (rangeMod g r (fun x => { x with
      split := true, compare := false, splitCnt := satInc x.splitCnt, changing := false
      st := if x.st = .lbist then x.was else x.st }) s)
    takeGroups (record 0x0308 (rangeSrc g r) (items [x.chgTrig, 512 + min d 64]) s)
  else s

/-- RANGE_JOINED (R199): 772 fc after a drain of `d` fc. A range of a split gallery splits next. -/
def opJoined (g r d : Nat) (s : State) : State :=
  let x := rangeOf s g r
  if g < 16 ∧ x.changing ∧ !x.chgSplit ∧ rangeQuiet s g r then
    let again := (galOf s g).split && x.was == .inService
    let s := scratchZero g r (rangeMod g r (fun x => { x with
      split := false, compare := true, warm := false, joinCnt := satInc x.joinCnt, lamp0Ok := true, lamp1Ok := true
      changing := again, chgSplit := again, st := if x.st = .lbist then x.was else x.st }) s)
    takeGroups (record 0x0309 (rangeSrc g r) (items [x.chgTrig, 772 + min d 64]) s)
  else s

/-- JOIN_FAILED (R199): output code, values, and fc into the warm compare. -/
def opJoinFailed (g r code : Nat) (main chk : Word) (fc : Nat) (s : State) : State :=
  let x := rangeOf s g r
  if g < 16 ∧ x.changing ∧ !x.chgSplit ∧ rangeQuiet s g r then
    let s := rangeMod g r (fun x => { x with
      mismatchCnt := satInc x.mismatchCnt, lastTs := now s, sigValid := true, sigWarm := true, sig := code, sigTask := 0
      sigGroup := 0, lastMain := main, lastChk := chk, was := if x.st = .lbist then x.was else x.st }) s
    lbistStart g r .warm (record 0x030A (rangeSrc g r) (items [code, fc]) s)
  else s

/-! ### Gallery power (R92 to R94) -/

/-- A condition of R92 keeps the gallery powered. -/
def galNeeded (s : State) (g : Nat) : Bool :=
  let x := galOf s g
  x.sstate != .unassigned || x.lent != 0 || (mbxOf s (8 + g)).fk.full || x.wakePending

/-- GALLERY_SLEEP (R92): 100 ms without need have passed. -/
def opGalSleep (g : Nat) (s : State) : State :=
  let x := galOf s g
  if g < 16 ∧ x.power = .on ∧ !galNeeded s g then
    let s := galMod g (fun x => { x with
      power := .off, memReady := false, imem := [], data := [], scratch := []
      ranges := x.ranges.map fun (r, y) => (r, if y.st = .half ∨ y.st = .retired then { y with compare := false }
        else { y with st := .off, compare := false, changing := false, lbDone := false }) }) s
    record 0x0206 (0x10 + g) (items [g])
      { s with fab := { s.fab with lamps := s.fab.lamps.filter fun l => l.1 / 32 != g } }
  else s

/-- A trigger to wake the gallery, with its cause: 1 sector, 2 proof run, 3 mailbox (R93). -/
def galWake (g cause : Nat) (s : State) : State :=
  galMod g (fun x => if x.power = .on ∨ x.wakePending then x else { x with wakePending := true, wakeCause := cause }) s

/-- GALLERY_WAKE: ON is reached `us` µs after the trigger; memories are zeroed and LBIST runs (R93, R189). -/
def opGalWake (g us : Nat) (s : State) : State :=
  let x := galOf s g
  if g < 16 ∧ x.power = .off ∧ x.wakePending then
    let s := advance (1000 * min us 40) s
    let s := galMod g (fun x => { x with
      power := .on, memReady := false, powerFault := false, wakePending := false, wakeCnt := satInc x.wakeCnt
      wakeTs := s.time.mono, imem := [], data := [], scratch := [], scrubLine := 0 }) s
    let s := (List.range 16).foldl (fun s r =>
      let y := rangeOf s g r
      if y.st = .half ∨ y.st = .retired then s
      else lbistStart g r .wake (rangeMod g r (fun y => { y with lbDone := false }) s)) s
    record 0x0205 (0x10 + g) (items [g, x.wakeCause, min us 40]) (galPlace g s)
  else s

/-- Copies the code of each rung group of some tasks of a program to the gallery a placement puts the group in (R249). -/
def codeLoad (p : ProgImage) (ks : List Nat) (q : Placement) (g : Nat) (s : State) : State :=
  ks.foldl (fun s k => ((tabGet [] p.chart k).zip (tabGet [] q.chart k)).foldl (fun s (a, b) =>
    if b.gallery = g then
      let src := (tabGet ({} : GalleryCfg) p.gal a.gallery).imem
      galMod g (fun x => { x with imem := (List.range a.len).foldl (fun m i =>
        tabPut 0 m (a.entry / 4 + i) (tabGet 0 src (a.entry / 4 + i))) x.imem }) s
    else s) s) s

/-- The code and initial data of a gallery that the image gives it. -/
def galLoad (g : Nat) (s : State) : State := match s.img with
  | none => s
  | some p =>
    let s := match s.edit.delta, shadowPlace s with
      | some d, some q => codeLoad d.image d.affected q g s
      | _, _ => s
    let c := tabGet ({} : GalleryCfg) p.gal g
    if c.sector.isSome then galMod g (fun x => { x with imem := c.imem, data := c.data }) s else s

/-- MEM_READY (R93). -/
def opMemReady (g : Nat) (s : State) : State :=
  let x := galOf s g
  if g < 16 ∧ x.power = .on ∧ !x.memReady then
    takeGroups (galLoad g (galMod g (fun x => { x with memReady := true }) s))
  else s

/-- GALLERY_POWER_FAULT (R94, R430). -/
def opGalFault (g : Nat) (s : State) : State :=
  let x := galOf s g
  if g < 16 ∧ x.power ≠ .off ∧ !x.powerFault then
    let s := galMod g (fun x => { x with powerFault := true, power := .off, memReady := false }) s
    let s := record 0x0207 (0x10 + g) (items [g, x.sector]) s
    let s := if x.sstate = .run then sectorSafe x.sector 0x0207 s else s
    let s := if x.lent != 0 ∨ x.sstate = .shadow then proofAbort 7 s else s
    let s := galMod g (fun x => { x with imem := [], data := [], scratch := [] }) s
    unitDown g 1 { s with fab := { s.fab with lamps := s.fab.lamps.filter fun l => l.1 / 32 != g } }
  else s

/-! ### The interconnect and the scrubber -/

/-- INTERCONNECT_FAULT: `data` for an error on a data path (R95). -/
def opIcxFault (data : Bool) (s : State) : State :=
  if s.fab.icxFail then s
  else enterSafe 0x02D0 0x020A true (record 0x020A 0 (items [b2n data]) { s with fab := { s.fab with icxFail := true } })

/-- SCRUB_LINE (R116 to R118): the scrubber reads a line of memory `mem` of gallery `g` and meets `mark` in the word at
byte `off`. -/
def opScrub (mem g off : Nat) (mark : EccMark) (s : State) : State :=
  if mem = 0 ∨ 7 < mem ∨ (mem ≤ 3 ∧ (16 ≤ g ∨ !(galOf s g).memReady)) then s
  else
    let unit := if mem ≤ 3 then g else 0
    let src := if mem ≤ 3 then 0x10 + g else 0
    let s := if mem ≤ 3 then galMod g (fun x => { x with scrubLine := (x.scrubLine + 1) % 49152 }) s else s
    match mark with
    | .ok => s
    | .single =>
      let s := if mem ≤ 3 then
          galMod g (fun x => { x with eccCorr := satInc x.eccCorr, eccAddr := fldF mem 28 ||| fldF (off % 2 ^ 28) 0 }) s
        else s
      record 0x0208 src (items [mem, off]) s
    | .double => eccUncorr g mem off (if mem = 3 then off / 0x8000 else 0) src (eccLeave mem unit off .double s)

/-! ### The meanings -/

/-- LOCKSTEP_MISMATCH (R186). -/
def execLockstepMismatch (g r code : Nat) (main chk : Word) (s : State) : Out := .next (opMismatch g r code main chk s)
/-- LBIST_RESULT (R190). -/
def execLbistResult (g r : Nat) (p0 p1 : Bool) (s : State) : Out := .next (opLbist g r p0 p1 s)
/-- RANGE_SPLIT (R198). -/
def execRangeSplit (g r d : Nat) (s : State) : Out := .next (opSplit g r d s)
/-- RANGE_JOINED (R199). -/
def execRangeJoined (g r d : Nat) (s : State) : Out := .next (opJoined g r d s)
/-- JOIN_FAILED (R199). -/
def execJoinFailed (g r code : Nat) (main chk : Word) (fc : Nat) (s : State) : Out :=
  .next (opJoinFailed g r code main chk fc s)
/-- GALLERY_SLEEP (R92). -/
def execGallerySleep (g : Nat) (s : State) : Out := .next (opGalSleep g s)
/-- GALLERY_WAKE (R93). -/
def execGalleryWake (g us : Nat) (s : State) : Out := .next (opGalWake g us s)
/-- MEM_READY (R93). -/
def execMemReady (g : Nat) (s : State) : Out := .next (opMemReady g s)
/-- GALLERY_POWER_FAULT (R94). -/
def execGalleryPowerFault (g : Nat) (s : State) : Out := .next (opGalFault g s)
/-- INTERCONNECT_FAULT (R95). -/
def execInterconnectFault (data : Bool) (s : State) : Out := .next (opIcxFault data s)
/-- SCRUB_LINE (R118). -/
def execScrubLine (mem g off : Nat) (mark : EccMark) (s : State) : Out := .next (opScrub mem g off mark s)

end Sys2Proof.Machine
end

