-- ==== Sys2Proof/Machine/RegsIo.lean ====
section
/-!
DEFINITION. Register windows DIN_, DOUT_, ALP_, CAN_ and NET_ (R304, R305, R324, R362, R387).
-/
namespace Sys2Proof.Machine

/-- DIN_TP_s. -/
def regTp (s : State) (k : Nat) : Word :=
  let c := tpCfg s k
  bitF c.en 31 ||| bitF (srcOf s k).srcFault 30 ||| fldF c.width 16 ||| fldF c.period 0

/-- DIN_DEB_n. -/
def regDeb (s : State) (n : Nat) : Word :=
  let c := diCfg s n
  bitF c.tpEn 31 ||| fldF c.tpSrc 24 ||| fldF c.deb 0

/-- DIN_PAIR_k. -/
def regPair (s : State) (k : Nat) : Word :=
  let c := pairCfg s k
  let p := pairOf s k
  bitF c.en 31 ||| bitF c.anti 30 ||| bitF c.autoClear 29 ||| bitF p.fault 28 ||| bitF p.clearPend 27 ||| bitF p.disc 26 |||
    fldF c.tDisc 0

/-- The DIN_ window (R304). -/
def regDin (s : State) (o : Nat) : Word :=
  let grp (g : Nat) : DiGroup := tabGet {} s.dio.groups g
  if o = 0x000 then
    fldF (maskN (fun g => (grp g).low) 4) 12 ||| fldF (maskN (fun g => (grp g).missing) 4) 8 ||| bitF s.dio.configured 1 |||
      bitF (buoyAuth s 0) 0
  else if o = 0x004 then maskW (diDeb s)
  else if o = 0x008 then maskW fun n => diDeb s (n + 32)
  else if o = 0x00C then maskW (diByp s)
  else if o = 0x010 then maskW fun n => diByp s (n + 32)
  else if o = 0x014 then maskW fun k => (pairOf s k).value
  else if o = 0x018 then maskW fun k => (pairOf s k).fault
  else if o = 0x01C then maskW fun k => (pairOf s k).disc
  else if o = 0x020 then maskW (diTpFault s)
  else if o = 0x024 then maskW fun n => diTpFault s (n + 32)
  else if 0x030 ≤ o ∧ o < 0x040 then
    let g := grp ((o - 0x30) / 4)
    bitF g.missing 31 ||| bitF g.low 30 ||| fldF (g.mv % 65536) 0
  else if 0x040 ≤ o ∧ o < 0x060 then regTp s ((o - 0x40) / 4)
  else if o = 0x080 then w32 s.dio.pairFaultCnt
  else if o = 0x084 then w32 s.dio.tpFaultCnt
  else if o = 0x088 then w32 s.dio.missingCnt
  else if 0x100 ≤ o ∧ o < 0x200 then regDeb s ((o - 0x100) / 4)
  else if 0x200 ≤ o ∧ o < 0x280 then regPair s ((o - 0x200) / 4)
  else 0

/-- DOUT_GROUP_g; a latched cause shows before the safe state (assumption log, entry 44). -/
def regDoGroup (s : State) (g : Nat) : Word :=
  let x := dgrpOf s g
  bitF (cutIsOpen s g) 31 ||| bitF x.aFail 30 ||| bitF x.bFail 29 ||| bitF x.overload 28 |||
    fldF (if x.latched ≠ 0 then x.latched else if x.safe then 1 else 0) 24 ||| fldF (x.ma % 65536) 0

/-- The DOUT_ window (R305). -/
def regDout (s : State) (o : Nat) : Word :=
  let m (f : DoCh → Bool) : Word := maskW fun n => f (dchOf s n)
  if o = 0x000 then
    bitF (twinOn s && (s.mode.role != .principal || !s.twin.locked)) 5 ||| bitF s.dio.buoyOver 4 ||| bitF s.dio.supLow 3 |||
      bitF s.dio.supMissing 2 ||| bitF s.dio.configured 1 ||| bitF (buoyAuth s 1) 0
  else if o = 0x004 then wordAt s.fab.outImg 0
  else if o = 0x008 then maskW (doLatch s true)
  else if o = 0x00C then s.dio.line
  else if o = 0x010 then s.dio.drv
  else if o = 0x014 then m fun c => c.short || c.overload
  else if o = 0x018 then m DoCh.isOpen
  else if o = 0x01C then m DoCh.stuckOn
  else if o = 0x020 then m DoCh.stuckOff
  else if o = 0x024 then m DoCh.notDone
  else if o = 0x028 then fldF s.dio.cfg.cutPeriod 16 ||| fldF s.dio.cfg.stuckFilter 0
  else if o = 0x02C then w32 s.dio.buoyMa
  else if 0x030 ≤ o ∧ o < 0x040 then regDoGroup s ((o - 0x30) / 4)
  else if o = 0x080 then w32 s.dio.shortCnt
  else if o = 0x084 then w32 s.dio.openCnt
  else if o = 0x088 then w32 s.dio.stuckCnt
  else if o = 0x08C then w32 s.dio.testCnt
  else if o = 0x090 then w32 s.dio.skipCnt
  else if o = 0x094 then w32 s.dio.cutCnt
  else if o = 0x098 then w32 s.dio.clampCnt
  else if 0x100 ≤ o ∧ o < 0x180 then
    let c := doCfg s ((o - 0x100) / 4)
    bitF c.olEn 31 ||| bitF c.darkEn 30 ||| fldF c.pulseUs 16 ||| fldF c.period 0
  else if 0x180 ≤ o ∧ o < 0x200 then
    let c := dchOf s ((o - 0x180) / 4)
    fldF (min 0xFFFF c.clampMj) 16 ||| fldF (min 0xFFFF c.ma) 0
  else 0

/-- ALP_LI_DIAG_n. -/
def regLiDiag (s : State) (n : Nat) : Word :=
  let x := liOf s n
  bitF x.starved 31 ||| bitF x.supLimit 30 ||| fldF (liCfg s n).rLoop 20 ||| fldF (min 255 (x.utMv / 100).toNat) 8 |||
    fldF (min 255 (x.usMv / 100)) 0

/-- ALP_HART_n. -/
def regHart (s : State) (n : Nat) : Word :=
  let h := hartOf s n
  fldF (hartCode h.st) 30 ||| bitF ((liCfg s n).hartEn && !hartMaster s) 29 ||| bitF h.pass.isSome 28 |||
    fldF (min 3 h.fails) 24 ||| fldF (liCfg s n).hartPeriod 0

/-- The ALP_ window (R324). -/
def regAlp (s : State) (o : Nat) : Word :=
  if o = 0x000 then
    fldF (maskN (fun n => (loOf s n).comp) 8) 24 ||| fldF (maskN (fun n => (liOf s n).faultLow || (liOf s n).faultHigh) 16) 8 |||
      bitF s.loop.supMissing 2 ||| bitF s.loop.configured 1 ||| bitF (buoyAuth s 2) 0
  else if o = 0x004 then w32 (s.loop.winTs / 1000000)
  else if 0x040 ≤ o ∧ o < 0x080 then BitVec.ofInt 32 (liOf s ((o - 0x40) / 4)).val
  else if 0x080 ≤ o ∧ o < 0x0C0 then
    let c := liCfg s ((o - 0x80) / 4)
    bitF c.supplyEn 31 ||| bitF c.namurEn 30 ||| bitF c.hartEn 29 ||| bitF c.filter5 28 ||| fldF c.namurFilter 16 ||| fldF c.utMin 8
  else if 0x0C0 ≤ o ∧ o < 0x100 then regLiDiag s ((o - 0xC0) / 4)
  else if 0x100 ≤ o ∧ o < 0x120 then BitVec.ofInt 32 (loOf s ((o - 0x100) / 4)).rb
  else if 0x120 ≤ o ∧ o < 0x140 then
    let c := loCfg s ((o - 0x120) / 4)
    bitF c.failOnComp 31 ||| bitF c.safe36 30 ||| fldF c.rbTol 0
  else if 0x140 ≤ o ∧ o < 0x160 then
    let n := (o - 0x140) / 4
    let x := loOf s n
    bitF x.comp 31 ||| bitF x.rbFault 30 ||| bitF (loAtSafe s n) 29 ||| bitF (decide (24000000 < x.cmd)) 28 |||
      bitF x.latchedSafe 27 ||| fldF (min 0xFFFF x.hrMv) 0
  else if 0x200 ≤ o ∧ o < 0x240 then regHart s ((o - 0x200) / 4)
  else if 0x240 ≤ o ∧ o < 0x2C0 then
    let id := ((hartOf s ((o - 0x240) / 8)).id).getD 0
    if o % 8 = 0 then w32 id else fldF (id / 2 ^ 32 % 256) 0
  else if o = 0x300 then w32 s.loop.namurCnt
  else if o = 0x304 then w32 s.loop.starvedCnt
  else if o = 0x308 then w32 s.loop.compCnt
  else if o = 0x30C then w32 s.loop.rbCnt
  else if o = 0x310 then w32 s.loop.hartTx
  else if o = 0x314 then w32 s.loop.hartErr
  else if o = 0x318 then w32 s.loop.hartPt
  else 0

/-- STATE of a transmit buffer. -/
def txCode : TxSt → Nat
  | .idle => 0 | .pending => 1 | .onBus => 2 | .retry => 3

/-- CAN_n_STATUS. -/
def canStatus (s : State) (n : Nat) : Word :=
  let p := portOf s n
  let st := match p.st with
    | .active => 0
    | .passive => 1
    | .busOff => 2
  bitF p.busOffWait 6 ||| fldF st 4 ||| bitF (p.configured && !listenOnly s n) 3 |||
    bitF (p.configured && listenOnly s n) 2 ||| bitF p.configured 1

/-- Settings registers of port n, offsets 0x04 to 0x10. -/
def canSettings (s : State) (n o : Nat) : Word :=
  let p := portOf s n
  let c := p.cfg
  if o = 0x004 then
    fldF c.boDelay 16 ||| bitF c.fifoTask.isSome 12 ||| fldF (c.fifoTask.getD 0) 8 ||| bitF c.boAuto 5 ||| bitF c.cmdEn 4 |||
      bitF c.termEn 3 ||| bitF (c.shared && twinOn s) 2 ||| bitF c.listen 1 ||| bitF c.fdEn 0
  else if o = 0x008 then bitF c.triple 30 ||| fldF c.sjw 24 ||| fldF c.tseg2 16 ||| fldF c.tseg1 8 ||| fldF c.brp 0
  else if o = 0x00C then fldF c.dsjw 24 ||| fldF c.dtseg2 16 ||| fldF c.dtseg1 8 ||| fldF c.dbrp 0
  else if o = 0x010 then bitF c.tdcEn 31 ||| fldF (p.tdcv % 128) 16 ||| fldF c.tdco 0
  else 0

/-- Registers of an acceptance filter. -/
def regFlt (s : State) (n f j : Nat) : Word :=
  let c := fltOf s n f
  if j = 0 then bitF c.en 31 ||| bitF c.ide 29 ||| fldF (c.id % 2 ^ 29) 0
  else if j = 1 then fldF (c.mask % 2 ^ 29) 0
  else if j = 2 then fldF c.slot 16 ||| fldF c.format 8 ||| fldF c.action 4 ||| fldF c.prio 0
  else w32 (tabGet 0 (portOf s n).hits f)

/-- Registers of a transmit buffer. -/
def regTxb (s : State) (n b j : Nat) : Word :=
  let c := txbOf s n b
  if j = 0 then bitF c.ide 29 ||| fldF (c.id % 2 ^ 29) 0
  else
    bitF c.en 31 ||| bitF c.fdf 30 ||| bitF (c.brs && c.fdf) 29 ||| bitF c.request 28 ||| fldF (txCode (txOf s n b).st) 24 |||
      fldF (c.divi % 256) 16 ||| fldF (c.map % 2048) 0

/-- The CAN_ page of port n (R362). -/
def regCan (s : State) (n o : Nat) : Word :=
  let p := portOf s n
  if o = 0x000 then canStatus s n
  else if o < 0x014 then canSettings s n o
  else if o = 0x014 then bitF p.lecData 23 ||| fldF p.lec 20 ||| fldF (min 255 p.tec) 8 ||| fldF (p.rec_ % 256) 0
  else if o = 0x018 then maskW fun b => (txOf s n b).frame.isSome
  else if o = 0x01C then maskW fun b => (txOf s n (b + 32)).frame.isSome
  else if o = 0x020 then fldF p.fifo.length 0 ||| fldF p.fifoMax 8
  else if o = 0x040 then w32 p.txCnt
  else if o = 0x044 then w32 p.rxCnt
  else if o = 0x048 then w32 p.noMatch
  else if o = 0x04C then w32 p.ovfCnt
  else if o = 0x050 then w32 p.lostCnt
  else if o = 0x054 then w32 p.cancelCnt
  else if o = 0x058 then w32 p.arbCnt
  else if o = 0x05C then w32 p.errCnt
  else if o = 0x060 then w32 p.busOffCnt
  else if o = 0x064 then w32 p.remoteCnt
  else if 0x200 ≤ o ∧ o < 0x600 then regFlt s n ((o - 0x200) / 16) (o % 16 / 4)
  else if 0x600 ≤ o ∧ o < 0x800 then regTxb s n ((o - 0x600) / 8) (o % 8 / 4)
  else 0

/-! ### NET_ -/

/-- NET_FW_r_CTRL. -/
def fwCtrl (r : FwRule) : Word :=
  bitF r.en 31 ||| fldF r.action 28 ||| fldF r.prio 24 ||| fldF r.ports 16 ||| fldF r.proto 8 ||| fldF r.pfx 0

/-- The 16 bytes of a firewall rule: CTRL, SRC, DPORT and 0 (assumption log, entry 45). -/
def fwBytes (r : FwRule) : List Byte :=
  items [(fwCtrl r).toNat, r.src.toNat, r.low % 65536 * 65536 + r.high % 65536, 0]

/-- NET_FW_TABLE_ID. -/
def fwTableId (l : List FwRule) : Word := crc32 (l.flatMap fwBytes)

/-- A receive connection's settings, enabled or not. -/
def brxCfg (s : State) (c : Nat) : BeamRxCfg := match s.img with
  | none => {}
  | some p => tabGet {} p.beamRx c

/-- A transmit connection's settings. -/
def btxCfg (s : State) (c : Nat) : BeamTxCfg := match s.img with
  | none => {}
  | some p => tabGet {} p.beamTx c

/-- NET_BRX_c registers. -/
def regBrx (s : State) (c o : Nat) : Word :=
  let f := brxCfg s c
  let x := brxOf s c
  if o = 0x00 then bitF f.en 31 ||| bitF (f.en && brxVital s f) 30 ||| fldF (f.node % 2 ^ 14) 16 ||| fldF (f.conn % 65536) 0
  else if o = 0x04 then fldF (f.len % 2048) 16 ||| fldF ((f.off - 0x8000) % 2 ^ 15) 0
  else if o = 0x08 then fldF (f.timeout / 1000 % 65536) 16 ||| fldF (f.ageLimit / 100 % 65536) 0
  else if o = 0x0C then w32 x.seq
  else if o = 0x10 then
    if f.en then
      bitF x.synced 31 ||| bitF x.stale 30 ||| bitF x.area.safe 29 ||| bitF x.area.forced 28 ||| bitF x.area.holdover 27 |||
        fldF (min 0xFFFF x.lost) 0
    else 0
  else if o = 0x14 then w32 x.ts
  else 0

/-- NET_BTX_c registers. -/
def regBtx (s : State) (c o : Nat) : Word :=
  let f := btxCfg s c
  let x := btxOf s c
  if o = 0x0 then
    bitF f.en 31 ||| bitF (f.en && (taskCfg s f.task).vital) 30 ||| fldF (f.dest.toNat % 2 ^ 14) 16 ||| fldF (f.conn % 65536) 0
  else if o = 0x4 then
    if f.en then fldF (f.divi % 256) 24 ||| fldF (f.task % 16) 16 ||| fldF ((f.off - 0x8000) % 2 ^ 15) 0 else 0
  else if o = 0x8 then fldF (f.len % 2048) 16 ||| fldF (x.state % 4) 0
  else w32 x.lastSeq

/-- PRP entries that have run out unmatched, by LAN (R364). -/
def prpExpired (s : State) (lan : Nat) : Nat :=
  (s.net.prp.filter fun e => e.lan == lan && !e.both && decide (e.ts + 400000000 ≤ now s)).length

/-- Registers of a port. PRP is at its reset value until the root PLL runs. -/
def regPort (s : State) (p o : Nat) : Word :=
  let x := netPort s p
  if o = 0x00 then bitF (s.clk.root && decide (p < 2)) 1 ||| bitF x.link 0
  else if o = 0x04 then w32 x.txCnt
  else if o = 0x08 then w32 x.rxCnt
  else if o = 0x0C then w32 x.fcsErr
  else if o = 0x10 then w32 x.nonIp
  else if o = 0x14 then w32 x.linkLoss
  else 0

/-- Open KAP sessions. -/
def sessionCnt (s : State) : Nat := (s.kp.sessions.filter fun x => x.2.isSome).length

/-- NET_ registers of the network settings, offsets 0x000 to 0x018. -/
def regNetCfg (s : State) (o : Nat) : Word :=
  let c := s.net.cur.getD { ip := 0, mask := 0 }
  if o = 0x000 then
    bitF (netPort s 1).link 5 ||| bitF (netPort s 0).link 4 ||| bitF (c.diagNode != 0) 3 ||| bitF s.beam.checkFault 2 |||
      bitF (s.sec.enrolled && s.sec.domainKey && s.id.node != 0) 1 ||| bitF s.net.cur.isSome 0
  else if o = 0x004 then c.ip
  else if o = 0x008 then c.mask
  else if o = 0x00C then c.gw
  else if o = 0x010 then fldF (c.vlanBeam % 4096) 16 ||| fldF (c.vlanMgmt % 4096) 0
  else if o = 0x014 then w32 s.net.mac.toNat
  else if o = 0x018 then w32 (s.net.mac.toNat / 2 ^ 32)
  else 0

/-- The Beam counters, in the order of their registers from 0x300. -/
def beamCounters (b : Beam) : List Nat :=
  [b.txCnt, b.rxCnt, b.noConn, b.auth, b.crc, b.format, b.time, b.dup, b.late, b.old, b.resync, b.conflict, b.txLate]

/-- The NET_ window (R387). -/
def regNet (s : State) (o : Nat) : Word :=
  let n := s.net
  if o < 0x100 then regNetCfg s o
  else if o < 0x160 then regPort s ((o - 0x100) / 32) (o % 32)
  else if o = 0x200 then w32 n.prpDup
  else if o = 0x204 then w32 n.prpWrong
  else if o = 0x208 then w32 (satAdd n.prpUniqA (prpExpired s 0))
  else if o = 0x20C then w32 (satAdd n.prpUniqB (prpExpired s 1))
  else if o = 0x210 then w32 n.prpUntagged
  else if 0x300 ≤ o ∧ o < 0x334 then w32 ((beamCounters s.beam).getD ((o - 0x300) / 4) 0)
  else if o = 0x400 then fldF (sessionCnt s) 0 ||| fldF (min 64 s.kp.queue.length) 8
  else if o = 0x404 then w32 s.kp.mgmtBusy
  else if o = 0x500 then w32 n.fwNoMatch
  else if o = 0x504 then fwTableId n.fw
  else if 0x1000 ≤ o ∧ o < 0x1800 then
    let r := (o - 0x1000) / 16
    let x := n.fw.getD r {}
    let j := o % 16 / 4
    if j = 0 then fwCtrl x else if j = 1 then x.src else if j = 2 then fldF (x.low % 65536) 16 ||| fldF (x.high % 65536) 0
    else w32 (tabGet 0 n.fwHit r)
  else if 0x2000 ≤ o ∧ o < 0x4000 then regBrx s ((o - 0x2000) / 32) (o % 32)
  else if 0x4000 ≤ o ∧ o < 0x5000 then regBtx s ((o - 0x4000) / 16) (o % 16)
  else 0

end Sys2Proof.Machine
end

