-- ==== Sys2Proof/Machine/RegsFab.lean ====
section
/-!
DEFINITION. Register windows TIM_, TWN_, OBS_, BUY_, TAG_, FAB_ with the lockstep registers, and RFX_ (R412, R243, R572,
R338, R592, R96, R201, R180).
-/
namespace Sys2Proof.Machine

/-- TIM_STATUS. STEP_ALLOWED is at its reset value until the root PLL runs, before which nothing reads it. -/
def timStatus (s : State) : Word :=
  let t := s.time
  bitF (s.clk.root && stepAllowed s) 12 ||| bitF t.seedInvalid 11 ||| bitF t.seeded 10 ||| bitF (timeQualified s) 9 |||
    bitF t.switching 8 ||| fldF (t.target % 8) 4 ||| fldF (t.selected % 8) 0

/-- Registers of a time candidate. -/
def regCand (s : State) (k o : Nat) : Word :=
  let c := candOf s k
  if o = 0x00 then bitF c.master 3 ||| bitF c.qual 2 ||| bitF c.stable 1 ||| bitF c.present 0
  else if o = 0x04 then satInt c.offset
  else if o = 0x08 then fldF (c.clockClass % 256) 0 ||| fldF (c.accuracy % 256) 8 ||| fldF (c.variance % 65536) 16
  else if o = 0x0C then if c.stable then w32 (sat32 ((now s - c.stableTs) / 1000000)) else 0
  else if o = 0x10 then w32 c.gm
  else if o = 0x14 then w32 (c.gm / 2 ^ 32)
  else 0

/-- Registers of a scheduled action. -/
def regSch (s : State) (k o : Nat) : Word :=
  let x := tabGet ({} : Sched) s.time.sch k
  if o = 0x0 then w32 x.ts
  else if o = 0x8 then fldF (x.outcome % 65536) 16 ||| fldF (x.task % 16) 8 ||| fldF (x.st % 4) 4 ||| fldF (x.kind % 4) 0
  else if o = 0xC then w32 (sat32 x.lateNs)
  else 0

/-- The TIM_ window (R412). -/
def regTim (s : State) (o : Nat) : Word :=
  let t := s.time
  if o = 0x000 then timStatus s
  else if o = 0x004 then w32 t.ts
  else if o = 0x00C then satInt t.ratePpb
  else if o = 0x010 then satInt t.offset
  else if o = 0x014 then bitF t.utcPtp 16 ||| fldF (t.utcOff % 65536) 0
  else if o = 0x018 then w32 t.slewMax
  else if o = 0x01C then w32 t.lateWin
  else if o = 0x020 then t.ptpCfg
  else if o = 0x024 then
    if t.selected = 3 ∧ !t.seeded then w32 (sat32 ((now s - t.holdTs) / 1000000000)) else 0
  else if o = 0x028 then satInt t.tcxoPpb
  else if 0x040 ≤ o ∧ o < 0x0A0 then regCand s ((o - 0x40) / 32) ((o - 0x40) % 32)
  else if o = 0x100 then w32 t.switchCnt
  else if o = 0x104 then w32 t.retargetCnt
  else if o = 0x108 then w32 t.disqualCnt
  else if o = 0x10C then w32 t.holdCnt
  else if o = 0x110 then w32 t.stepCnt
  else if o = 0x114 then w32 t.schOk
  else if o = 0x118 then w32 t.schLate
  else if o = 0x11C then w32 t.schPast
  else if 0x400 ≤ o ∧ o < 0x800 then regSch s ((o - 0x400) / 16) (o % 16)
  else 0

/-- The partner counts as absent whatever the task (R215). -/
def absentNow (s : State) : Bool :=
  twinOn s && (!s.twin.locked || s.mode.role == .isolated || s.mode.role == .noRole || rejoinAt s (now s))

/-- TWN_STATUS. -/
def twnStatus (s : State) : Word :=
  let t := s.twin
  fldF t.rejoin.phase 24 ||| bitF t.double 23 ||| bitF t.split 22 ||| bitF (absentNow s) 21 ||| bitF t.visible 20 |||
    bitF t.silence 19 ||| bitF t.lane1 18 ||| bitF t.lane0 17 ||| bitF t.locked 16 ||| fldF (roleCode t.partnerRole) 8 |||
    fldF (roleCode s.mode.role) 4 ||| fldF t.carry.toNat 0

/-- TWN_ registers below 0x40. -/
def regTwnHead (s : State) (o : Nat) : Word :=
  let t := s.twin
  if o = 0x000 then twnStatus s
  else if o = 0x004 then
    bitF t.cfg.en 31 ||| bitF t.cfg.autoRejoin 30 ||| fldF (t.cfg.startupWait % 1024) 16 ||| fldF (t.cfg.xcutFilter % 1024) 0
  else if o = 0x008 then fldF (t.cfg.partnerNode % 2 ^ 14) 16 ||| fldF (t.cfg.twinNode % 2 ^ 14) 0
  else if o = 0x00C then w32 t.epoch
  else if o = 0x010 then w32 t.swTs
  else if o = 0x018 then fldF t.swCause 24 ||| fldF t.swNew 16 ||| fldF t.swOld 12
  else if o = 0x01C then satInt t.tsOffset
  else if o = 0x020 then w32 t.pathNs
  else if o = 0x024 then match t.hbTs with
    | some h => w32 (sat32 ((now s - h) / 1000))
    | none => 0xFFFFFFFF
  else 0

/-- The TWN_ counters from 0x040. -/
def twnCounters (t : Twin) : List Nat :=
  [t.frameTx, t.frameRx, t.hdrErr, t.crcErr, t.lockLoss, t.syncRej, t.snapMiss, t.digMiss, t.diverge, t.digMismatch,
   t.switchCnt, t.xcutCnt]

/-- A line of group g reads energized against a commanded 0, and the group is not yet open (R222). -/
def xcutFiltering (s : State) (g : Nat) : Bool :=
  !cutIsOpen s g && (List.range 8).any fun i =>
    !withdrawn s (8 * g + i) && s.dio.line.getLsbD (8 * g + i) && !doCmd s (8 * g + i)

/-- The TWN_ window of a ZC-5124-V (R243); on a ZC-5124-N it reads 0 (R25). -/
def regTwn (s : State) (o : Nat) : Word :=
  let t := s.twin
  if !s.id.variantV then 0
  else if o < 0x040 then regTwnHead s o
  else if o < 0x070 then w32 ((twnCounters t).getD ((o - 0x40) / 4) 0)
  else if o = 0x080 then
    fldF (maskN (fun g => (dgrpOf s g).latched == 3) 4) 16 ||| fldF (maskN (xcutFiltering s) 4) 0
  else if o = 0x084 then maskW (withdrawn s)
  else if o = 0x088 then maskW fun n => t.masked.any fun m => m.1 == n
  else if o = 0x0A0 then fldF (t.rejoin.pass % 256) 24 ||| fldF (min 3 t.rejoin.attempt) 16 ||| fldF t.rejoin.result 0
  else if o = 0x0A4 then w32 t.rejoin.bytes
  else if o = 0x0A8 then w32 t.rejoin.dirty
  else if o = 0x0AC then w32 t.rejoin.ms
  else if o = 0x0B0 then w32 t.load
  else 0

/-- The OBS_ window (R572). -/
def regObs (s : State) (o : Nat) : Word :=
  let w := s.watch
  if o = 0x000 then
    fldF w.snapBuf.length 8 ||| bitF (w.lossPending != 0) 4 ||| fldF (w.mailbox % 8) 1 ||| bitF w.isOpen 0
  else if o = 0x004 then w.srcMask
  else if o = 0x008 then w.galMask
  else if o = 0x00C then w.taskMask
  else if o = 0x010 then w32 (traceFill s)
  else if o = 0x014 then w32 w.snapNum
  else if o = 0x040 then w32 w.sentCnt
  else if o = 0x044 then w32 w.dropCnt
  else if o = 0x048 then w32 w.snapCnt
  else if o = 0x04C then w32 w.snapRefused
  else if 0x080 ≤ o ∧ o < 0x094 then w32 (tabGet 0 w.lossCnt ((o - 0x80) / 4))
  else if 0x800 ≤ o ∧ o < 0xC00 then tabGet 0 w.sel ((o - 0x800) / 4)
  else if 0x1000 ≤ o ∧ o < 0x1800 then if o % 8 = 0 then w32 (ctrValue s ((o - 0x1000) / 8)) else 0
  else 0

/-- State code of a socket. -/
def sockCode : SockSt → Nat
  | .empty => 0 | .authenticating => 1 | .configuring => 2 | .inService => 3 | .authFailed => 4 | .cfgFailed => 5

/-- Registers of socket b (R338); life counters read 0 without an authenticated buoy. -/
def regSock (s : State) (b o : Nat) : Word :=
  let k := sockOf s b
  let au := buoyAuth s b
  let lv (j : Nat) : Word := if au then w32 (sat32 ((lifeVals k).getD j 0)) else 0
  if o = 0x00 then
    fldF (sockCode k.st) 28 ||| bitF k.exch 27 ||| bitF k.mated 26 ||| bitF k.feedAOk 25 ||| bitF k.feedBOk 24 |||
      fldF k.authStep 20 ||| (if au then fldF (life s b).2 18 ||| fldF (min 2047 (life s b).1) 0 else 0)
  else if o = 0x04 then fldF (k.typ % 256) 8 ||| fldF (k.rev % 256) 0
  else if o = 0x08 then w32 k.serial
  else if o = 0x10 then lv 0
  else if o = 0x14 then if b = 1 then lv 1 else 0
  else if o = 0x18 then lv 2
  else if o = 0x1C then lv 3
  else if o = 0x20 then (BitVec.ofInt 16 k.temp).zeroExtend 32
  else if o = 0x24 then fldF (min 0xFFFF k.feedB) 16 ||| fldF (min 0xFFFF k.feedA) 0
  else if o = 0x28 then k.cfgCrc
  else if o = 0x2C then w32 k.authCnt
  else if o = 0x30 then w32 k.authFailCnt
  else if o = 0x34 then w32 k.surgeCnt
  else 0

/-- A region of the tag. -/
def tagReg (s : State) (r : Nat) : TagRegion := tabGet {} s.tag.regions r

/-- Copy B of a region holds the newer valid version (R589). -/
def tagNewB (x : TagRegion) : Bool := x.okB && (!x.okA || genAfter x.verB x.verA)

/-- The TAG_ registers (R592). -/
def regTag (s : State) (o : Nat) : Word :=
  let t := s.tag
  if o = 0x000 then
    fldF (maskN (fun r => (tagReg s r).isPending) 5) 8 ||| bitF t.writing.isSome 2 ||| bitF t.rf 1 ||| bitF t.present 0
  else if o = 0x004 then t.format
  else if 0x040 ≤ o ∧ o < 0x068 then
    let x := tagReg s ((o - 0x40) / 8)
    if o % 8 = 0 then (if tagNewB x then w32 x.verB else if x.okA then w32 x.verA else 0)
    else fldF (min 0xFFFF x.retries) 16 ||| bitF (tagNewB x) 2 ||| bitF x.okB 1 ||| bitF x.okA 0
  else if o = 0x100 then w32 t.writeCnt
  else if o = 0x104 then w32 t.deferCnt
  else if o = 0x108 then w32 t.rfCnt
  else if o = 0x10C then w32 t.busyCnt
  else if o = 0x110 then w32 t.failCnt
  else 0

/-- The window of the BUY_ and TAG_ registers. -/
def regBuy (s : State) (o : Nat) : Word :=
  if o = 0x000 then
    fldF (maskN (fun b => (sockOf s b).eol) 3) 8 ||| fldF (maskN (fun b => (sockOf s b).maint) 3) 4 |||
      fldF (maskN (fun b => (sockOf s b).exch) 3) 0
  else if 0x100 ≤ o ∧ o < 0x400 then regSock s (o / 0x100 - 1) (o % 0x100)
  else if 0x8000 ≤ o then regTag s (o - 0x8000)
  else 0

/-! ### FAB_ -/

/-- POWER and SSTATE codes. -/
def powCode : GalPower → Nat
  | .off => 0 | .waking => 1 | .on => 2 | .draining => 3
/-- SSTATE. -/
def sstateCode : SectorState → Nat
  | .unassigned => 0 | .stop => 1 | .run => 2 | .shadow => 3 | .safe => 4

/-- A lamp where it runs: on the live fabric, or on the shadow's copy. -/
def lampSeen (s : State) (i : Nat) : Lamp :=
  match isShadowLamp s i, s.edit.shadow with
  | true, some f => tabGet {} f.lamps i
  | _, _ => lampOf s i

/-- FAB_n_RANGE_r; the current group is lamp 0's, or lamp 1's while lamp 0 is idle (assumption log, entry 46). -/
def regRange (s : State) (g r : Nat) : Word :=
  let l0 := lampSeen s (32 * g + 2 * r)
  let l1 := lampSeen s (32 * g + 2 * r + 1)
  let l := if l0.mode == .idle then l1 else l0
  let wait (l : Lamp) : Bool := match l.mode with
    | .slotWait _ _ => true
    | _ => false
  let busy := l.mode != .idle
  fldF (rangeCode (rangeOf s g r).st) 28 ||| bitF (rangeOf s g r).split 27 ||| bitF (busy && (l0.spec || l1.spec)) 26 |||
    bitF ((rangeOf s g r).st != .off && !busy) 25 ||| bitF (wait l0 || wait l1) 24 |||
    (if busy then fldF (l.task % 16) 20 ||| fldF (l.group % 65536) 0 else 0)

/-- The violation registers. -/
def regViol (v : Violation) (j : Nat) : Word :=
  if j = 0 then bitF v.valid 31 ||| fldF (v.cause % 16) 20 ||| fldF (v.task % 16) 16 ||| fldF (v.range % 16) 12
  else if j = 1 then fldF (v.slot % 65536) 16 ||| fldF (v.seen % 65536) 0
  else if j = 2 then fldF (v.required % 65536) 16 ||| fldF (v.group % 65536) 0
  else w32 v.addr

/-- OUTCOME of FAB_n_LS_r_STATUS. -/
def lsCode : LsOutcome → Nat
  | .none => 0 | .transient => 1 | .lamp0 => 2 | .lamp1 => 3 | .range => 4 | .running => 5

/-- The lockstep registers of a range (R201). -/
def regLs (s : State) (g r o : Nat) : Word :=
  let x := rangeOf s g r
  if o = 0x00 then
    bitF x.compare 31 ||| bitF x.warm 30 ||| bitF x.persist 29 ||| bitF x.lamp1Ok 25 ||| bitF x.lamp0Ok 24 ||| fldF (lsCode x.outcome) 0
  else if o = 0x04 then w32 x.mismatchCnt
  else if o = 0x08 then w32 x.transientCnt
  else if o = 0x0C then w32 x.lbistCnt
  else if o = 0x10 then w32 x.lastTs
  else if o = 0x18 then
    bitF x.sigValid 31 ||| bitF x.sigWarm 30 ||| fldF (x.sig % 16) 24 ||| fldF (x.sigTask % 16) 20 ||| fldF (x.sigGroup % 65536) 0
  else if o = 0x1C then x.lastMain
  else if o = 0x20 then x.lastChk
  else if o = 0x24 then
    bitF x.lbDone 31 ||| bitF x.lb1Pass 30 ||| bitF x.lb0Pass 29 ||| fldF (lbCode x.lbCause) 26 ||| fldF (x.lbUs % 4096) 0
  else if o = 0x28 then w32 x.snapCnt
  else if o = 0x2C then w32 x.snapStall
  else if o = 0x30 then w32 x.joinCnt
  else if o = 0x34 then w32 x.splitCnt
  else 0

/-- FAB_n_STATUS, FAB_n_SECTOR, FAB_n_SPARE and FAB_n_LMAP. -/
def regGalHead (s : State) (g o : Nat) : Word :=
  let x := galOf s g
  let map (b : Nat) : Word := fldF ((List.range 8).foldl (fun n k => n + (physOf s g (k + b)) * 16 ^ k) 0) 0
  if o = 0x000 then
    fldF x.sparesCfg 16 ||| fldF (inServiceCnt s g) 8 ||| bitF x.memReady 4 ||| bitF x.powerFault 3 ||| fldF (powCode x.power) 0
  else if o = 0x004 then fldF (sstateCode x.sstate) 8 ||| bitF x.split 7 ||| fldF (x.sector % 16) 0
  else if o = 0x008 then fldF x.spare.toNat 16 ||| fldF x.lent.toNat 0
  else if o = 0x010 then map 0
  else if o = 0x014 then map 8
  else 0

/-- The FAB_ counters of a gallery from 0x100. -/
def galCounters (x : Gallery) : List Nat :=
  [x.raCommit, x.raSquash, x.raSquashFc, x.raFull, x.slotWaitFc, x.groupCnt, x.wakeCnt, x.relocCnt, x.raSuspend.toNat]

/-- The FAB_ page of gallery g (R96). -/
def regFab (s : State) (g o : Nat) : Word :=
  let x := galOf s g
  if o < 0x018 then regGalHead s g o
  else if 0x040 ≤ o ∧ o < 0x080 then regRange s g ((o - 0x40) / 4)
  else if 0x080 ≤ o ∧ o < 0x090 then regViol x.viol ((o - 0x80) / 4)
  else if o = 0x0C0 then w32 x.eccCorr
  else if o = 0x0C4 then w32 x.eccUncorr
  else if o = 0x0C8 then x.eccAddr
  else if 0x100 ≤ o ∧ o < 0x124 then w32 ((galCounters x).getD ((o - 0x100) / 4) 0)
  else if o = 0x200 then bitF s.fab.icxFail 1 ||| bitF s.fab.icxActive 0
  else if 0x400 ≤ o ∧ o < 0x800 then regLs s g ((o - 0x400) / 64) (o % 64)
  else 0

/-! ### RFX_ -/

/-- RFX_ registers below 0x100. -/
def regRfxHead (s : State) (o : Nat) : Word :=
  let r := s.rfx
  let c := r.act.getD {}
  if o = 0x00 then
    bitF r.proof 8 ||| bitF r.bank 7 ||| bitF r.alt.isSome 6 ||| bitF r.cfgFault 5 ||| bitF (r.held != 0) 4 ||| bitF r.act.isSome 0
  else if o = 0x04 then c.id
  else if o = 0x08 then (r.alt.map RfxCfg.id).getD 0
  else if o = 0x0C then fldF c.taps.length 16 ||| fldF c.cells.length 0
  else if o = 0x10 then maskW fun n => (tabGet none c.offCell n).isSome
  else if o = 0x14 then maskW fun n => (tabGet none c.onCell n).isSome
  else if o = 0x18 then r.off
  else if o = 0x1C then r.on
  else if o = 0x20 then maskW fun n => r.on.getLsbD n && !onAllowed s n
  else if o = 0x24 then r.held
  else if o = 0x28 then r.req.extractLsb' 0 32
  else if o = 0x2C then r.req.extractLsb' 32 32
  else if o = 0x30 then w32 r.mismatchCnt
  else if o = 0x34 then w32 r.laneCnt
  else if o = 0x38 then w32 r.cfgFaultCnt
  else if o = 0x3C then w32 r.offActCnt
  else if o = 0x40 then w32 r.proofDiffCnt
  else if o = 0x48 then w32 r.lastTs
  else if o = 0x50 then r.lastMask
  else 0

/-- The RFX_ window (R180). -/
def regRfx (s : State) (o : Nat) : Word :=
  let c := s.rfx.act.getD {}
  if o < 0x100 then regRfxHead s o
  else if o < 0x180 then
    let n := (o - 0x100) / 4
    let f (t : Tab (Option Nat)) (en k : Nat) : Word := match tabGet none t n with
      | some x => bitF true en ||| fldF (x % 1024) k
      | none => 0
    f c.offCell 31 16 ||| f c.onCell 15 0
  else if 0x200 ≤ o ∧ o < 0x600 then match tabGet none c.taps ((o - 0x200) / 4) with
    | some (off, bit) => bitF true 31 ||| fldF (off % 65536) 3 ||| fldF (bit % 8) 0
    | none => 0
  else if 0x1000 ≤ o ∧ o < 0x1080 then
    let k := (o - 0x1000) / 4
    match s.rfx.act with
    | some c => maskW fun j => (rfxCells s c).testBit (32 * k + j)
    | none => 0
  else if 0x4000 ≤ o ∧ o < 0x8000 then
    let x := tabGet ({} : RfxCell) c.cells ((o - 0x4000) / 16)
    let j := o % 16 / 4
    if j = 0 then fldF (x.sel1 % 2048) 16 ||| fldF (x.sel0 % 2048) 0
    else if j = 1 then fldF (x.sel3 % 2048) 16 ||| fldF (x.sel2 % 2048) 0
    else if j = 2 then x.truth.zeroExtend 32
    else 0
  else 0

end Sys2Proof.Machine
end

