-- ==== Sys2Proof/Machine/Regs.lean ====
section
/-!
DEFINITION. The keeper's register windows as one address space: reads, gates, latched pairs, and the writes of RW and
WO registers (R15 to R20, R7, R390, R528).
-/
namespace Sys2Proof.Machine

/-- The register at an aligned address of the windows (R15, R17); a high word of a latched pair is not held here. -/
def regPlain (s : State) (a : Nat) : Word :=
  let o := a % 0x10000
  let w := a / 0x10000
  if w = 0 then regMod s o
  else if w = 1 then regMbx s o
  else if w = 2 then regClk s o
  else if w = 3 then regWdg s o
  else if w = 4 then regRtc s o
  else if w = 5 then regNvm s o
  else if w = 6 then regEvr s o
  else if w = 7 then regDin s o
  else if w = 8 then regDout s o
  else if w = 9 then regAlp s o
  else if w = 10 then regCan s (o / 0x4000) (o % 0x4000)
  else if w = 11 then regNet s o
  else if w = 12 then regTim s o
  else if w = 13 then regTwn s o
  else if w = 14 then regObs s o
  else if w = 15 then regBuy s o
  else if w = 16 then regFab s (o / 0x1000) (o % 0x1000)
  else if w = 17 then regRfx s o
  else 0

/-- The high word that a read of the low word at `a` latches, for the pairs that have a latch rule (R390, R412, R243,
R549, R525, R387, R338, R572, R180, R201). -/
def regHigh (s : State) (a : Nat) : Option Word :=
  let hi (n : Nat) : Option Word := some (w32 (n / 2 ^ 32))
  let o := a % 0x10000
  let w := a / 0x10000
  if w = 12 ∧ o = 0x004 then hi s.time.ts
  else if w = 12 ∧ 0x400 ≤ o ∧ o < 0x800 ∧ o % 16 = 0 then hi (tabGet ({} : Sched) s.time.sch ((o - 0x400) / 16)).ts
  else if w = 13 ∧ o = 0x010 ∧ s.id.variantV then hi s.twin.swTs
  else if w = 3 ∧ o = 0x014 then hi s.wdg.rstTs
  else if w = 5 ∧ (o = 0x030 ∨ o = 0x050) then hi (areaOf s ((o - 0x20) / 0x20)).ts
  else if w = 11 ∧ 0x2000 ≤ o ∧ o < 0x4000 ∧ o % 32 = 0x14 then hi (brxOf s ((o - 0x2000) / 32)).ts
  else if w = 15 ∧ 0x100 ≤ o ∧ o < 0x400 ∧ o % 0x100 = 0x08 then hi (sockOf s (o / 0x100 - 1)).serial
  else if w = 14 ∧ 0x1000 ≤ o ∧ o < 0x1800 ∧ o % 8 = 0 then hi (ctrValue s ((o - 0x1000) / 8))
  else if w = 17 ∧ o = 0x48 then hi s.rfx.lastTs
  else if w = 16 ∧ 0x400 ≤ o % 0x1000 ∧ o % 0x1000 < 0x800 ∧ o % 64 = 0x10 then
    hi (rangeOf s (o / 0x1000) ((o % 0x1000 - 0x400) / 64)).lastTs
  else none

/-- What a read of the register at `a` gives: the latched word for the high half of a pair. -/
def regValue (s : State) (a : Nat) : Word :=
  if 4 ≤ a ∧ (regHigh s (a - 4)).isSome then tabGet 0 s.latch a else regPlain s a

/-- A read of a low word latches its high word (R390). -/
def regLatch (a : Nat) (s : State) : State :=
  match regHigh s a with
  | some h => { s with latch := tabPut 0 s.latch (a + 4) h }
  | none => s

/-- The register lies in the window of a block whose enable is 0 (R18, R528). -/
def regGated (s : State) (a : Nat) : Bool :=
  let w := a / 0x10000
  if w = 7 then !s.clk.en.getLsbD 12
  else if w = 8 then !s.clk.en.getLsbD 13
  else if w = 9 then !s.clk.en.getLsbD 14
  else if w = 10 then !s.clk.en.getLsbD (a % 0x10000 / 0x4000)
  else false

/-- A register address of R17. -/
def regAddrOk (a : Nat) : Bool := a % 4 == 0 && decide (a < 0x120000)

/-- A keeper access to a gated block is counted (R528). -/
def gatedAccess (s : State) : State := { s with clk := { s.clk with gatedCnt := satInc s.clk.gatedCnt } }

/-- Reads registers in order, each read latching its pair; the values, or the return code of the first refusal
(R17, R18). -/
def regRead : List Nat → State → Except Nat (List Word) × State
  | [], s => (.ok [], s)
  | a :: as, s =>
    if !regAddrOk a then (.error 0x0303, s)
    else if regGated s a then (.error 0x0306, gatedAccess s)
    else
      let v := regValue s a
      match regRead as (regLatch a s) with
      | (.ok vs, s) => (.ok (v :: vs), s)
      | (.error e, s) => (.error e, s)

/-- LATCHED_LOW_READ: a keeper read of one register (R390). -/
def opLatchedLow (a : Nat) (s : State) : State := (regRead [a] s).2

/-- REGISTER_WRITE: a bus write of a word by the lamp of `o` to a RW register of IO-space without behaviour of its own:
output image, PRESET and ELAPSED, free-running timer control. Reserved fields are not stored, and a write the lamp's task
may not make stores nothing (R7, R34, R38, R146, R110). -/
def opRegWrite (o : LampOp) (a : Nat) (v : Word) (s : State) : State :=
  let plain := (decide (0x10000 ≤ a) && decide (a < 0x20000)) || (decide (0x60000 ≤ a) && decide (a < 0x70000)) ||
    (decide (0x70400 ≤ a) && decide (a < 0x70600))
  if plain && (lampOf s o.lamp).mode == .exec then
    match ioWrite o a 4 v s with
    | .ok (_, s) => s
    | .error _ => s
  else s

/-- LATCHED_LOW_READ (R390). -/
def execLatchedLowRead (a : Nat) (s : State) : Out := .next (opLatchedLow a s)
/-- REGISTER_WRITE (R7). -/
def execRegisterWrite (o : LampOp) (a : Nat) (v : Word) (s : State) : Out := .next (opRegWrite o a v s)

end Sys2Proof.Machine
end

