-- ==== Sys2Proof/Machine/Net.lean ====
section
/-!
DEFINITION. The Ethernet ports, PRP and the firewall (R364 to R368), receiving Beam (R382 to R386), the diagnostic frame
(R381) and the partner heartbeat (R229, R234 to R236).
-/
namespace Sys2Proof.Machine

/-! ### Ports -/

/-- A class 3 frame that waits for a link goes out when one comes within 1 ms of its strobe (R379). -/
def beamFlush (s : State) : State :=
  let q := s.beam.queued
  q.foldl (fun s f =>
    if now s ≤ f.ts + 1000000 then beamWire { kind := if f.conn = 256 then .diag else .beam, dest := f.conn, args := f.args, data := f.data } s
    else { s with beam := { s.beam with txLate := satInc s.beam.txLate } }) { s with beam := { s.beam with queued := [] } }

/-- NET_LINK_UP (R364): port p gains link. -/
def opLinkUp (p : Nat) (s : State) : State :=
  if p < 3 ∧ !(netPort s p).link then
    let s := portUpd p (fun x => { x with link := true, linkTs := now s }) s
    let s := record 0x0A01 (netSrc p) (items [p]) s
    if p < 2 then beamFlush s else s
  else s

/-- NET_LINK_DOWN (R365): port p loses link. -/
def opLinkDown (p : Nat) (s : State) : State :=
  if p < 3 ∧ (netPort s p).link then
    let t := (netPort s p).linkTs
    record 0x0A02 (netSrc p) (items [p, (now s - t) / 1000000000])
      (portUpd p (fun x => { x with link := false, linkLoss := satInc x.linkLoss }) s)
  else s

/-! ### PRP (R364, R365) -/

/-- Entries of the duplicate discard past their 400 ms leave it; unmatched ones are counted by LAN. -/
def prpPurge (s : State) : State :=
  let n := s.net
  { s with net := { n with
      prpUniqA := satAdd n.prpUniqA (prpExpired s 0), prpUniqB := satAdd n.prpUniqB (prpExpired s 1)
      prp := n.prp.filter fun e => !decide (e.ts + 400000000 ≤ now s) } }

/-- A PTP message over UDP (R365). -/
def isPtp (f : EthFrame) : Bool := f.kind == .ipv4 && f.proto == 17 && (f.dport == 319 || f.dport == 320)

/-- Duplicate discard on an ECN port: whether the frame is passed on. -/
def prpTake (p : Nat) (f : EthFrame) (s : State) : Bool × State :=
  match f.rct with
  | none => (true, if isPtp f then s else { s with net := { s.net with prpUntagged := satInc s.net.prpUntagged } })
  | some (seq, lan) =>
    let s := prpPurge s
    let s := if lan = p then s else { s with net := { s.net with prpWrong := satInc s.net.prpWrong } }
    if isPtp f then (true, s)
    else if s.net.prp.any fun e => e.src == f.src && e.seq == seq then
      (false, { s with net := { s.net with
        prpDup := satInc s.net.prpDup
        prp := s.net.prp.map fun e => if e.src = f.src ∧ e.seq = seq ∧ e.lan ≠ p then { e with both := true } else e } })
    else (true, { s with net := { s.net with prp := s.net.prp ++ [{ src := f.src, seq := seq, lan := p, ts := now s }] } })

/-! ### The firewall (R367, R368) -/

/-- A rule matches a frame received on port p. -/
def fwMatch (r : FwRule) (p : Nat) (f : EthFrame) : Bool :=
  r.en && r.ports.testBit p && (r.proto == 0 || r.proto == f.proto) &&
    ((r.src >>> (32 - min 32 r.pfx)) == (f.sip >>> (32 - min 32 r.pfx))) &&
    (!(f.proto == 6 || f.proto == 17) || (decide (r.low ≤ f.dport) && decide (f.dport ≤ r.high)))

/-- The winning rule: the lowest PRIORITY, then the lowest index. -/
def fwWinner (l : List FwRule) (p : Nat) (f : EthFrame) : Option (Nat × FwRule) :=
  ((List.range l.length).zip l).foldl (fun b (i, r) =>
    if fwMatch r p f then
      match b with
      | none => some (i, r)
      | some (j, q) => if r.prio < q.prio then some (i, r) else some (j, q)
    else b) none

/-- The firewall judges an IPv4 frame: whether it is passed. -/
def fwTake (p : Nat) (f : EthFrame) (s : State) : Bool × State :=
  match fwWinner s.net.fw p f with
  | none => (false, { s with net := { s.net with fwNoMatch := satInc s.net.fwNoMatch } })
  | some (i, r) =>
    let s := { s with net := { s.net with fwHit := tabMod 0 s.net.fwHit i satInc } }
    let s := if 2 ≤ r.action then
        record 0x0A05 (netSrc p) (items [i, p, f.sip.toNat, f.dip.toNat, f.sport, f.dport]) s
      else s
    (r.action % 2 == 1, s)

/-- The record of failures of a source address. -/
def barOf (s : State) (a : Nat) : Bar := tabGet {} s.sec.bars a

/-- The address is barred (R478). -/
def isBarred (s : State) (a : Nat) : Bool := match (barOf s a).barred with
  | some t => decide (now s < t)
  | none => false

/-- A TCP connection to port 7410 begins: closed before the handshake for a barred address, while the TRNG gives no
output, or off the service port of an UNOWNED module; else its handshake runs (R469, R476, R478, R492). -/
def kapConnect (id peer p : Nat) (s : State) : State :=
  if s.kp.handshakes.any (fun h => h.id == id) || (tabGet none s.kp.sessions id).isSome then s
  else if !s.kp.ready || isBarred s peer || s.sec.trng != .running || (!s.sec.owned && p != 2) then
    emit { kind := .kapClose, dest := id } s
  else { s with kp := { s.kp with handshakes := s.kp.handshakes ++ [{ id := id, peer := peer, port := p, ts := now s }] } }

/-- ETHERNET_FRAME_RECEIVED (R364 to R368). -/
def opEthFrame (p : Nat) (f : EthFrame) (s : State) : State :=
  if 3 ≤ p ∨ !(netPort s p).link ∨ ethHeld s then s
  else if !f.fcsOk then portUpd p (fun x => { x with fcsErr := satInc x.fcsErr }) s
  else
    let s := portUpd p (fun x => { x with rxCnt := satInc x.rxCnt }) s
    if f.kind = .other then portUpd p (fun x => { x with nonIp := satInc x.nonIp }) s
    else
      let (pass, s) := if p < 2 then prpTake p f s else (true, s)
      if !pass then s
      else match f.kind with
        | .prpSup => { s with net := { s.net with prpSup := satInc s.net.prpSup } }
        | .ipv4 =>
          let (pass, s) := fwTake p f s
          match pass && f.proto == 6 && f.dport == 7410, f.open_ with
          | true, some id => kapConnect id f.sip.toNat p s
          | _, _ => s
        | _ => s

/-- PRP_SUPERVISION_SEND: every 2 s on both LANs (R364). -/
def opPrpSend (s : State) : State :=
  let s := reach (s.net.prpSupTs + 2000000000) s
  ecnSend { kind := .prp, dest := 0 } { s with net := { s.net with prpSupTs := now s } }

/-! ### Receiving Beam (R382 to R386) -/

/-- The frame is for this module: its DST is 0, the node number or, in a twin, TWIN_NODE; node 0 accepts none (R372). -/
def beamForUs (s : State) (f : BeamFrame) : Bool :=
  s.id.node != 0 && (f.dst == 0 || f.dst == s.id.node || (twinOn s && f.dst == s.twin.cfg.twinNode))

/-- The receive connection of a source and identifier. -/
def brxFind (s : State) (f : BeamFrame) : Option (Nat × BeamRxCfg) :=
  (brxCfgs s).find? fun x => x.2.node == f.src && x.2.conn == f.conn

/-- The key of the frame's epoch (R486): a cause of AUTH, or the state with the key at hand. Causes: 1 epoch not held,
2 derivation not yet allowed. -/
def beamKey (c : Nat) (e : Nat) (s : State) : Except Nat State :=
  let x := brxOf s c
  if e < x.epoch ∨ x.epoch + 1024 < e then .error 1
  else if e = x.epoch ∨ x.keys.contains e then .ok s
  else if (match x.deriveTs with
      | some t => decide (now s < t + 10000000)
      | none => false) then .error 2
  else .ok (brxMod c (fun x => { x with keys := x.keys ++ [e], deriveTs := some (now s) }) s)

/-- The tag verified under an epoch: a higher one becomes e_c and is kept (R486). -/
def beamEpoch (c : Nat) (e : Nat) (s : State) : State :=
  if (brxOf s c).epoch < e then
    nvmJournal 5 (brxMod c (fun x => { x with epoch := e, keys := x.keys.filter fun k => decide (e < k) }) s)
  else s

/-- Earlier deliveries that an IN phase may still need (R385). -/
def pastPrune (t : Nat) : List (Nat × BeamArea) → List (Nat × BeamArea)
  | [] => []
  | a :: as => if t < a.1 + 1000000 then a :: pastPrune t as else [a]

/-- deliver f (R382 to R384): the area, STALE and NEVER, and the frames missing. -/
def beamDeliver (p c : Nat) (cfg : BeamRxCfg) (f : BeamFrame) (lost : Nat) (s : State) : State :=
  let x := brxOf s c
  let src := netSrc p
  let a : BeamArea :=
    { seq := f.seq, ts := f.ts, safe := f.flags.testBit 0, forced := f.flags.testBit 1, holdover := f.flags.testBit 3
      data := f.data }
  let hold := s.beam.checkFault && brxVital s cfg
  let s := if x.stale && !hold then record 0x0A11 src (items [f.src, f.conn, (now s - x.staleTs) / 1000000]) s else s
  let s := if a.safe && !x.area.safe then record 0x0A17 src (items [f.src, f.conn]) s else s
  let s := { s with beam := { s.beam with rxCnt := satInc s.beam.rxCnt } }
  let s := traceBeam 0 f.src f.conn f.seq src f.data s
  brxMod c (fun x => { x with
    area := a, past := (now s, a) :: pastPrune (now s) x.past, never := false, stale := hold, lastTs := now s
    lostFor := (tasksUsed s).foldl (fun t k => tabMod 0 t k (· + lost)) x.lostFor }) s

/-- The sequence and time judgement of R382 on an authentic frame of connection c. -/
def beamOrder (p c : Nat) (cfg : BeamRxCfg) (f : BeamFrame) (s : State) : State :=
  let x := brxOf s c
  let src := netSrc p
  let b (g : Beam → Beam) (s : State) : State := { s with beam := g s.beam }
  if x.synced && f.ts == x.ts then
    if f.seq = x.seq then b (fun b => { b with dup := satInc b.dup }) s
    else record 0x0A16 src (items [f.src, f.conn] ++ item64 f.ts ++ items [x.seq, f.seq]) (b (fun b => { b with conflict := satInc b.conflict }) s)
  else if !x.synced || decide (x.ts < f.ts) then
    let d := (f.seq + 2 ^ 32 - x.seq) % 2 ^ 32
    let fwd := x.synced && decide (1 ≤ d) && decide (d < 2 ^ 31)
    let lost := if fwd then d - 1 else 0
    let s := if x.synced && !fwd then
        record 0x0A15 src (items [f.src, f.conn, x.seq, f.seq]) (b (fun b => { b with resync := satInc b.resync }) s)
      else s
    let w : BitVec 64 := if fwd then (if d < 64 then x.window <<< d else 0) else 0
    let s := brxMod c (fun x => { x with
      seq := f.seq, ts := f.ts, synced := true, window := w ||| 1, lost := x.lost + lost }) s
    beamDeliver p c cfg f lost s
  else
    let back := (x.seq + 2 ^ 32 - f.seq) % 2 ^ 32
    if back < 64 then
      if x.window.getLsbD back then b (fun b => { b with dup := satInc b.dup }) s
      else
        b (fun b => { b with late := satInc b.late })
          (brxMod c (fun x => { x with window := x.window ||| BitVec.ofNat 64 (2 ^ back) }) s)
    else b (fun b => { b with old := satInc b.old }) s

/-- receive(f, r) of R382 for a frame on ECN port p. -/
def opBeamReceive (p : Nat) (f : BeamFrame) (s : State) : State :=
  let src := netSrc p
  let b (g : Beam → Beam) (s : State) : State := { s with beam := g s.beam }
  if !beamForUs s f ∨ ethHeld s then s
  else match brxFind s f with
  | none => b (fun b => { b with noConn := satInc b.noConn }) s
  | some (c, cfg) =>
    if f.version ≠ 1 then b (fun b => { b with noConn := satInc b.noConn }) s
    else
      let auth (cause : Nat) (s : State) : State :=
        record 0x0A12 src (items [f.src, f.conn, f.epoch, cause]) (b (fun b => { b with auth := satInc b.auth }) s)
      match beamKey c f.epoch s with
      | .error e => auth e s
      | .ok s =>
        if !f.tagOk then auth 3 s
        else
          let s := beamEpoch c f.epoch s
          if !f.same then beamCheckFault 0 f.src f.conn p s
          else if f.scrc ≠ scrcOf cfg.safety (beamBody f) then
            record 0x0A13 src (items [f.src, f.conn]) (b (fun b => { b with crc := satInc b.crc }) s)
          else if f.len ≠ cfg.len ∨ f.data.length ≠ f.len ∨ f.typ ≠ 1 then b (fun b => { b with format := satInc b.format }) s
          else if now s + 1000000 < f.ts ∨ f.ts + cfg.ageLimit * 1000 < now s then
            record 0x0A14 src (items [f.src, f.conn] ++ itemInt ((f.ts : Int) - (now s : Int)))
              (b (fun b => { b with time := satInc b.time }) s)
          else beamOrder p c cfg f s

/-- BEAM_RX_TIMEOUT (R384): RX_TIMEOUT has passed since the last delivery. -/
def opBeamRxTimeout (c : Nat) (s : State) : State :=
  let f := brxCfg s c
  let x := brxOf s c
  if f.en && !x.stale then
    let s := reach (x.lastTs + f.timeout * 1000) s
    brxStale c f s
  else s

/-- A program load or restart: every receive connection is not synced, NEVER and STALE, its area 0 (R384). -/
def beamRestarted (s : State) : State :=
  { s with beam := { s.beam with rx := s.beam.rx.foldl (fun t (c, x) =>
      tabPut {} t c { epoch := x.epoch, keys := x.keys, deriveTs := x.deriveTs, staleTs := now s }) [] } }

/-- BEAM_TX_LATE (R379): the oldest queued class 3 frame is not on the wire 1 ms after its strobe. -/
def opBeamTxLate (s : State) : State :=
  match s.beam.queued with
  | [] => s
  | q :: qs =>
    let s := reach (q.ts + 1000000) s
    { s with beam := { s.beam with queued := qs, txLate := satInc s.beam.txLate } }

/-! ### The diagnostic frame (R381) -/

/-- The diagnostic payload: five words, then 0 (assumption log, entry 48). -/
def diagPayload (s : State) : List Byte :=
  items [(modeWord s).toNat, (modStatus s).toNat, (modUnits s).toNat, newestSeq s, s.rcd.suppDiag] ++ List.replicate 44 0

/-- DIAG_FRAME_SEND: at a change of MOD_STATUS, or 1 s after the previous frame. -/
def opDiagSend (s : State) : State :=
  match s.net.cur with
  | none => s
  | some c =>
    if c.diagNode = 0 ∨ s.id.node = 0 ∨ s.sec.nodeEpochOut then s
    else
      let s := if modStatus s ≠ s.beam.diagStatus then s else reach (s.beam.diagTs + 1000000000) s
      let seq := s.beam.diagSeq
      let s := beamWire3 256 .diag [seq, now s, beamFlags s false false, s.id.node, c.diagNode, 0xFF01, btxEpoch s false]
        (diagPayload s) s
      { s with
        beam := { s.beam with diagTs := now s, diagSeq := (seq + 1) % 2 ^ 32, diagStatus := modStatus s }
        rcd := { s.rcd with suppDiag := 0 } }

/-! ### The partner heartbeat (R229, R234 to R236) -/

/-- PARTNER_HEARTBEAT_SEND: every 250 µs on each ECN port (R229, R381). -/
def opHbSend (s : State) : State :=
  if !twinOn s ∨ s.id.node = 0 ∨ s.sec.nodeEpochOut then s
  else
    let s := reach (s.twin.hbSent + 250000) s
    let m := s.mode
    let args := [s.twin.hbSeq, now s, roleCode m.role, execCode m.exec, powerCode m.power, s.twin.epoch,
      b2n (s.twin.locked && !s.twin.silence), (ownCarry s).toNat, btxEpoch s false]
    let s := beamWire { kind := .heartbeat, dest := 0xFF00, args := args } s
    { s with twin := { s.twin with hbSent := now s, hbSeq := (s.twin.hbSeq + 1) % 2 ^ 32 } }

/-- A role by its code in MOD_MODE. -/
def roleOf (n : Nat) : TwinRole :=
  if n = 0 then .solo else if n = 1 then .principal else if n = 2 then .assistant else if n = 3 then .rejoining
  else if n = 4 then .isolated else .noRole

/-- An execution mode by its code. -/
def execOf (n : Nat) : ExecMode := if n = 0 then .stop else if n = 1 then .run else if n = 2 then .proof else .safe

/-- A power mode by its code. -/
def powerOf (n : Nat) : PowerMode := if n = 0 then .normal else if n = 1 then .rideThrough else .saving

/-- What the partner reports of itself: role, modes and ROLE_EPOCH (R212, R229). -/
def partnerReport (role exec power epoch epochTs : Nat) (linkRx : Bool) (s : State) : State :=
  { s with twin := { s.twin with
    partnerRole := roleOf role, partnerExec := execOf exec, partnerPower := powerOf power, partnerEpoch := epoch
    partnerEpochTs := epochTs, partnerRx := linkRx } }

/-- A change of role waits for the next T_sw (R231 to R237). -/
def rolePend (r : TwinRole) (cause info : Nat) (s : State) : State :=
  { s with twin := { s.twin with pend := some { role := r, ts := switchInstant s 10000, cause := cause, info := info } } }

/-- Two principals are seen (R236): the one whose ROLE_EPOCH began later yields, or the higher node; the one that remains
takes a new twin epoch at its next T_sw (R383, R484). -/
def doublePrincipal (hbTs : Nat) (s : State) : State :=
  if s.mode.role = .principal ∧ s.twin.partnerRole = .principal ∧ !s.twin.double then
    let own := s.twin.epochTs
    let par := s.twin.partnerEpochTs
    let yields := decide (par < own) || (par == own && decide (s.twin.cfg.partnerNode < s.id.node))
    let s := record 0x0408 0 (item64 own ++ item64 par ++ items [if yields then s.id.node else s.twin.cfg.partnerNode])
      { s with twin := { s.twin with double := true } }
    if yields then rolePend .isolated 8 hbTs s
    else { s with twin := { s.twin with rotateAt := some (switchInstant s 10000) } }
  else if s.twin.double ∧ !(s.mode.role = .principal ∧ s.twin.partnerRole = .principal) then
    { s with twin := { s.twin with double := false } }
  else s

/-- after_silence of R234 on a heartbeat sent at or after the start of the silence; PROOF counts as running. -/
def silenceDecide (h : Heartbeat) (s : State) : State :=
  if s.mode.role = .assistant ∧ s.twin.silence ∧ !s.twin.decided ∧ s.twin.pend = none ∧ s.twin.silenceTs ≤ h.sentTs then
    let t := s.twin
    if t.partnerRole = .principal ∧ (t.partnerExec = .run ∨ t.partnerExec = .proof) ∧ t.partnerPower ≠ .saving then
      rolePend .isolated 7 h.sentTs { s with twin := { s.twin with decided := true } }
    else if t.partnerExec = .safe ∨ t.partnerPower = .saving ∨ t.partnerRole = .assistant then
      rolePend .principal 5 h.sentTs { s with twin := { s.twin with decided := true } }
    else s
  else s

/-- PARTNER_HEARTBEAT_RECEIVED (R229, R234, R236). -/
def opHbReceived (h : Heartbeat) (s : State) : State :=
  if !twinOn s ∨ s.id.node = 0 ∨ ethHeld s then s
  else
    let s := partnerReport h.role h.exec h.power h.epoch h.epochTs h.linkRx s
    let s := { s with twin := { s.twin with hbTs := some (now s), split := s.twin.silence } }
    let s := aoUpdate (outsUpdate (partnerSign h.carry s))
    silenceDecide h (doublePrincipal h.sentTs s)

/-! ### The meanings -/

/-- NET_LINK_UP (R364). -/
def execNetLinkUp (p : Nat) (s : State) : Out := .next (opLinkUp p s)
/-- NET_LINK_DOWN (R365). -/
def execNetLinkDown (p : Nat) (s : State) : Out := .next (opLinkDown p s)
/-- ETHERNET_FRAME_RECEIVED (R367). -/
def execEthernetFrameReceived (p : Nat) (f : EthFrame) (s : State) : Out := .next (opEthFrame p f s)
/-- PRP_SUPERVISION_SEND (R364). -/
def execPrpSupervisionSend (s : State) : Out := .next (opPrpSend s)
/-- BEAM_RECEIVE (R382). -/
def execBeamReceive (p : Nat) (f : BeamFrame) (s : State) : Out := .next (opBeamReceive p f s)
/-- BEAM_RX_TIMEOUT (R384). -/
def execBeamRxTimeout (c : Nat) (s : State) : Out := .next (opBeamRxTimeout c s)
/-- BEAM_TX_LATE (R379). -/
def execBeamTxLate (s : State) : Out := .next (opBeamTxLate s)
/-- DIAG_FRAME_SEND (R381). -/
def execDiagFrameSend (s : State) : Out := .next (opDiagSend s)
/-- PARTNER_HEARTBEAT_SEND (R229). -/
def execPartnerHeartbeatSend (s : State) : Out := .next (opHbSend s)
/-- PARTNER_HEARTBEAT_RECEIVED (R229). -/
def execPartnerHeartbeatReceived (h : Heartbeat) (s : State) : Out := .next (opHbReceived h s)

end Sys2Proof.Machine
end

