-- ==== Sys2Proof/Machine/Cmd.lean ====
section
/-!
DEFINITION. The command table and the checks of R436 to R444: opcode, LEN and fields, roles, modes, declared
transitions, view conflicts, twin-wide passing and long commands.
-/
namespace Sys2Proof.Machine

/-! ### The command table -/

/-- The Role column, by the sessions that some use of the opcode admits (R439, R440). -/
inductive RoleRule where
  /-- V, and rows whose role hangs on what the command names for any role. -/
  | any
  /-- O, and O/E. -/
  | operator
  | engineer
  | officer
  /-- E/VS. -/
  | vendor
  /-- By transfer kind. -/
  | transfer
  deriving DecidableEq, Repr

/-- A row of the command tables of chapter 18: the bits each argument word may hold (R436); `more` is how many further
data words may follow. -/
structure CmdRow where
  op    : Nat
  masks : List Nat
  role  : RoleRule
  more  : Nat := 0
  deriving DecidableEq, Repr

/-- A full argument word. -/
def fullW : Nat := 0xFFFFFFFF

/-- Groups 0x01 to 0x03. -/
def cmdTable1 : List CmdRow :=
  [⟨0x0101, [], .any, 0⟩, ⟨0x0102, [], .any, 0⟩, ⟨0x0103, [], .any, 0⟩, ⟨0x0104, [fullW, fullW], .any, 0⟩,
   ⟨0x0110, [], .operator, 0⟩, ⟨0x0111, [], .engineer, 0⟩, ⟨0x0112, [], .engineer, 0⟩, ⟨0x0113, [], .engineer, 0⟩,
   ⟨0x0114, [], .engineer, 0⟩, ⟨0x0115, [fullW, fullW], .engineer, 0⟩, ⟨0x0116, [fullW, fullW, fullW], .any, 0⟩,
   ⟨0x0117, [fullW, fullW], .engineer, 0⟩, ⟨0x0120, [0xFF, fullW, fullW], .transfer, 0⟩,
   ⟨0x0121, [fullW, fullW], .transfer, 13⟩, ⟨0x0122, [], .transfer, 0⟩, ⟨0x0124, [fullW], .any, 0⟩,
   ⟨0x0201, [], .engineer, 0⟩, ⟨0x0202, [], .any, 0⟩, ⟨0x0210, [0x103], .operator, 0⟩, ⟨0x0211, [1], .operator, 0⟩,
   ⟨0x0212, [0xF], .any, 0⟩, ⟨0x0213, [0xF], .operator, 0⟩, ⟨0x0214, [0xF], .engineer, 0⟩,
   ⟨0x0215, [0xFF], .engineer, 0⟩, ⟨0x0216, [0xF, fullW, fullW], .any, 0⟩, ⟨0x0301, [], .engineer, 0⟩,
   ⟨0x0302, [], .any, 0⟩, ⟨0x0303, [], .engineer, 0⟩, ⟨0x0304, [], .engineer, 0⟩, ⟨0x0305, [], .engineer, 0⟩,
   ⟨0x0306, [], .engineer, 0⟩]

/-- Groups 0x04 to 0x06. -/
def cmdTable2 : List CmdRow :=
  [⟨0x0401, [0xF00FFFFF, fullW], .operator, 0⟩, ⟨0x0402, [fullW], .operator, 0⟩, ⟨0x0403, [], .any, 0⟩,
   ⟨0x0404, [fullW], .operator, 0⟩, ⟨0x0405, [3], .engineer, 0⟩, ⟨0x0406, [0xF], .engineer, 0⟩,
   ⟨0x0407, [7], .engineer, 0⟩, ⟨0x0408, [0xFFFF0F], .operator, 12⟩, ⟨0x0409, [], .engineer, 0⟩,
   ⟨0x0501, [], .any, 0⟩, ⟨0x0502, [], .engineer, 0⟩, ⟨0x0503, [], .engineer, 0⟩, ⟨0x0601, [], .any, 0⟩,
   ⟨0x0602, [0x7F03, 0xFFFF, fullW, fullW], .officer, 0⟩, ⟨0x0603, [fullW, fullW], .engineer, 0⟩,
   ⟨0x0604, [0xF03, fullW, fullW], .any, 12⟩, ⟨0x0605, [0x3F], .any, 0⟩, ⟨0x0606, [], .any, 0⟩,
   ⟨0x0607, [0xFF0F1F, 0x1F3F3F], .engineer, 0⟩, ⟨0x0608, [7], .engineer, 0⟩, ⟨0x0609, [0xFFFF], .engineer, 0⟩,
   ⟨0x060A, [1, 0x1F3F3F, 0x70F1F, 0x8000003F], .operator, 0⟩, ⟨0x060B, [1], .operator, 0⟩,
   ⟨0x060C, [], .engineer, 0⟩]

/-- Groups 0x07 to 0x0E. -/
def cmdTable3 : List CmdRow :=
  [⟨0x0701, [fullW, fullW], .any, 0⟩, ⟨0x0702, [], .officer, 0⟩, ⟨0x0703, [fullW], .officer, 0⟩,
   ⟨0x0801, [0xFF], .any, 0⟩, ⟨0x0802, [], .engineer, 0⟩, ⟨0x0803, [], .any, 0⟩, ⟨0x0901, [], .any, 0⟩,
   ⟨0x0902, [0x3FFF], .officer, 0⟩, ⟨0x0903, [], .officer, 0⟩, ⟨0x0904, [], .officer, 0⟩, ⟨0x0905, [3], .officer, 0⟩,
   ⟨0x0906, [], .any, 0⟩, ⟨0x0A01, [], .vendor, 0⟩, ⟨0x0A02, [], .vendor, 0⟩, ⟨0x0A03, [], .any, 0⟩,
   ⟨0x0B01, [0x1F, 0xFFFF, 0xFFFF], .vendor, 0⟩, ⟨0x0B02, [0xFF, fullW], .vendor, 0⟩, ⟨0x0B03, [0xFF1], .vendor, 0⟩,
   ⟨0x0C01, [3], .any, 0⟩, ⟨0x0C02, [0x3F03], .operator, 0⟩, ⟨0x0C03, [3], .operator, 0⟩,
   ⟨0x0D01, [fullW, fullW, fullW, 0x0FFF0FFF, 0x3FFF], .officer, 0⟩, ⟨0x0D02, [], .officer, 0⟩,
   ⟨0x0D03, [0xFF], .any, 0⟩, ⟨0x0E01, [3], .any, 0⟩, ⟨0x0E02, [3], .engineer, 0⟩, ⟨0x0E03, [0xFF], .any, 0⟩]

/-- The row of an opcode. -/
def cmdRow (op : Nat) : Option CmdRow := (cmdTable1 ++ cmdTable2 ++ cmdTable3).find? fun r => r.op == op

/-- The CAN subset: the rows marked C. -/
def canOps : List Nat := [0x0101, 0x0102, 0x0104, 0x0110, 0x0210, 0x0211]

/-- The twin-wide opcodes: the rows marked T; SCHEDULE and SCHEDULE_CANCEL for kind 1 only. -/
def twinOps : List Nat :=
  [0x0201, 0x0210, 0x0211, 0x0213, 0x0301, 0x0303, 0x0304, 0x0305, 0x0306, 0x0401, 0x0402, 0x0404, 0x0405]

/-- What a claim session may use (R469). -/
def claimOps : List Nat := [0x0101, 0x0103, 0x0901, 0x0120, 0x0121, 0x0122, 0x0904]

/-- Argument word i of a request: w(i + 1). -/
def argW (q : Req) (i : Nat) : Word := q.args.getD i 0
/-- The same as a number. -/
def arg (q : Req) (i : Nat) : Nat := (argW q i).toNat

/-- A value lies in a range. -/
def inR (lo n hi : Nat) : Bool := decide (lo ≤ n) && decide (n ≤ hi)

/-- Stated ranges of the fields of a request (R436). -/
def argRange (q : Req) : Bool :=
  let a := arg q
  match q.opcode with
  | 0x0104 => inR 1 (a 1) 8
  | 0x0116 => inR 1 (a 2) 1000000
  | 0x0117 => inR 10 (a 0) 10000 && inR 0 (a 1) 1
  | 0x0210 => inR 0 (a 0 % 4) 2
  | 0x0216 => inR 1 (a 2) 13
  | 0x0401 => inR 0 (a 0 / 2 ^ 28) 5
  | 0x0402 => a 0 == fullW || (inR 0 (a 0 / 2 ^ 28) 5 && a 0 / 2 ^ 20 % 256 == 0)
  | 0x0408 => inR 0 (a 0 / 2 ^ 16) 48 && q.len == 2 + (a 0 / 2 ^ 16 + 3) / 4
  | 0x0602 => inR 10 (a 2) 500 && inR 0 (a 3) 100000
  | 0x0604 => (a 0 % 4 == 1 && q.len == 4 && inR 8 (a 0 / 256) 15) || (a 0 % 4 == 2 && inR 5 q.len 16)
  | 0x0608 => inR 0 (a 0) 6
  | 0x0701 => inR 1 (a 1) 64
  | 0x0902 => inR 1 (a 0) 16383
  | 0x0905 => inR 1 (a 0) 2
  | 0x0C02 => true
  | 0x0E01 => inR 0 (a 0) 2
  | 0x0E02 => inR 0 (a 0) 2
  | _ => true

/-- Check 1 of R439: opcode, LEN and fields. -/
def headerOk (q : Req) : Bool := match cmdRow q.opcode with
  | none => false
  | some r =>
    let n := r.masks.length
    inR (1 + n) q.len (1 + n + r.more) && argRange q &&
      ((q.args.take n).zip r.masks).all fun x => (x.1.toNat &&& x.2) == x.1.toNat

/-- The sessions a role rule admits (R440). -/
def roleAdmits (r : RoleRule) (x : Role) : Bool := match r with
  | .any => true
  | .operator => x == .operator || x == .engineer
  | .engineer => x == .engineer
  | .officer => x == .securityOfficer
  | .vendor => x == .engineer || x == .vendorService
  | .transfer => x == .engineer || x == .securityOfficer || x == .vendorService

/-- Check 2 of R439: some use of the opcode admits the sender. -/
def roleOk (q : Req) : Bool :=
  if q.claim then claimOps.contains q.opcode
  else match cmdRow q.opcode with
  | none => false
  | some r => roleAdmits r.role q.role

/-- A refusal of a command of role S is recorded (R498). -/
def denyRole (q : Req) (s : State) : State :=
  match (cmdRow q.opcode).map CmdRow.role with
  | some .officer => record 0x0D13 0 (items [q.opcode] ++ item128 q.ident) s
  | _ => s

/-- Checks 1 and 2: the refusal the acknowledge carries. -/
def headCheck (q : Req) : Option Nat := if !headerOk q then some 0x0303 else if !roleOk q then some 0x0301 else none

/-! ### Check 3: modes (R441) -/

/-- The partner takes part in twin-wide commands (R230, R442). -/
def partnerThere (s : State) : Bool := twinOn s && s.twin.locked && partnerUp s && s.mode.role != .isolated && s.mode.role != .rejoining

/-- The command is twin-wide. -/
def isTwinWide (q : Req) (s : State) : Bool :=
  twinOps.contains q.opcode || (q.opcode == 0x0604 && arg q 0 % 4 == 1) ||
    (q.opcode == 0x0605 && (tabGet ({} : Sched) s.time.sch (arg q 0)).kind == 1)

/-- The restrictions of R441. -/
def modeRefused (q : Req) (s : State) : Bool :=
  (s.mode.power == .saving && q.opcode != 0x0110 &&
      ((cmdRow q.opcode).map CmdRow.role != some .any || q.opcode == 0x0604 || q.opcode == 0x0605)) ||
    (!s.id.variantV && q.opcode / 256 == 5) ||
    ((s.mode.role == .rejoining || s.mode.role == .isolated) && isTwinWide q s && q.opcode != 0x0402)

/-! ### Check 6: declared transitions (R443) -/

/-- A declared transition is pending. -/
def transitionPending (s : State) : Bool :=
  !s.mode.declared.isEmpty || s.mode.stopStage != 0 || s.twin.pend.isSome || s.twin.relinq.isSome

/-! ### View conflicts (R433) -/

/-- A unit is in conflict. -/
def inConflict (s : State) (u : UnitName) : Bool := s.kp.views.any fun v => v.name == u && v.conflict

/-- The units a command is aimed at. -/
def aimedAt (q : Req) : UnitName → Bool := fun u =>
  let a := arg q 0
  match q.opcode, u with
  | 0x0215, .gallery g => g == a / 16
  | 0x0215, .range g r => g == a / 16 && r == a % 16
  | 0x0B03, .gallery g => g == a / 256
  | 0x0B03, .range g r => g == a / 256 && r == a / 16 % 16
  | 0x0E01, .buoy b => b == a
  | 0x0E02, .buoy b => b == a
  | 0x0502, .partner => true
  | 0x0503, .partner => true
  | _, _ => false

/-- The command is aimed at a unit in conflict. -/
def aimConflict (q : Req) (s : State) : Bool := s.kp.views.any fun v => v.conflict && aimedAt q v.name

/-! ### Execution -/

/-- An answer with a return code alone. -/
def rcAns (rc : Nat) : Ans := { rc := rc }

/-- Words of a 64-bit value, low word first. -/
def words64 (n : Nat) : List Word := [w32 n, w32 (n / 2 ^ 32)]

/-- The front command of the queue, when it has this opcode and the keeper serves, is taken and executed by `f`; an
answer is written, none means that the reply comes later (R443). -/
def command (op : Nat) (f : Req → State → Option Ans × State) (s : State) : State :=
  match s.kp.queue with
  | [] => s
  | q :: rest =>
    if q.opcode = op ∧ s.kp.ready then
      let s := { s with kp := { s.kp with queue := rest } }
      if modeRefused q s then finish q { rc := 0x0302 } s
      else match f q s with
        | (some a, s) => finish q (ansTrim a) s
        | (none, s) => s
    else s

/-- As `command`, for an answer that may carry data with any code (R437, R446, R449, R453, R455). -/
def commandData (op : Nat) (f : Req → State → Option Ans × State) (s : State) : State :=
  match s.kp.queue with
  | [] => s
  | q :: rest =>
    if q.opcode = op ∧ s.kp.ready then
      let s := { s with kp := { s.kp with queue := rest } }
      if modeRefused q s then finish q { rc := 0x0302 } s
      else match f q s with
        | (some a, s) => finish q a s
        | (none, s) => s
    else s

/-- A command that answers at once from its checks or its effect. -/
def simple (op : Nat) (chk : Req → State → Option Nat) (eff : Req → State → Ans × State) (s : State) : State :=
  command op (fun q s => match chk q s with
    | some rc => (some (rcAns rc), s)
    | none => let (a, s) := eff q s; (some a, s)) s

/-- A command that only reads. -/
def readCmd (op : Nat) (f : Req → State → Ans) (s : State) : State := command op (fun q s => (some (f q s), s)) s

/-- A long command of the opcode runs (R444). -/
def longBusy (s : State) (op : Nat) : Bool := s.kp.long.any fun l => l.req.opcode == op

/-- A long command begins, its result still to come. -/
def longStart (q : Req) (s : State) : State := { s with kp := { s.kp with long := s.kp.long ++ [{ req := q }] } }

/-- A long command whose effect is complete and whose reply is still to be written. -/
def longWith (q : Req) (a : Ans) (s : State) : State :=
  { s with kp := { s.kp with long := s.kp.long ++ [{ req := q, done := true, rc := a.rc, data := a.data }] } }

/-- LONG_COMMAND_COMPLETE: the reply of the long command of an opcode is written (R444). -/
def opLongComplete (op : Nat) (s : State) : State :=
  match takeFirst (fun l : LongRun => l.req.opcode == op && l.done) s.kp.long with
  | some (l, rest) =>
    if s.kp.ready then finish l.req { rc := l.rc, data := l.data } { s with kp := { s.kp with long := rest } } else s
  | none => s

/-- LONG_COMMAND_COMPLETE (R444). -/
def execLongCommandComplete (op : Nat) (s : State) : Out := .next (opLongComplete op s)

/-! ### Twin-wide commands (R442) -/

/-- Kinds of the messages of the twin mailbox (assumption log, entry 23): 1 command, 2 answer, 3 declaration. -/
def twinMessage (kind : Nat) (q : Req) (rc ts : Nat) : List Word :=
  [hdrWord (0xE000 + kind) q.tag 16, fldF q.opcode 16 ||| fldF rc 0, w32 ts, w32 (ts / 2 ^ 32), fldF q.args.length 0] ++
    q.args.take 11

/-- A message for the partner enters the twin mailbox, or waits for it (R418, R442). -/
def twinSend (ws : List Word) (s : State) : State :=
  if (mbxOf s 25).fk.full then { s with kp := { s.kp with twinOut := s.kp.twinOut ++ [ws] } } else fkWrite 25 ws s

/-- The command passes through the twin mailbox: twin-wide ones, and the rotation of the Beam keys (R484). -/
def passesTwin (q : Req) (s : State) : Bool := isTwinWide q s || (q.opcode == 0x0905 && arg q 0 == 1)

/-- A twin-wide command (R442): its checks, then the passing to the partner, or the effect here when the partner is
absent. -/
def twinWide (op : Nat) (chk : Req → State → Option Ans) (eff : Req → State → Option Ans × State) (s : State) : State :=
  commandData op (fun q s => match chk q s with
    | some a => (some a, s)
    | none =>
      if partnerThere s && passesTwin q s then
        (none, twinSend (twinMessage 1 q 0 0) { s with kp := { s.kp with
          twinWait := s.kp.twinWait ++ [(q, now s + 10000000)] } })
      else eff q s) s

/-- The instant of a twin-wide command with no instant of its own: 2 ms ahead. -/
def declareAt (s : State) : Nat := now s + 2000000

end Sys2Proof.Machine
end

