-- ==== Sys2Proof/Machine/Nvm.lean ====
section
/-!
DEFINITION. The NVM controller at work (R501 to R516) and the recorder behind it (R518 to R524): page commits, what a
completed or failed commit set leads to, summaries and snapshots that fall due.
-/
namespace Sys2Proof.Machine

/-! ### The recorder ring (R519, R523) -/

/-- One record enters the ring; the records it overwrites leave it. -/
def ringAdd (r : Rec) (s : State) : State :=
  let k := s.rcd
  let o := ringPlace k.badPages (recLen r) 9000 k.nextOff
  let e := o + recLen r
  let hit (x : RingRec) : Bool :=
    let xe := x.off + recLen x.rcd
    if k.nextOff ≤ o then decide (x.off < e) && decide (k.nextOff < xe)
    else decide (k.nextOff < xe) || decide (x.off < e)
  let gone := k.ring.filter hit
  { s with rcd := { k with
      ring := k.ring.filter (fun x => !hit x) ++ [{ off := o, rcd := r }], nextOff := e
      overwriteCnt := satAdd k.overwriteCnt gone.length } }

/-- The records of a completed append are in the ring; staging that has gathered enough is committed next. -/
def appendDone (n : Nat) (s : State) : State :=
  let done := s.rcd.staged.take n
  let s := done.foldl (fun s r => ringAdd r s) s
  let rest := s.rcd.staged.drop n
  let s := { s with rcd := { s.rcd with
      staged := rest, committing := 0, stagedTs := rest.head?.map Rec.ts
      ll := if done.any fun r => r.code == 0x0E12 then { s.rcd.ll with copied := true } else s.rcd.ll } }
  if recBytes rest ≥ 256 ∨ rest.any fun r => urgentCode r.code then flushStaged 1 s else s

/-- The recorder's memory has failed (R523): 1 page failed at commit, 2 ring unreadable at scan. -/
def recorderFail (cause page : Nat) (s : State) : State :=
  let k := s.rcd
  let first := match k.staged with
    | r :: _ => (recBytesOf r).take 208
    | [] => []
  let ll : LastLight :=
    if k.ll.valid && !k.ll.copied then { k.ll with lost := min 255 (k.ll.lost + 1) }
    else { valid := true, seq := k.nextSeq, ts := now s, cause := cause, page := page, staged := k.staged.length
           modes := [modeWord s, modStatus s, modUnits s], pend := if cause = 1 then first else [] }
  let s := { s with rcd := { k with
      ll := ll, degraded := true, staged := [], stagedTs := none, committing := 0
      badPages := if cause = 1 then k.badPages ++ [page - 0x080000] else k.badPages
      volRing := volTrim 4000 (k.volRing ++ k.staged.map fun r => { r with flags := r.flags + 4 })
      volCnt := satAdd k.volCnt k.staged.length } }
  let s := if cause = 1 then nvmJournal 6 s else s
  record 0x0E11 0x02C0 (llHead ll ++ (llPending ll).take 200) s

/-! ### Retain saves and snapshots (R512, R516) -/

/-- The data pages of an area. -/
def areaPages (a len : Nat) : List (Nat × Nat) :=
  (List.range ((len + 255) / 256)).map fun i => (0x20000 * a + 256 * i, 0)

/-- The stop save has ended (R274). -/
def stopSaved (written : Bool) (s : State) : State :=
  if s.mode.stopStage = 2 then { s with mode := { s.mode with stopStage := 3, stopSaveWritten := written } } else s

/-- The header is committed: the area is valid (R512). -/
def retainDone (c : RetCapture) (s : State) : State :=
  let gen := match areaNewer s with
    | some a => ((areaOf s a).gen + 1) % 2 ^ 32
    | none => 1
  let us := (now s - c.ts) / 1000
  let s := areaMod c.area (fun _ => {
    valid := true, kind := c.kind, run := c.run, gen := gen, layout := c.layout, ts := c.ts, length := c.length, data := c.data
    blocks := c.blocks }) s
  let s := { s with nvm := { s.nvm with
      capture := none, saveUs := us
      saveCnt := if c.kind ≤ 2 then satInc s.nvm.saveCnt else s.nvm.saveCnt
      snapCnt := if c.kind ≤ 2 then s.nvm.snapCnt else satInc s.nvm.snapCnt } }
  let s := if c.kind ≤ 2 then record 0x0E03 0x02C0 (items [c.kind, c.area, c.run, c.length, us]) s
    else record 0x0E05 0x02C0 (items [c.kind, c.area, c.run, c.length]) s
  let s := c.reqs.foldl (fun s q => finish q { rc := 0, data := words64 c.ts } s) s
  snapTry (if c.kind = 2 then stopSaved true s else s)

/-- A save or snapshot has failed: its area stays invalid (R516). -/
def retainFail (c : RetCapture) (page : Nat) (s : State) : State :=
  let s := areaMod c.area (fun a => { a with writing := false }) { s with nvm := { s.nvm with capture := none } }
  let s := record 0x0E04 0x02C0 (items [c.kind, c.area, page]) s
  let s := c.reqs.foldl (fun s q => finish q { rc := 0x0403 } s) s
  snapTry (if c.kind = 2 then stopSaved false s else s)

/-! ### Page commits (R502, R505) -/

/-- Region of an array address, by its row in the allocation table. -/
def nvmRegion (p : Nat) : Nat :=
  if p < 0x20000 then 1 else if p < 0x40000 then 2 else if p < 0x80000 then 3 else if p < 0x280000 then 4
  else if p < 0x300000 then 5 else 6

/-- A commit set is complete. -/
def jobDone (j : NvmJob) (s : State) : State := match j.work with
  | .append n => appendDone n s
  | .counter _ _ => s
  | .journal _ => s
  | .zero => { s with nvm := { s.nvm with zeroing := false }, rcd := { s.rcd with clearing := false } }
  | .retain k a st => match s.nvm.capture with
    | none => s
    | some c =>
      if st = 1 then nvmPush { j with work := .retain k a 2, pages := areaPages a c.length } s
      else if st = 2 then nvmPush { j with work := .retain k a 3, pages := [(headerPage a, 0)] } s
      else retainDone c s

/-- A page of a commit set has failed for the third time. -/
def jobFail (j : NvmJob) (p : Nat) (s : State) : State := match j.work with
  | .append _ => recorderFail 1 p s
  | .counter _ _ => s
  | .journal _ => s
  | .zero => { s with nvm := { s.nvm with zeroing := false }, rcd := { s.rcd with clearing := false } }
  | .retain _ _ _ => match s.nvm.capture with
    | none => s
    | some c => retainFail c p s

/-- The commit set whose page is served next: the lowest class, then the order of request (R505). -/
def jobAt (s : State) (p : Nat) : Option Nat :=
  let l := (List.range s.nvm.jobs.length).zip s.nvm.jobs
  let f (c : Nat) : Option Nat := (l.find? fun x => x.2.cls == c && x.2.pages.any fun y => y.1 == p).map Prod.fst
  (f 0).or ((f 1).or (f 2))

/-- PAGE_COMMIT: the commit of the page at an address ends; `ok` when it reads back as written (R502). -/
def opPageCommit (p : Nat) (ok : Bool) (s : State) : State :=
  match jobAt s p with
  | none => s
  | some i =>
    match s.nvm.jobs[i]? with
    | none => s
    | some j =>
      let n := s.nvm
      if ok then
        let pages := j.pages.filter fun x => x.1 != p
        let s := { s with nvm := { n with commitCnt := satInc n.commitCnt } }
        if pages = [] then jobDone j { s with nvm := { s.nvm with jobs := s.nvm.jobs.eraseIdx i } }
        else { s with nvm := { s.nvm with jobs := s.nvm.jobs.set i { j with pages := pages } } }
      else
        let tries := ((j.pages.find? fun x => x.1 == p).map Prod.snd).getD 0 + 1
        if tries < 3 then
          { s with nvm := { n with
              retryCnt := satInc n.retryCnt
              jobs := n.jobs.set i { j with pages := j.pages.map fun x => if x.1 = p then (p, tries) else x } } }
        else
          let s := { s with nvm := { n with
            pageFailCnt := satInc n.pageFailCnt, mediaFault := true, lastFail := some p, jobs := n.jobs.eraseIdx i } }
          jobFail j p (record 0x0E02 0x02C0 (items [p, nvmRegion p]) s)

/-- RECORDER_FLUSH: the oldest staged record has waited 1 s (R518). -/
def opRecFlush (s : State) : State := match s.rcd.stagedTs with
  | none => s
  | some t => flushStaged 1 (reach (t + 1000000000) s)

/-- The summary check of one bucket (R520). -/
def bucketSum (code : Nat) (b : Bucket) (s : State) : State :=
  if b.suppressed = 0 then s
  else
    let b := bucketRefill (now s) b
    let put (b : Bucket) (s : State) : State := { s with rcd := { s.rcd with
      buckets := s.rcd.buckets.map fun x => if x.1 = code then (code, b) else x } }
    if b.burst * 1000000000 ≤ b.tokens ∨ b.summaryTs + 60000000000 ≤ now s then
      let s := stage 0x0E13 0 1 (now s) (items [code, b.suppressed] ++ item64 b.firstTs ++ item64 b.lastTs)
        (put { b with suppressed := 0, summaryTs := now s } s)
      { s with rcd := { s.rcd with summaryCnt := satInc s.rcd.summaryCnt } }
    else put b s

/-- EVR_SUPPRESSED: the check at the next whole multiple of 100 ms of TS64 (R520). -/
def opSuppressed (s : State) : State :=
  let s := reach ((now s + 99999999) / 100000000 * 100000000) s
  s.rcd.buckets.foldl (fun s x => bucketSum x.1 x.2 s) s

/-- PERIODIC_SNAPSHOT_DUE (R515, R516). -/
def opSnapshotDue (s : State) : State := match s.nvm.snapDue with
  | none => s
  | some t =>
    let s := reach t s
    let s := { s with nvm := { s.nvm with snapDue := none } }
    if scanning s && s.mode.power != .saving then snapAsk 3 [] s else record 0x0E06 0x02C0 (items [2]) s

/-- OPERATING_S_COMMIT: another 600 s with the logic supply present (R509). -/
def opOperating (s : State) : State :=
  let t := s.nvm.operAt + 600000000000
  let s := if s.time.mono < t then advance (t - s.time.mono) s else s
  counterPut 0 (counterGet s 0 + 600) 1 { s with nvm := { s.nvm with operAt := t } }

/-- PAGE_COMMIT (R502). -/
def execPageCommit (p : Nat) (ok : Bool) (s : State) : Out := .next (opPageCommit p ok s)
/-- RECORDER_FLUSH (R518). -/
def execRecorderFlush (s : State) : Out := .next (opRecFlush s)
/-- EVR_SUPPRESSED (R520). -/
def execEvrSuppressed (s : State) : Out := .next (opSuppressed s)
/-- PERIODIC_SNAPSHOT_DUE (R515). -/
def execPeriodicSnapshotDue (s : State) : Out := .next (opSnapshotDue s)
/-- OPERATING_S_COMMIT (R509). -/
def execOperatingSCommit (s : State) : Out := .next (opOperating s)

end Sys2Proof.Machine
end

