-- ==== Sys2Proof/Machine/Kap.lean ====
section
/-!
DEFINITION. KAP sessions and records (R371, R421 to R427, R476 to R478), the keeper at its mailboxes (R417 to R419, R424,
R431), the CAN command port (R428, R429), keeper restarts (R432) and the management view (R433).
-/
namespace Sys2Proof.Machine

/-! ### Sessions (R421, R426, R476 to R478) -/

/-- A session. -/
def sessionOf (s : State) (id : Nat) : Option Session := tabGet none s.kp.sessions id

/-- Changes a session. -/
def sessionMod (id : Nat) (f : Session → Session) (s : State) : State :=
  { s with kp := { s.kp with sessions := tabMod none s.kp.sessions id (Option.map f) } }

/-- A mailbox that a new session may take. -/
def mbxFree (s : State) (m : Nat) : Bool := (mbxOf s m).session.isNone && (mbxOf s m).retainUntil.isNone

/-- A session takes a mailbox; `clear` for one that held nothing of it. -/
def mbxBindTo (m id : Nat) (clear : Bool) (s : State) : State := match sessionOf s id with
  | none => s
  | some x =>
    let s := mbxMod m (fun b =>
      let b := if clear then {} else b
      { b with session := some id, retainUntil := none, identity := x.identity, role := x.role, port := x.port }) s
    let s := sessionMod id (fun x => { x with mailbox := some m }) s
    fkNext m (record 0x0C08 0 (items [m, x.port, roleNum x.role] ++ item128 x.identity) s)

/-- The session that has waited longest without a mailbox takes a released one (R426). -/
def mbxOffer (m : Nat) (s : State) : State :=
  let w := s.kp.sessions.foldl (fun (b : Option (Nat × Nat)) x =>
    match x.2 with
    | some y =>
      if y.mailbox.isNone then
        match b with
        | some (_, t) => if y.openedTs < t then some (x.1, y.openedTs) else b
        | none => some (x.1, y.openedTs)
      else b
    | none => b) none
  match w with
  | some (id, _) => mbxBindTo m id true s
  | none => s

/-- A mailbox is cleared and released; a transfer of its session is discarded (R426, R445). -/
def mbxRelease (m : Nat) (s : State) : State :=
  let s := mbxMod m (fun _ => {}) s
  let s := match s.kp.transfer with
    | some t => if t.owner = m then { s with kp := { s.kp with transfer := none } } else s
    | none => s
  mbxOffer m s

/-- The watch stream closes (R562): 1 masks at 0, 2 its session, 3 a keeper restart. -/
def watchClose (cause : Nat) (s : State) : State :=
  if s.watch.isOpen then
    let w := s.watch
    record 0x1102 0 (items [cause, w.openSent, w.openDropped])
      { s with
        watch := { w with isOpen := false, srcMask := 0, galMask := 0, taskMask := 0, buf := [], snapBuf := []
                          lossPending := 0, lossMask := 0 }
        clk := { s.clk with en := s.clk.en &&& ~~~0x20#15 } }
  else s

/-- A session closes (R426): cause 1 idle, 2 rekey limit, 3 peer, 4 keeper restart. -/
def sessionClose (id cause : Nat) (s : State) : State := match sessionOf s id with
  | none => s
  | some x =>
    let s := { s with kp := { s.kp with sessions := tabPut none s.kp.sessions id none } }
    let s := emit { kind := .kapClose, dest := id } (record 0x0C09 0 (items [x.mailbox.getD 255, cause]) s)
    match x.mailbox with
    | none => s
    | some m =>
      let s := mbxMod m (fun b => { b with session := none, retainUntil := some (now s + 60000000000) }) s
      if s.watch.isOpen ∧ s.watch.mailbox = m then watchClose (if cause = 4 then 3 else 2) s else s

/-- A handshake fails (R478); the 10th failure within 60 s bars the address for 300 s. -/
def authFail (peer port reason cert : Nat) (s : State) : State :=
  let s := record 0x0D04 0 (items [peer, port, reason] ++ item128 cert) s
  let b := barOf s peer
  let f := b.fails.filter (fun t => decide (now s < t + 60000000000)) ++ [now s]
  if 10 ≤ f.length then
    record 0x0D05 0 (items [peer, f.length])
      { s with sec := { s.sec with bars := tabPut {} s.sec.bars peer { fails := [], barred := some (now s + 300000000000) } } }
  else { s with sec := { s.sec with bars := tabPut {} s.sec.bars peer { b with fails := f } } }

/-- A handshake leaves the list. -/
def handshakeDrop (id : Nat) (s : State) : State :=
  { s with kp := { s.kp with handshakes := s.kp.handshakes.filter fun h => h.id != id } }

/-- A session is established (R421, R371, R469). -/
def sessionOpen (h : Handshake) (ident : Nat) (role : Role) (s : State) : State :=
  if 8 ≤ s.kp.sessions.length then
    let s := record 0x0A19 0 (items [h.peer]) { s with kp := { s.kp with mgmtBusy := satInc s.kp.mgmtBusy } }
    let s := emit { kind := .kap, dest := h.id, args := [0x80, 0, 0x0202, s.kp.epoch % 65536] } s
    emit { kind := .kapClose, dest := h.id } s
  else
    let x : Session := {
      identity := ident, role := role, port := h.port, peer := h.peer, mailbox := none, openedTs := now s, lastTs := now s
      keyTs := now s, claim := !s.sec.owned }
    let s := { s with kp := { s.kp with sessions := tabPut none s.kp.sessions h.id (some x) } }
    match (List.range 8).find? (mbxFree s) with
    | some m => mbxBindTo m h.id true s
    | none => s

/-- KAP_SESSION_OPEN: the handshake of a connection ends (R421, R475, R478). -/
def opSessionOpen (id : Nat) (e : HsEnd) (s : State) : State :=
  match s.kp.handshakes.find? fun h => h.id == id with
  | none => s
  | some h =>
    let s := handshakeDrop id s
    match e with
    | .fail r c => emit { kind := .kapClose, dest := id } (authFail h.peer h.port r c s)
    | .ok ident role =>
      if role = .vendorService ∧ s.sec.owned ∧ (h.port ≠ 2 ∨ s.sec.vsLock ∨ s.sec.ownerLock) then
        emit { kind := .kapClose, dest := id } (authFail h.peer h.port 5 ident s)
      else sessionOpen h ident role s

/-- HANDSHAKE_TIMEOUT: 5 s without completion (R476). -/
def opHandshakeTimeout (id : Nat) (s : State) : State :=
  match s.kp.handshakes.find? fun h => h.id == id with
  | none => s
  | some h =>
    let s := reach (h.ts + 5000000000) s
    emit { kind := .kapClose, dest := id } (authFail h.peer h.port 4 0 (handshakeDrop id s))

/-- KAP_KEY_UPDATE (R477). -/
def opKeyUpdate (id : Nat) (s : State) : State := match sessionOf s id with
  | none => s
  | some x =>
    let s := if x.keyRecs < 2 ^ 24 then reach (x.keyTs + 3600000000000) s else s
    sessionMod id (fun x => { x with keyTs := now s, keyRecs := 0 }) s

/-- KAP_SESSION_CLOSE (R426, R477, R492): by 1 idle, 2 rekey limit, 3 peer. -/
def opSessionClose (id cause : Nat) (s : State) : State := match sessionOf s id with
  | none => s
  | some x =>
    if cause = 3 then sessionClose id 3 s
    else if cause = 1 then sessionClose id 1 (reach (x.lastTs + 900000000000) s)
    else if cause = 2 then
      let s := if x.records < 2 ^ 32 then reach (x.openedTs + 28800000000000) s else s
      let s := if s.sec.trng = .running then s
        else record 0x0D10 0 (items [x.mailbox.getD 255] ++ item128 x.identity) s
      sessionClose id 2 s
    else s

/-- KAP_LOCKOUT_END (R478). -/
def opLockoutEnd (peer : Nat) (s : State) : State := match (barOf s peer).barred with
  | none => s
  | some t =>
    let s := reach t s
    { s with sec := { s.sec with bars := tabPut {} s.sec.bars peer {} } }

/-- MAILBOX_RETENTION_EXPIRY (R426). -/
def opRetention (m : Nat) (s : State) : State := match (mbxOf s m).retainUntil with
  | none => s
  | some t => mbxRelease m (reach t s)

/-! ### KAP records (R421 to R427) -/

/-- A request record of a session: it is counted, `f` gives status and body, and the response goes out. -/
def kapRecord (id no typ : Nat) (f : Session → State → (Nat × List Word) × State) (s : State) : State :=
  match sessionOf s id with
  | none => s
  | some x =>
    let s := sessionMod id (fun x => { x with lastTs := now s, keyRecs := x.keyRecs + 1, records := x.records + 1 }) s
    let ((rc, body), s) := f x s
    emit { kind := .kap, dest := id, args := [typ + 0x80, no, rc, s.kp.epoch % 65536], data := body.flatMap beWord } s

/-- A record that needs the session's own mailbox (R426). -/
def kapMailbox (id no typ : Nat) (f : Nat → State → (Nat × List Word) × State) (s : State) : State :=
  kapRecord id no typ (fun x s => match x.mailbox with
    | some m => f m s
    | none => ((0x0202, []), s)) s

/-- MBX_WRITE (R416, R421). -/
def opMbxWrite (id no : Nat) (ws : List Word) (s : State) : State :=
  kapMailbox id no 1 (fun m s =>
    if ws.length = 0 ∨ 16 < ws.length then ((0x0303, []), s) else ((0, []), tkWrite m ws s)) s

/-- MBX_READ (R422). -/
def opMbxRead (id no : Nat) (s : State) : State :=
  kapMailbox id no 2 (fun m s =>
    let x := mbxOf s m
    if x.fk.full ∧ x.fkEpoch = s.kp.epoch then ((0, (List.range 16).map fun i => x.fk.words.getD i 0), s)
    else ((0x0201, List.replicate 16 0), s)) s

/-- MBX_ACK (R423). -/
def opMbxAck (id no : Nat) (w : Word) (s : State) : State :=
  kapMailbox id no 3 (fun m s =>
    let x := mbxOf s m
    let tag := hdrTag w
    if x.fk.full ∧ tag = dirTag x.fk then
      ((0, []), fkNext m (mbxMod m (fun x => { x with fk := dirAck tag 0 x.fk, lastConsumed := some tag }) s))
    else if !x.fk.full ∧ x.lastConsumed = some tag then
      ((0x0103, []), { s with kp := { s.kp with ackIgnored := satInc s.kp.ackIgnored } })
    else ((0x0303, []), s)) s

/-- ACK_READ (R421). -/
def opAckRead (id no : Nat) (s : State) : State :=
  kapMailbox id no 4 (fun m s =>
    let d := (mbxOf s m).tk
    ((0, [ackWord d.ack, flagsByte d false false]), s)) s

/-- The mailbox whose message words an MBX_ register holds, for a host-session mailbox (R427, R434). -/
def wordOwner (a : Nat) : Option Nat :=
  if 0x11000 ≤ a ∧ a < 0x11800 then
    let o := a % 0x100
    if o < 0x40 ∨ (0x80 ≤ o ∧ o < 0xC0) then some ((a - 0x11000) / 0x100) else none
  else none

/-- A read of `n` consecutive registers by a sender: `own` its mailbox (R17 to R19, R427). -/
def regReadFor (own : Option Nat) (role : Role) (a n : Nat) (s : State) : Except Nat (List Word) × State :=
  let as := (List.range n).map fun i => a + 4 * i
  if n = 0 ∨ a / 0x10000 ≠ (a + 4 * (n - 1)) / 0x10000 ∨ !regAddrOk a then (.error 0x0303, s)
  else if as.any fun x => (wordOwner x).isSome && wordOwner x != own && role != .securityOfficer then (.error 0x0301, s)
  else regRead as s

/-- REG_READ (R427); a claim session may not (R469). -/
def opRegRead (id no a n : Nat) (s : State) : State :=
  kapRecord id no 5 (fun x s =>
    if x.claim then ((0x0301, []), s)
    else if 256 < n then ((0x0303, []), s)
    else match regReadFor x.mailbox x.role a n s with
      | (.ok ws, s) => ((0, ws), s)
      | (.error e, s) => ((e, []), s)) s

/-- Role `a` is the same as, or higher than, `b` (R474). -/
def roleGe (a b : Role) : Bool :=
  a == b || b == .viewer || (a == .engineer && b == .operator)

/-- RESUME (R426): a mailbox the session held so far is released. -/
def opResume (id no m : Nat) (s : State) : State :=
  kapRecord id no 6 (fun x s =>
    let b := mbxOf s m
    if 8 ≤ m then ((0x0303, []), s)
    else if b.session.isNone && b.retainUntil.isSome && b.identity == x.identity && roleGe x.role b.role then
      let s := mbxBindTo m id false s
      ((0, []), match x.mailbox with
        | some o => mbxRelease o s
        | none => s)
    else ((0x0304, []), s)) s

/-- UNDEFINED_KAP_RECORD (R16, R421). -/
def opUndefinedKap (id no typ : Nat) (s : State) : State :=
  if 1 ≤ typ ∧ typ ≤ 6 then s
  else kapMailbox id no typ (fun _ s => ((0x0303, []), s)) s

/-! ### The keeper takes messages (R417, R419, R424, R431) -/

/-- The request a TK message of a host mailbox holds. -/
def reqOf (s : State) (m : Nat) : Req :=
  let x := mbxOf s m
  let w := x.tk.words.getD 0 0
  { origin := .host m, opcode := hdrOp w, tag := hdrTag w, len := hdrLen w, args := (x.tk.words.take (hdrLen w)).drop 1
    role := x.role, ident := x.identity
    claim := match x.session.bind (sessionOf s) with
      | some y => y.claim
      | none => !s.sec.owned }

/-- The keeper acknowledges the TK message of mailbox m. -/
def tkAck (m rc : Nat) (s : State) : State := mbxMod m (fun x => { x with tk := dirAck (dirTag x.tk) rc x.tk }) s

/-- A request joins the queue, or is answered BUSY at 64 (R371, R424); the acknowledge's code. -/
def enqueue (q : Req) (s : State) : Nat × State :=
  if 64 ≤ s.kp.queue.length then
    (0x0202, record 0x0A19 0 (items [match q.origin with
      | .host m => m
      | _ => 255]) { s with kp := { s.kp with mgmtBusy := satInc s.kp.mgmtBusy } })
  else (0, { s with kp := { s.kp with queue := s.kp.queue ++ [q] } })

/-- A program note (R419). -/
def noteTake (m : Nat) (s : State) : State :=
  let ws := (mbxOf s m).tk.words
  if 0xF000 ≤ hdrOp (ws.getD 0 0) then
    record 0x0C07 (0x10 + (m - 8)) (items (ws.map BitVec.toNat))
      (tkAck m 0 { s with kp := { s.kp with noteCnt := satInc s.kp.noteCnt } })
  else tkAck m 0x0303 s

/-- KEEPER_TAKE_MESSAGE (R417, R419, R424, R431). -/
def opTake (m : Nat) (s : State) : State :=
  let d := (mbxOf s m).tk
  let len := hdrLen (d.words.getD 0 0)
  if !s.kp.ready ∨ !d.full then s
  else if len = 0 ∨ 16 < len then tkAck m 0x0303 s
  else if 24 ≤ m then tkAck m 0 s
  else if 8 ≤ m then noteTake m s
  else
    let q := reqOf s m
    match headCheck q with
    | some rc => tkAck m rc (if rc = 0x0301 then denyRole q s else s)
    | none =>
      let (rc, s) := enqueue q s
      tkAck m rc s

/-- MAILBOX_POLL: the lamp room (mailbox 24) or the supervisor (25) takes a held FK message; a message of the twin
mailbox leaves in a MAILBOX frame (R415). -/
def opMailboxPoll (m : Nat) (s : State) : State :=
  let d := (mbxOf s m).fk
  if !pollOnly m ∨ !d.full then s
  else
    let s := mbxMod m (fun x => { x with fk := dirAck (dirTag d) 0 x.fk }) s
    if m = 25 then
      let s := twinQueue { cls := 3, typ := 6, tag := 0, words := d.words.map BitVec.toNat } s
      match s.kp.twinOut with
      | w :: ws => fkWrite 25 w { s with kp := { s.kp with twinOut := ws } }
      | [] => s
    else s

/-! ### The CAN command port (R428, R429) -/

/-- CAN_CMD_REQUEST: header, argument words, counter, and whether the tag verifies. -/
def opCanCmd (p : Nat) (h : Word) (args : List Word) (counter : Nat) (tagOk : Bool) (s : State) : State :=
  if !(portOf s p).configured ∨ !(portOf s p).cfg.cmdEn ∨ ethHeld s ∨ !s.kp.ready then s
  else if !tagOk ∨ counter ≤ s.sec.canLast ∨ !s.sec.canKey ∨ s.sec.canRole = 0 then
    record 0x0C0A 0 (items [p] ++ item64 counter) { s with kp := { s.kp with canReject := satInc s.kp.canReject } }
  else
    let q : Req := { origin := .can p, opcode := hdrOp h, tag := hdrTag h, len := hdrLen h, args := args.take (hdrLen h - 1)
                     role := if s.sec.canRole = 2 then .operator else .viewer }
    let s := { s with sec := { s.sec with canLast := counter } }
    let busy := s.kp.canBusy
    let refuse (rc : Nat) (s : State) : State :=
      let s := canReply p q { rc := rc } s
      { s with kp := { s.kp with canBusy := busy } }
    if busy.isSome then refuse 0x0202 s
    else if !canOps.contains q.opcode then refuse 0x0303 s
    else match headCheck q with
      | some rc => refuse rc s
      | none =>
        let (rc, s) := enqueue q s
        if rc = 0 then { s with kp := { s.kp with canBusy := some p } } else refuse rc s

/-! ### Keeper restarts (R432) -/

/-- The keeper announces its restart: sessions close, a proof run ends, and the restart window of the watchdog begins
(R254, R432, R535). -/
def keeperDown (cause : RestartCause) (s : State) : State :=
  let s := s.kp.sessions.foldl (fun s x => sessionClose x.1 4 s) s
  let s := proofAbort 10 s
  { s with
    kp := { s.kp with ready := false, restart := some (cause, now s), handshakes := [], token := none }
    wdg := { s.wdg with window := .restart, deadline := now s + 500000000, second := false } }

/-- Place of a restart cause in R432. -/
def restartCode : RestartCause → Nat
  | .activate => 1 | .command => 2 | .fault => 3

/-- Requests outstanding at a restart, in the order of the original requests, with the answers fixed (R432). -/
def outstanding (s : State) : List (Req × Option Ans) :=
  (s.kp.long.map fun l => (l.req, if l.done then some { rc := l.rc, data := l.data } else none)) ++
    (s.kp.twinWait.map fun w => (w.1, none)) ++ (s.sec.trngWait.map fun q => (q, none)) ++ s.kp.queue.map fun q => (q, none)

/-- The keeper resumes under a new epoch: held replies are rewritten, outstanding requests answered (R432). -/
def keeperResume (s : State) : State :=
  match s.kp.restart with
  | none => s
  | some (cause, _) =>
    let e := (s.kp.epoch + 1) % 2 ^ 32
    let old := s.kp.epoch
    let out := outstanding s
    let held := ((List.range 8).filter fun m => (mbxOf s m).fk.full).length
    let lost := (out.filter fun x => x.2.isNone).length
    let s := { s with kp := { s.kp with
      ready := true, restart := none, epoch := e, queue := [], long := [], twinWait := [], restartCnt := satInc s.kp.restartCnt
      busyRestartCnt := satAdd s.kp.busyRestartCnt lost } }
    let s := { s with sec := { s.sec with trngWait := [] } }
    let s := record 0x0C03 0 (items [old, e, restartCode cause]) (counterInc 4 s)
    let s := (List.range 8).foldl (fun s m =>
      mbxMod m (fun x => { x with fkEpoch := if x.fk.full then e else x.fkEpoch }) s) s
    let s := out.foldl (fun s x => finish x.1 (x.2.getD { rc := 0x0203 }) s) s
    record 0x0C04 0 (items [held + (out.length - lost), lost]) s

/-- KEEPER_FIRMWARE_FAULT (R432). -/
def opKeeperFault (s : State) : State := if s.kp.ready then keeperDown .fault s else s

/-! ### The management view (R433) -/

/-- State code of a socket, as BUY_b_STATE shows it. -/
def sockStCode : SockSt → Nat
  | .empty => 0 | .authenticating => 1 | .configuring => 2 | .inService => 3 | .authFailed => 4 | .cfgFailed => 5

/-- FAB_n_STATUS.POWER with FAB_n_SECTOR.SSTATE, as one code. -/
def galCode (x : Gallery) : Nat :=
  (match x.power with
    | .off => 0 | .waking => 1 | .on => 2 | .draining => 3) +
  16 * (match x.sstate with
    | .unassigned => 0 | .stop => 1 | .run => 2 | .shadow => 3 | .safe => 4)

/-- The data-path state of a unit, as one code (assumption log, entry 24). -/
def unitState (s : State) : UnitName → Nat
  | .gallery g => galCode (galOf s g)
  | .range g r => rangeCode (rangeOf s g r).st
  | .buoy b => sockStCode (sockOf s b).st
  | .partner => b2n s.twin.locked + 2 * roleCode s.twin.partnerRole

/-- The number of a unit in a record: its source number. -/
def unitNum : UnitName → Nat
  | .gallery g => 0x10 + g
  | .range g r => rangeSrc g r
  | .buoy b => 0x2E0 + b
  | .partner => 0x2A0

/-- Every unit of the view. -/
def unitNames : List UnitName :=
  (List.range 16).map .gallery ++ (List.range 256).map (fun i => .range (i / 16) (i % 16)) ++ (List.range 3).map .buoy ++ [.partner]

/-- The view of a unit; a unit never seen is expected as it is after reset. -/
def viewOf (s : State) (u : UnitName) : ViewState :=
  (s.kp.views.find? fun v => v.name == u).getD { name := u, view := unitState {} u, prev := unitState {} u }

/-- Writes the view of a unit. -/
def viewPutV (v : ViewState) (s : State) : State :=
  { s with kp := { s.kp with views := s.kp.views.filter (fun x => x.name != v.name) ++ [v] } }

/-- The keeper expects what its own commands have brought about. -/
def viewFollow (old : State) (s : State) : State :=
  unitNames.foldl (fun s u =>
    let d := unitState s u
    if d = unitState old u then s else viewPutV { viewOf s u with view := d, prev := d } s) s

/-- The actions that follow from a unit's state are complete: a lost range's work has found a place. -/
def unitSettled (s : State) : UnitName → Bool
  | .range g _ => (galOf s g).sstate == .unassigned || sectorFits s (galOf s g).sector
  | _ => true

/-- view_check of one unit (R433). -/
def viewCheck (u : UnitName) (s : State) : State :=
  let v := viewOf s u
  let d := unitState s u
  if d ≠ v.view then
    let v' := { v with
      conflict := true, since := if v.conflict then v.since else now s, view := d, prev := v.view
      recorded := v.conflict && v.recorded }
    let s := viewPutV v' s
    let s := match u with
      | .range g r => if v.conflict then s else { s with kp := { s.kp with lastRange := some (g, r) } }
      | _ => s
    let hit := s.kp.queue.filter fun q => aimedAt q u
    hit.foldl (fun s q => finish q { rc := 0x0304 } s)
      { s with kp := { s.kp with queue := s.kp.queue.filter fun q => !aimedAt q u } }
  else if v.conflict && v.prev == d && unitSettled s u then
    let s := viewPutV { v with conflict := false, recorded := false } s
    if v.recorded then record 0x0C06 0 (items [unitNum u, (now s - v.since) / 1000000]) s else s
  else if v.conflict then viewPutV { v with prev := d } s
  else s

/-- A conflict that has lasted more than 10 ms is recorded, once (R433). -/
def viewRecord (u : UnitName) (s : State) : State :=
  let v := viewOf s u
  if v.conflict && !v.recorded && decide (v.since + 10000000 < now s) then
    record 0x0C05 0 (items [unitNum u, v.prev, unitState s u])
      (viewPutV { v with recorded := true } { s with kp := { s.kp with viewConflictCnt := satInc s.kp.viewConflictCnt } })
  else s

/-- VIEW_CHECK: the sample at the next whole ms (R433). -/
def opViewCheck (s : State) : State :=
  if s.kp.ready then
    unitNames.foldl (fun s u => viewRecord u (viewCheck u s)) (reach ((now s / 1000000 + 1) * 1000000) s)
  else s

/-! ### The meanings -/

/-- KAP_SESSION_OPEN (R421). -/
def execKapSessionOpen (id : Nat) (e : HsEnd) (s : State) : Out := .next (opSessionOpen id e s)
/-- HANDSHAKE_TIMEOUT (R476). -/
def execHandshakeTimeout (id : Nat) (s : State) : Out := .next (opHandshakeTimeout id s)
/-- KAP_KEY_UPDATE (R477). -/
def execKapKeyUpdate (id : Nat) (s : State) : Out := .next (opKeyUpdate id s)
/-- KAP_SESSION_CLOSE (R426). -/
def execKapSessionClose (id cause : Nat) (s : State) : Out := .next (opSessionClose id cause s)
/-- KAP_LOCKOUT_END (R478). -/
def execKapLockoutEnd (peer : Nat) (s : State) : Out := .next (opLockoutEnd peer s)
/-- MAILBOX_RETENTION_EXPIRY (R426). -/
def execMailboxRetentionExpiry (m : Nat) (s : State) : Out := .next (opRetention m s)
/-- MBX_WRITE (R416). -/
def execMbxWrite (id no : Nat) (ws : List Word) (s : State) : Out := .next (opMbxWrite id no ws s)
/-- MBX_READ (R422). -/
def execMbxRead (id no : Nat) (s : State) : Out := .next (opMbxRead id no s)
/-- MBX_ACK (R423). -/
def execMbxAck (id no : Nat) (w : Word) (s : State) : Out := .next (opMbxAck id no w s)
/-- ACK_READ (R421). -/
def execAckRead (id no : Nat) (s : State) : Out := .next (opAckRead id no s)
/-- REG_READ (R427). -/
def execRegRead (id no a n : Nat) (s : State) : Out := .next (opRegRead id no a n s)
/-- RESUME (R426). -/
def execResume (id no m : Nat) (s : State) : Out := .next (opResume id no m s)
/-- UNDEFINED_KAP_RECORD (R421). -/
def execUndefinedKapRecord (id no typ : Nat) (s : State) : Out := .next (opUndefinedKap id no typ s)
/-- KEEPER_TAKE_MESSAGE (R424). -/
def execKeeperTakeMessage (m : Nat) (s : State) : Out := .next (opTake m s)
/-- MAILBOX_POLL (R415). -/
def execMailboxPoll (m : Nat) (s : State) : Out := .next (opMailboxPoll m s)
/-- CAN_CMD_REQUEST (R429). -/
def execCanCmdRequest (p : Nat) (h : Word) (args : List Word) (counter : Nat) (tagOk : Bool) (s : State) : Out :=
  .next (opCanCmd p h args counter tagOk s)
/-- VIEW_CHECK (R433). -/
def execViewCheck (s : State) : Out := .next (opViewCheck s)
/-- KEEPER_FIRMWARE_FAULT (R432). -/
def execKeeperFirmwareFault (s : State) : Out := .next (opKeeperFault s)

end Sys2Proof.Machine
end

