-- ==== Sys2Proof/Machine/CmdTime.lean ====
section
/-!
DEFINITION. Commands of group 0x06, time and RTC (R399 to R409, R457), and the scheduled actions they set (R400 to R402).
-/
namespace Sys2Proof.Machine

/-- The session is OPERATOR or ENGINEER. -/
def isOperator (q : Req) : Bool := roleAdmits .operator q.role

/-! ### Scheduled actions (R400 to R402) -/

/-- A scheduled action. -/
def schOf (s : State) (k : Nat) : Sched := tabGet {} s.time.sch k

/-- Changes one. -/
def schMod (k : Nat) (f : Sched → Sched) (s : State) : State :=
  { s with time := { s.time with sch := tabMod {} s.time.sch k f } }

/-- The stored command of an action enters the keeper's queue, or meets its refusal (R401, R457). -/
def schCommand (k : Nat) (s : State) : State := match (schOf s k).cmd with
  | none => s
  | some q =>
    match headCheck q with
    | some rc => slotOutcome k rc (if rc = 0x0301 then denyRole q s else s)
    | none =>
      let (rc, s) := enqueue q s
      if rc = 0 then s else slotOutcome k rc s

/-- The action of slot k is judged now: it executes, late or not, or is refused with PAST (R400, R402). -/
def schExec (k : Nat) (s : State) : State :=
  let x := schOf s k
  let late := now s - x.ts
  if s.time.lateWin * 1000 < late then
    let s := schMod k (fun x => { x with st := 3, outcome := 0x0305, lateNs := late }) s
    record 0x0B0A 0 (items [k, x.kind, late]) { s with time := { s.time with schPast := satInc s.time.schPast } }
  else
    let s := schMod k (fun x => { x with st := 2, outcome := if late = 0 then 0 else 0x0101, lateNs := late }) s
    let s := if late = 0 then { s with time := { s.time with schOk := satInc s.time.schOk } }
      else record 0x0B09 0 (items [k, x.kind, late]) { s with time := { s.time with schLate := satInc s.time.schLate } }
    if x.kind = 1 then triggerAt x.task x.ts s else schCommand k s

/-- The waiting action whose set time comes first, the lowest slot among equals (R400); commands wait for the keeper. -/
def schNext (s : State) : Option Nat :=
  (List.range 64).foldl (fun (b : Option Nat) k =>
    let x := schOf s k
    if x.st = 1 ∧ (x.kind = 1 ∨ s.kp.ready) then
      match b with
      | none => some k
      | some j => if x.ts < (schOf s j).ts then some k else b
    else b) none

/-- SCHEDULED_ACTION: the next action reaches its set time (R400). -/
def opScheduledAction (s : State) : State := match schNext s with
  | none => s
  | some k => schExec k (reach (schOf s k).ts s)

/-- The slot a new action takes: the lowest free one, else the lowest whose action is over. -/
def schFree (s : State) : Option Nat :=
  ((List.range 64).find? fun k => (schOf s k).st == 0).or ((List.range 64).find? fun k => 2 ≤ (schOf s k).st)

/-- Commands that cannot be stored (R457). -/
def notStored (op : Nat) : Bool :=
  op == 0x0604 || op == 0x0120 || op == 0x0121 || op == 0x0122 || op == 0x0114 || op / 256 == 0x0A

/-- The stored command of a SCHEDULE, with the role of its session (R401). -/
def storedReq (q : Req) (k : Nat) : Req :=
  let h := argW q 3
  { q with origin := .slot k, opcode := hdrOp h, tag := hdrTag h, len := hdrLen h, args := q.args.drop 4 }

/-- The set time of a SCHEDULE. -/
def schTime (q : Req) : Nat := arg q 1 + arg q 2 * 2 ^ 32

/-- Checks of SCHEDULE (R402, R457). -/
def chkSchedule (q : Req) (s : State) : Option Ans :=
  let t := schTime q
  if arg q 0 % 4 = 1 then
    if twinOn s ∧ t < now s + 2000000 ∧ q.origin ≠ .partner then some (rcAns 0x0303)
    else if !isOperator q then some (rcAns 0x0301)
    else if (schFree s).isNone then some (rcAns 0x0202)
    else none
  else
    let c := storedReq q 0
    if notStored c.opcode ∨ c.len ≠ q.len - 4 ∨ !headerOk c then some (rcAns 0x0303)
    else if !roleOk c then some (rcAns 0x0301)
    else if (schFree s).isNone then some (rcAns 0x0202)
    else none

/-- SCHEDULE enters the action and executes it at once where its time has passed (R400, R401). -/
def effSchedule (q : Req) (s : State) : Option Ans × State := match schFree s with
  | none => (some (rcAns 0x0202), s)
  | some k =>
    let kind := arg q 0 % 4
    let x : Sched := {
      ts := schTime q, kind := kind, task := arg q 0 / 256, st := 1, ident := q.ident
      cmd := if kind = 2 then some (storedReq q k) else none }
    let s := schMod k (fun _ => x) s
    if now s ≤ x.ts then (some { rc := 0, data := [w32 k, 0] }, s)
    else
      let late := now s - x.ts
      let s := schExec k s
      if s.time.lateWin * 1000 < late then (some (rcAns 0x0305), s) else (some { rc := 0x0101, data := [w32 k, w32 late] }, s)

/-- Checks of SCHEDULE_CANCEL (R457). -/
def chkCancel (q : Req) (s : State) : Option Ans :=
  let x := schOf s (arg q 0)
  if x.st = 0 then some (rcAns 0x0103)
  else if x.ident ≠ q.ident ∧ q.role ≠ .engineer then some (rcAns 0x0303)
  else if x.st ≠ 1 then some (rcAns 0x0308)
  else none

/-- SCHEDULE_CANCEL frees the slot (R401). -/
def effCancel (q : Req) (s : State) : Option Ans × State :=
  (some (rcAns 0), { s with time := { s.time with sch := tabPut {} s.time.sch (arg q 0) {} } })

/-! ### TS64 -/

/-- TIME_READ (R390). -/
def opTimeRead (s : State) : State :=
  readCmd 0x0601 (fun _ s => { rc := 0, data := words64 (now s) ++ [regTim s 0, regTim s 0x10, regTim s 0x14] }) s

/-- TIME_SETTINGS: for the next reset (R392, R457). -/
def opTimeSettings (s : State) : State :=
  simple 0x0602 (fun _ _ => none) (fun q s =>
    let w := argW q 0 ||| (argW q 1 <<< 16)
    (rcAns 0, nvmJournal 2 { s with time := { s.time with
      ptpNext := w, slewNext := arg q 2, winNext := arg q 3 } })) s

/-- TIME_STEP (R399). -/
def opTimeStep (s : State) : State :=
  simple 0x0603 (fun _ s => if stepAllowed s then none else some 0x0302) (fun q s =>
    let old := now s
    let t : Nat := arg q 0 + arg q 1 * 2 ^ 32
    let d : Int := (t : Int) - (old : Int)
    let s := tsStep t 3 s
    let cs := (List.range 3).foldl (fun (l : Tab Cand) i =>
      tabMod {} l i fun c => if c.present then { c with offset := c.offset - d } else c) s.time.cands
    let s := { s with time := { s.time with cands := cs } }
    ({ rc := 0, data := words64 old }, { s with time := { s.time with offset := targetOffset s s.time.target } })) s

/-! ### The RTC -/

/-- RTC_READ; `ok` when a coherent reading was obtained (R406). -/
def opRtcRead (ok : Bool) (s : State) : State :=
  readCmd 0x0606 (fun _ s =>
    if ok then { rc := 0, data := [regRtc s 0xC, regRtc s 8, regRtc s 4, regRtc s 0x10, regRtc s 0] } else rcAns 0x0202) s

/-- The calendar of date and time words. -/
def calWords (d t : Nat) : Cal :=
  { day := d % 32, mon := d / 256 % 16, year := d / 65536 % 256, sec := t % 64, min := t / 256 % 64, hour := t / 65536 % 32 }

/-- Every field in its range (R403). -/
def calOk (c : Cal) : Bool :=
  decide (c.sec < 60) && decide (c.min < 60) && decide (c.hour < 24) && inR 1 c.mon 12 && decide (c.year < 200) &&
    inR 1 c.day (monthLen c.year c.mon)

/-- RTC_SET (R405). -/
def opRtcSet (s : State) : State :=
  simple 0x0607 (fun q s =>
    if !calOk (calWords (arg q 0) (arg q 1)) then some 0x0303 else if timeQualified s then some 0x0304 else none)
    (fun q s =>
      let o := s.rtc.cal
      let c := calWords (arg q 0) (arg q 1)
      let s := { s with rtc := { s.rtc with cal := c, sub := 0, acc := 0, secLen := 32768, valid := true } }
      (rcAns 0, record 0x0B10 0x02B0 (items (calItems o ++ calItems c) ++ item128 q.ident) s)) s

/-- WEEKDAY_SET (R404). -/
def opWeekdaySet (s : State) : State :=
  simple 0x0608 (fun _ _ => none) (fun q s =>
    let o := s.rtc.wday
    (rcAns 0, record 0x0B10 0x02B0 (items [o, arg q 0] ++ item128 q.ident)
      { s with rtc := { s.rtc with wday := arg q 0 } })) s

/-- A signed 16-bit number. -/
def signed16 (n : Nat) : Int := if n < 32768 then n else (n : Int) - 65536

/-- RTC_SHIFT (R408). -/
def opRtcShiftCmd (s : State) : State :=
  simple 0x0609 (fun q s =>
    if 16384 < (signed16 (arg q 0)).natAbs then some 0x0303 else if s.rtc.shift.isSome then some 0x0202 else none)
    (fun q s => (rcAns 0, { s with rtc := { s.rtc with shift := some (signed16 (arg q 0)), quiet := false } })) s

/-- The alarm an ALARM_SET asks for. -/
def alarmOf (q : Req) : Alarm :=
  let c := calWords 0 (arg q 1)
  let d := arg q 2
  { en := (argW q 3).getLsbD 31, sec := c.sec, min := c.min, hour := c.hour, day := d % 32, mon := d / 256 % 16
    wday := d / 65536 % 8, mask := arg q 3 % 64 }

/-- Some date matches the alarm (R407). -/
def alarmPossible (a : Alarm) : Bool :=
  let m (i : Nat) : Bool := a.mask.testBit i
  decide (a.sec < 60) && decide (a.min < 60) && decide (a.hour < 24) && (m 4 || inR 1 a.mon 12) &&
    (m 3 || inR 1 a.day (if m 4 then 31 else monthLen 0 a.mon)) && (m 5 || decide (a.wday < 7))

/-- ALARM_SET (R407). -/
def opAlarmSet (s : State) : State :=
  simple 0x060A (fun q _ => if alarmPossible (alarmOf q) then none else some 0x0303)
    (fun q s => (rcAns 0, almMod (arg q 0) (fun _ => { alarmOf q with notIn := some s.rtc.cal }) s)) s

/-- ALARM_CLEAR (R407). -/
def opAlarmClear (s : State) : State :=
  simple 0x060B (fun _ _ => none)
    (fun q s => (rcAns 0, almMod (arg q 0) (fun a => { a with fired := false, onBackup := false }) s)) s

/-- BACKUP_RECORD_CLEAR (R409). -/
def opBackupClear (s : State) : State :=
  simple 0x060C (fun _ _ => none) (fun q s =>
    let n := s.rtc.bkpCnt
    ({ rc := 0, data := [w32 n] }, record 0x0B17 0x02B0 (items [n] ++ item128 q.ident)
      { s with rtc := { s.rtc with bkpCnt := 0, firstValid := false } })) s

/-! ### The meanings -/

/-- SCHEDULED_ACTION (R400). -/
def execScheduledAction (s : State) : Out := .next (opScheduledAction s)
/-- TIME_READ (R390). -/
def execTimeRead (s : State) : Out := .next (opTimeRead s)
/-- TIME_SETTINGS (R457). -/
def execTimeSettings (s : State) : Out := .next (opTimeSettings s)
/-- TIME_STEP (R399). -/
def execTimeStep (s : State) : Out := .next (opTimeStep s)
/-- SCHEDULE (R401). -/
def execSchedule (s : State) : Out := .next (twinWide 0x0604 chkSchedule effSchedule s)
/-- SCHEDULE_CANCEL (R401). -/
def execScheduleCancel (s : State) : Out := .next (twinWide 0x0605 chkCancel effCancel s)
/-- RTC_READ (R406). -/
def execRtcRead (ok : Bool) (s : State) : Out := .next (opRtcRead ok s)
/-- RTC_SET (R405). -/
def execRtcSet (s : State) : Out := .next (opRtcSet s)
/-- WEEKDAY_SET (R404). -/
def execWeekdaySet (s : State) : Out := .next (opWeekdaySet s)
/-- RTC_SHIFT (R408). -/
def execRtcShift (s : State) : Out := .next (opRtcShiftCmd s)
/-- ALARM_SET (R407). -/
def execAlarmSet (s : State) : Out := .next (opAlarmSet s)
/-- ALARM_CLEAR (R407). -/
def execAlarmClear (s : State) : Out := .next (opAlarmClear s)
/-- BACKUP_RECORD_CLEAR (R409). -/
def execBackupRecordClear (s : State) : Out := .next (opBackupClear s)

end Sys2Proof.Machine
end

