-- ==== Sys2Proof/Machine/CmdMod.lean ====
section
/-!
DEFINITION. Commands of group 0x01, module: reads, SAFE, SERVICE, keeper restart, transfers and batches (R445 to R448).
-/
namespace Sys2Proof.Machine

/-! ### Reads -/

/-- Counts of forced points in the layout of MW_FORCE_CNT (R280). -/
def forceCount (s : State) : Word := fldF s.fab.forces.length 16 ||| fldF (s.fab.forces.filter ForcePoint.vital).length 0

/-- Seconds to the next automatic release, as MW_FORCE_LEFT shows them (R280). -/
def forceLeft (s : State) : Word := match s.fab.forces.filter ForcePoint.vital with
  | [] => 0xFFFFFFFF
  | f :: fs => w32 ((fs.foldl (fun m x => min m x.ts) f.ts + forceHold - now s) / 1000000000)

/-- MODULE_STATUS (R21). -/
def opModuleStatus (s : State) : State :=
  readCmd 0x0101 (fun _ s => { rc := 0, data := [modeWord s, modStatus s, modUnits s, w32 s.kp.epoch] ++ words64 (now s) }) s

/-- MODE_READ (R23). -/
def opModeRead (s : State) : State :=
  readCmd 0x0102 (fun _ s => { rc := 0, data := [modeWord s, forceCount s, forceLeft s] }) s

/-- IDENTITY_READ (R22). -/
def opIdentityRead (s : State) : State :=
  readCmd 0x0103 (fun _ s =>
    { rc := 0, data := [modType s] ++ words64 s.id.serial.toNat ++
        [regMod s 0x0C, regMod s 0x10, regMod s 0x14, modFwSlot s] }) s

/-- The mailbox of a request. -/
def mbxOrigin (q : Req) : Option Nat := match q.origin with
  | .host m => some m
  | _ => none

/-- REGISTER_READ (R17 to R20, R427). -/
def opRegisterRead (s : State) : State :=
  command 0x0104 (fun q s => match regReadFor (mbxOrigin q) q.role (arg q 0) (arg q 1) s with
    | (.ok ws, s) => (some { rc := 0, data := ws }, s)
    | (.error e, s) => (some (rcAns e), s)) s

/-! ### Modes -/

/-- SAFE (R266). -/
def opSafeCmd (s : State) : State :=
  simple 0x0110 (fun _ s => if s.mode.exec = .safe then some 0x0103 else none)
    (fun _ s => (rcAns 0, enterSafe 0 0 false s)) s

/-- SAFE_RESET: the module resets 500 ms after the reply (R267, R448). -/
def opSafeResetCmd (s : State) : State :=
  simple 0x0111 (fun _ s => if s.mode.exec ≠ .safe then some 0x0302 else if s.mode.causeOpen then some 0x0304 else none)
    (fun q s =>
      let t := s.mode.safeResetAt.getD (now s + 500000000)
      (rcAns 0, record 0x0115 0 (item128 q.ident) { s with mode := { s.mode with safeResetAt := some t } })) s

/-- SERVICE_ENTER (R279). -/
def opServiceEnter (s : State) : State :=
  simple 0x0112 (fun _ s =>
    if s.mode.maint then some 0x0103
    else if scanning s ∨ s.mode.power ≠ .normal then some 0x0302
    else if transitionPending s then some 0x0204
    else none)
    (fun q s => (rcAns 0, record 0x0117 0 (item128 q.ident)
      (modeChange 14 (fun s => { s with mode := { s.mode with maint := true } }) s))) s

/-- MAINT becomes OFF; cause 1 command, 2 reset (R279). -/
def serviceEnd (cause : Nat) (s : State) : State :=
  if s.mode.maint then
    record 0x0118 0 (items [cause]) (modeChange 14 (fun s => { s with mode := { s.mode with maint := false } }) s)
  else s

/-- SERVICE_LEAVE (R279). -/
def opServiceLeave (s : State) : State :=
  simple 0x0113 (fun _ s => if s.mode.maint then none else some 0x0103) (fun _ s => (rcAns 0, serviceEnd 1 s)) s

/-- KEEPER_RESTART: its reply comes under the new epoch (R432, R444). -/
def opKeeperRestart (s : State) : State :=
  command 0x0114 (fun q s => (none, keeperDown .command (longWith q (rcAns 0) s))) s

/-! ### Transfers (R445, R446) -/

/-- The kinds' lengths (R445). -/
def kindLen (k n : Nat) : Bool :=
  n % 4 == 0 && match k with
    | 1 => inR 4 n 20971520
    | 2 | 3 => inR 4 n 8388608
    | 4 => n == 2048
    | 5 | 6 => inR 4 n 16384
    | _ => false

/-- The kinds' roles (R445); a claim session transfers an owner certificate (R469). -/
def kindRole (k : Nat) (q : Req) : Bool :=
  if q.claim then k == 6
  else roleAdmits (if k ≤ 2 then .engineer else if k = 3 then .vendor else .officer) q.role

/-- The open transfer, when it is the session's own. -/
def ownTransfer (q : Req) (s : State) : Option Transfer := match s.kp.transfer, q.origin with
  | some t, .host m => if t.owner = m ∧ t.ident = q.ident then some t else none
  | _, _ => none

/-- TRANSFER_OPEN. -/
def opTransferOpen (s : State) : State :=
  simple 0x0120 (fun q s =>
    let k := arg q 0
    if !inR 1 k 6 ∨ !kindLen k (arg q 1) then some 0x0303
    else if !kindRole k q then some 0x0301
    else if s.kp.transfer.isSome ∧ (ownTransfer q s).isNone then some 0x0202
    else none)
    (fun q s => match q.origin with
      | .host m =>
        let t : Transfer := { kind := arg q 0, len := arg q 1, crc := argW q 2, owner := m, ident := q.ident, lastTs := now s }
        (rcAns 0, { s with kp := { s.kp with transfer := some t }, imgAlt := if arg q 0 = 1 then none else s.imgAlt })
      | _ => (rcAns 0x0304, s)) s

/-- TRANSFER_DATA. -/
def opTransferData (s : State) : State :=
  commandData 0x0121 (fun q s => match ownTransfer q s with
    | none => (some (rcAns 0x0304), s)
    | some t =>
      let ws := q.args.drop 1
      let got := 4 * t.data.length
      let off := arg q 0
      let ans (rc : Nat) (n : Nat) : Option Ans := some { rc := rc, data := [w32 n] }
      let put (t : Transfer) (s : State) : State :=
        { s with kp := { s.kp with transfer := some { t with lastTs := now s } } }
      if t.last = some (off, ws) then (ans 0x0103 got, put t s)
      else if off ≠ got ∨ t.len < got + 4 * ws.length then (ans 0x0303 got, put t s)
      else (ans 0 (got + 4 * ws.length), put { t with data := t.data ++ ws, last := some (off, ws) } s)) s

/-- The bytes of transferred words. -/
def wordsBytes (ws : List Word) : List Byte := ws.flatMap beWord

/-- TRANSFER_CLOSE (R446). -/
def opTransferClose (s : State) : State :=
  command 0x0122 (fun q s =>
    if longBusy s 0x0122 then (some (rcAns 0x0202), s)
    else match ownTransfer q s with
    | none => (some (rcAns 0x0304), s)
    | some t =>
      let ok := t.len == 4 * t.data.length && crc32 (wordsBytes t.data) == t.crc
      let s := { s with kp := { s.kp with transfer := some { t with closed := t.closed || ok, lastTs := now s } } }
      (none, longWith q (if ok then { rc := 0, data := [w32 t.len, t.crc] } else rcAns 0x0303) s)) s

/-- The closed transfer of a kind that the session may consume, and the state without it (R445). -/
def takeTransfer (kind : Nat) (q : Req) (s : State) : Option (List Word × State) := match ownTransfer q s with
  | none => none
  | some t => if t.kind = kind ∧ t.closed then some (t.data, { s with kp := { s.kp with transfer := none } }) else none

/-- TRANSFER_TIMEOUT: 60 s without a command (R445). -/
def opTransferTimeout (s : State) : State := match s.kp.transfer with
  | none => s
  | some t =>
    let s := reach (t.lastTs + 60000000000) s
    { s with kp := { s.kp with transfer := none } }

/-! ### Batches (R447) -/

/-- A command's result fills the batch buffer of its session. -/
def batchPut (q : Req) (bs : List Byte) (s : State) : State := match q.origin with
  | .host m => mbxMod m (fun x => { x with batch := bs }) s
  | _ => s

/-- BATCH_READ. -/
def opBatchRead (s : State) : State :=
  readCmd 0x0124 (fun q s => match q.origin with
    | .host m =>
      let off := arg q 0
      if off % 4 ≠ 0 ∨ 4096 ≤ off then rcAns 0x0303
      else { rc := 0, data := (List.range 14).map fun i => wordBE (mbxOf s m).batch (off + 4 * i) }
    | _ => rcAns 0x0304) s

/-! ### The meanings -/

/-- MODULE_STATUS (R21). -/
def execModuleStatus (s : State) : Out := .next (opModuleStatus s)
/-- MODE_READ (R23). -/
def execModeRead (s : State) : Out := .next (opModeRead s)
/-- IDENTITY_READ (R22). -/
def execIdentityRead (s : State) : Out := .next (opIdentityRead s)
/-- REGISTER_READ (R427). -/
def execRegisterRead (s : State) : Out := .next (opRegisterRead s)
/-- SAFE (R266). -/
def execSafe (s : State) : Out := .next (opSafeCmd s)
/-- SAFE_RESET (R267). -/
def execSafeReset (s : State) : Out := .next (opSafeResetCmd s)
/-- SERVICE_ENTER (R279). -/
def execServiceEnter (s : State) : Out := .next (opServiceEnter s)
/-- SERVICE_LEAVE (R279). -/
def execServiceLeave (s : State) : Out := .next (opServiceLeave s)
/-- KEEPER_RESTART (R432). -/
def execKeeperRestart (s : State) : Out := .next (opKeeperRestart s)
/-- TRANSFER_OPEN (R445). -/
def execTransferOpen (s : State) : Out := .next (opTransferOpen s)
/-- TRANSFER_DATA (R446). -/
def execTransferData (s : State) : Out := .next (opTransferData s)
/-- TRANSFER_CLOSE (R446). -/
def execTransferClose (s : State) : Out := .next (opTransferClose s)
/-- TRANSFER_TIMEOUT (R445). -/
def execTransferTimeout (s : State) : Out := .next (opTransferTimeout s)
/-- BATCH_READ (R447). -/
def execBatchRead (s : State) : Out := .next (opBatchRead s)

end Sys2Proof.Machine
end

