-- ==== Sys2Proof/Machine/CmdIo.lean ====
section
/-!
DEFINITION. Commands of groups 0x04, I/O (R454, R455), 0x0C, CAN (R340), 0x0D, network (R463), and 0x0E, buoys and tag
(R464).
-/
namespace Sys2Proof.Machine

/-! ### Points (R275, R276, R454) -/

/-- KIND of a point word. -/
def ptKind (w : Nat) : Nat := w / 2 ^ 28
/-- INDEX of a point word. -/
def ptIndex (w : Nat) : Nat := w % 2 ^ 20

/-- The tasks a point belongs to. -/
def pointTasks (s : State) (kind idx : Nat) : List Nat := (tasksUsed s).filter fun k => forceIn s k kind idx

/-- The point is of a vital task. -/
def pointVital (s : State) (kind idx : Nat) : Bool := (pointTasks s kind idx).any fun k => (taskCfg s k).vital

/-- An offset lies in a run of bytes. -/
def inSpan (base len a : Nat) : Bool := decide (base ≤ a) && decide (a < base + len)

/-- The word of a mapping that kind 5 may name (R361, R379, R385). -/
def mapWord (s : State) (a : Nat) : Bool :=
  let can (f : CanPort → Bool) : Bool := (List.range 4).any fun n => (portOf s n).configured && f (portOf s n)
  if a % 4 ≠ 0 then false
  else if a < 0x10000 then
    can (fun p => (p.cfg.flts.any fun x => x.2.en && x.2.action == 1 && inSpan (0x1000 + 16 * x.2.slot) 80 a) ||
        (p.cfg.fifoTask.isSome && inSpan (0x1000 + p.cfg.fifoOff) 2576 a)) ||
      (brxCfgs s).any fun x => x.2.en && inSpan (x.2.off + 16) x.2.len a
  else
    let o := a - 0x10000
    can (fun p => p.cfg.txbs.any fun x => x.2.en && inSpan (0x1000 + 16 * x.2.map) 68 o) ||
      (btxCfgs s).any fun x => inSpan x.2.off x.2.len o

/-- A point exists: its index is in range, and a task owns or declares it. -/
def pointOk (s : State) (kind idx : Nat) : Bool :=
  (match kind with
    | 0 => decide (idx < 64) | 1 => decide (idx < 32) | 2 => decide (idx < 32) | 3 => decide (idx < 16)
    | 4 => decide (idx < 8) | 5 => mapWord s idx | _ => false) && !(pointTasks s kind idx).isEmpty

/-- The forced point with a kind and index. -/
def forceAt (s : State) (kind idx : Nat) : Option ForcePoint :=
  s.fab.forces.find? fun f => f.kind == kind && f.index == idx

/-! ### FORCE and RELEASE -/

/-- Checks of FORCE. -/
def chkForce (q : Req) (s : State) : Option Ans :=
  let k := ptKind (arg q 0)
  let i := ptIndex (arg q 0)
  let v := pointVital s k i
  if s.mode.exec = .safe then some (rcAns 0x0302)
  else if !pointOk s k i ∨ (k ≤ 2 ∧ 1 < arg q 1) then some (rcAns 0x0303)
  else if v ∧ q.role ≠ .engineer then some (rcAns 0x0301)
  else if (forceAt s k i).isNone ∧
      (256 ≤ s.fab.forces.length ∨ (v ∧ 64 ≤ (s.fab.forces.filter ForcePoint.vital).length)) then some (rcAns 0x0304)
  else none

/-- FORCE: the table entry; a replaced value keeps its time of forcing (R277). -/
def effForce (q : Req) (s : State) : Option Ans × State :=
  let k := ptKind (arg q 0)
  let i := ptIndex (arg q 0)
  let ts := ((forceAt s k i).map ForcePoint.ts).getD (now s)
  let f : ForcePoint := { kind := k, index := i, value := argW q 1, ts := ts, vital := pointVital s k i }
  let s := match forceAt s k i with
    | some _ => forcesPut (s.fab.forces.map fun x => if x.kind = k ∧ x.index = i then f else x) s
    | none => forcesPut (s.fab.forces ++ [f]) s
  let task := (pointTasks s k i).head?.getD 0
  let s := record 0x0111 0 (items [arg q 0, arg q 1, task] ++ item128 q.ident) s
  (some { rc := 0, data := forceCount s :: words64 ts }, s)

/-- The session may release the point (R276). -/
def mayRelease (q : Req) (f : ForcePoint) : Bool := q.role == .engineer || (q.role == .operator && !f.vital)

/-- The points a RELEASE names that its session may release. -/
def releaseOf (q : Req) (f : ForcePoint) : Bool :=
  mayRelease q f && (arg q 0 == fullW || (f.kind == ptKind (arg q 0) && f.index == ptIndex (arg q 0)))

/-- Checks of RELEASE. -/
def chkRelease (q : Req) (s : State) : Option Ans :=
  let k := ptKind (arg q 0)
  let i := ptIndex (arg q 0)
  if arg q 0 = fullW then
    if s.fab.forces.any (mayRelease q) then none else some { rc := 0x0103, data := [forceCount s] }
  else match forceAt s k i with
    | some f => if mayRelease q f then none else some (rcAns 0x0301)
    | none =>
      if !pointOk s k i then some (rcAns 0x0303)
      else if pointVital s k i ∧ q.role ≠ .engineer then some (rcAns 0x0301)
      else some { rc := 0x0103, data := [forceCount s] }

/-- RELEASE. -/
def effRelease (q : Req) (s : State) : Option Ans × State :=
  let s := forcesDrop (releaseOf q) 1 s
  (some { rc := 0, data := [forceCount s] }, s)

/-- FORCE_LIST. -/
def opForceList (s : State) : State :=
  command 0x0403 (fun q s =>
    let bs := s.fab.forces.flatMap fun f => items [forcePoint f, f.value.toNat, f.ts % 2 ^ 32, f.ts / 2 ^ 32]
    (some { rc := 0, data := [w32 s.fab.forces.length] }, batchPut q bs s)) s

/-! ### Pairs, cuts, outputs, HART and the reflex network -/

/-- Pairs in FAULT among those a mask names. -/
def pairsNamed (q : Req) (s : State) : List Nat :=
  (List.range 32).filter fun k => (argW q 0).getLsbD k && (pairOf s k).fault

/-- Checks of PAIR_CLEAR (R291, R440): every pair is a point of page 0; a mask of no pair needs OPERATOR only. -/
def chkPairClear (q : Req) (s : State) : Option Ans :=
  if arg q 0 ≠ 0 ∧ pointVital s 1 0 ∧ q.role ≠ .engineer then some (rcAns 0x0301)
  else if pairsNamed q s = [] then some { rc := 0x0103, data := [maskW fun k => (pairOf s k).clearPend] }
  else none

/-- PAIR_CLEAR: clear_pending of the named pairs (R290, R291). -/
def effPairClear (q : Req) (s : State) : Option Ans × State :=
  let s := (pairsNamed q s).foldl (fun s k => pairMod k (fun p => { p with clearPend := true }) s) s
  let m := maskW fun k => (pairOf s k).clearPend
  (some { rc := 0, data := [m] }, diAfter s)

/-- Checks of GROUP_CUT_RESET (R300, R455). -/
def chkCutReset (q : Req) (s : State) : Option Ans :=
  if s.mode.exec = .safe then some (rcAns 0x0302)
  else match (groupCutReset (arg q 0) s).1 with
    | 0 => none
    | rc => some (rcAns rc)

/-- GROUP_CUT_RESET. -/
def effCutReset (q : Req) (s : State) : Option Ans × State :=
  let (rc, s) := groupCutReset (arg q 0) s
  (some (rcAns rc), s)

/-- CUT_TEST (R301). -/
def opCutTest (s : State) : State :=
  command 0x0406 (fun q s =>
    if s.mode.exec = .safe then (some (rcAns 0x0302), s)
    else if longBusy s 0x0406 ∨ s.dio.cutTest.isSome then (some (rcAns 0x0202), s)
    else (none, cutTestStart ((List.range 4).filter fun g => (argW q 0).getLsbD g) true (longStart q s))) s

/-- AO_CHANNEL_RESET (R318, R320). -/
def opAoReset (s : State) : State :=
  simple 0x0407 (fun q s =>
    let o := loOf s (arg q 0)
    if o.comp then some 0x0304 else if !o.rbFault ∧ !o.latchedSafe then some 0x0103 else none)
    (fun q s =>
      let o := loOf s (arg q 0)
      ({ rc := 0, data := [bitF o.rbFault 0 ||| bitF o.latchedSafe 1] },
        aoUpdate (loMod (arg q 0) (fun o => { o with rbFault := false, latchedSafe := false, rbN := 0 }) s))) s

/-- HART commands of read class (R316). -/
def hartRead (c : Nat) : Bool := decide (c ≤ 3) || inR 7 c 16 || c == 20 || c == 21 || c == 48

/-- HART_PASSTHROUGH (R316). -/
def opHartPass (s : State) : State :=
  command 0x0408 (fun q s =>
    let n := arg q 0 % 16
    let c := arg q 0 / 256 % 256
    let len := arg q 0 / 2 ^ 16 % 256
    let rd := hartRead c
    if !hartMaster s ∨ !(liCfg s n).hartEn ∨ (rd ∧ s.mode.power ≠ .normal) ∨ (!rd ∧ s.mode.exec ≠ .stop) then
      (some (rcAns 0x0302), s)
    else if !rd ∧ q.role ≠ .engineer then (some (rcAns 0x0301), s)
    else if longBusy s 0x0408 ∨ (hartOf s n).pass.isSome then (some (rcAns 0x0202), s)
    else if !hartRuns s n then (some (rcAns 0x0304), s)
    else
      let p : HartPass := { req := q, cmd := c, data := (wordsBytes (q.args.drop 1)).take len, write := !rd }
      (none, hartMod n (fun h => { h with pass := some p, nextTs := now s }) (longStart q s))) s

/-- REFLEX_RESET; `ok` is the result of its check pass (R176, R455). -/
def opReflexReset (ok : Bool) (s : State) : State :=
  commandData 0x0409 (fun _ s =>
    let ((rel, held), s) := reflexReset ok s
    (some { rc := if ok ∧ held = 0 then 0 else 0x0304, data := [rel, held] }, s)) s

/-! ### CAN (R340) -/

/-- A port that is not configured answers BUS_GATED. -/
def canGate (q : Req) (s : State) : Option Nat := if (portOf s (arg q 0 % 4)).configured then none else some 0x0306

/-- CAN_STATUS. -/
def opCanStatus (s : State) : State :=
  readCmd 0x0C01 (fun q s => match canGate q s with
    | some rc => rcAns rc
    | none =>
      let n := arg q 0 % 4
      { rc := 0, data := [regCan s n 0, regCan s n 0x14, regCan s n 0x18, regCan s n 0x1C, regCan s n 0x20] }) s

/-- TX_CANCEL (R355). -/
def opTxCancel (s : State) : State :=
  simple 0x0C02 canGate (fun q s =>
    let (rc, s) := canCancel (arg q 0 % 4) (arg q 0 / 256) q.ident s
    (rcAns rc, s)) s

/-- PORT_RESTART (R358). -/
def opPortRestart (s : State) : State :=
  simple 0x0C03 canGate (fun q s =>
    let (rc, s) := canRestart (arg q 0 % 4) s
    (rcAns rc, s)) s

/-! ### Network (R366 to R368, R463) -/

/-- The 1 bits of a mask are contiguous from bit 31. -/
def maskOk (w : Word) : Bool := let n := ~~~w; (n &&& (n + 1)) == 0

/-- NETWORK_SET: the settings of the next reset; a gateway of 0 is none. -/
def opNetworkSet (s : State) : State :=
  simple 0x0D01 (fun q _ =>
    let ip := argW q 0
    let m := argW q 1
    let gw := argW q 2
    if !maskOk m ∨ (gw ≠ 0 ∧ gw &&& m ≠ ip &&& m) then some 0x0303 else none)
    (fun q s =>
      let n : NetSettings := {
        ip := argW q 0, mask := argW q 1, gw := argW q 2, vlanBeam := arg q 3 / 65536, vlanMgmt := arg q 3 % 65536
        diagNode := arg q 4 }
      (rcAns 0, nvmJournal 0 { s with net := { s.net with next := n } })) s

/-- The rule that four words spell, if every field is in its range. -/
def fwParse (c src dp z : Word) : Option FwRule :=
  let n := c.toNat
  let pfx := n % 64
  if (c &&& 0x48F800C0) ≠ 0 ∨ z ≠ 0 ∨ 32 < pfx then none
  else some {
    en := c.getLsbD 31, action := n / 2 ^ 28 % 4, prio := n / 2 ^ 24 % 8, ports := n / 2 ^ 16 % 8, proto := n / 2 ^ 8 % 256
    pfx := pfx, src := src, low := dp.toNat / 65536, high := dp.toNat % 65536 }

/-- The firewall table of a transfer (R463). -/
def fwTable (ws : List Word) : Option (List FwRule) :=
  (List.range 128).mapM fun r => fwParse (ws.getD (4 * r) 0) (ws.getD (4 * r + 1) 0) (ws.getD (4 * r + 2) 0) (ws.getD (4 * r + 3) 0)

/-- FIREWALL_SET (R368). -/
def opFirewallSet (s : State) : State :=
  command 0x0D02 (fun q s => match takeTransfer 4 q s with
    | none => (some (rcAns 0x0304), s)
    | some (ws, s) => match fwTable ws with
      | none => (some (rcAns 0x0303), s)
      | some l =>
        let o := fwTableId s.net.fw
        let n := fwTableId l
        (some { rc := 0, data := [o, n] }, record 0x0A04 0 (items [o.toNat, n.toNat] ++ item128 q.ident)
          (nvmJournal 1 { s with net := { s.net with fw := l } }))) s

/-- BEAM_RX_STATUS (R384). -/
def opBeamRxStatus (s : State) : State :=
  readCmd 0x0D03 (fun q s =>
    let c := arg q 0
    { rc := 0, data := [regBrx s c 0, regBrx s c 0x0C, regBrx s c 0x10] ++ words64 (brxOf s c).ts }) s

/-! ### Buoys and tag (R333, R464, R591) -/

/-- BUOY_STATUS. -/
def opBuoyStatus (s : State) : State :=
  command 0x0E01 (fun q s =>
    let b := arg q 0
    if aimConflict q s then (some (rcAns 0x0304), s)
    else (some { rc := 0, data := [regSock s b 0, regSock s b 4] ++ words64 (sockOf s b).serial ++
      [regSock s b 0x10, regSock s b 0x14, regSock s b 0x18, regSock s b 0x1C] }, s)) s

/-- The partner reported a carrying role (R333). -/
def partnerCarrying (s : State) : Bool :=
  twinOn s && s.twin.visible && (s.twin.partnerRole == .principal || s.twin.partnerRole == .assistant)

/-- BUOY_EXCHANGE (R333, R337). -/
def opBuoyExchangeCmd (s : State) : State :=
  simple 0x0E02 (fun q s =>
    let b := arg q 0
    if !(s.mode.maint || (partnerCarrying s && !(b == 2 && s.mode.role == .principal))) then some 0x0302
    else if aimConflict q s then some 0x0304
    else if (sockOf s b).exch then some 0x0103
    else none)
    (fun q s => (rcAns 0, viewFollow s (buoyExchange (arg q 0) q.ident (if s.mode.maint then 0 else 1) s))) s

/-- TAG_READ: the newer valid copy (R591). -/
def opTagRead (s : State) : State :=
  command 0x0E03 (fun q s =>
    let r := arg q 0
    let x := tagReg s r
    if 4 < r then (some (rcAns 0x0303), s)
    else if s.tag.rf then
      (some (rcAns 0x0202), { s with tag := { s.tag with busyCnt := satInc s.tag.busyCnt } })
    else
      let b := tagNewB x
      let d := if b then x.dataB else if x.okA then x.dataA else []
      let v := if b then x.verB else if x.okA then x.verA else 0
      (some { rc := 0, data := [w32 d.length, w32 v] }, batchPut q d s)) s

/-! ### The meanings -/

/-- FORCE (R275). -/
def execForce (s : State) : Out := .next (twinWide 0x0401 chkForce effForce s)
/-- RELEASE (R276). -/
def execRelease (s : State) : Out := .next (twinWide 0x0402 chkRelease effRelease s)
/-- FORCE_LIST (R447). -/
def execForceList (s : State) : Out := .next (opForceList s)
/-- PAIR_CLEAR (R291). -/
def execPairClear (s : State) : Out := .next (twinWide 0x0404 chkPairClear effPairClear s)
/-- GROUP_CUT_RESET (R300). -/
def execGroupCutReset (s : State) : Out := .next (twinWide 0x0405 chkCutReset effCutReset s)
/-- CUT_TEST (R301). -/
def execCutTest (s : State) : Out := .next (opCutTest s)
/-- AO_CHANNEL_RESET (R320). -/
def execAoChannelReset (s : State) : Out := .next (opAoReset s)
/-- HART_PASSTHROUGH (R316). -/
def execHartPassthrough (s : State) : Out := .next (opHartPass s)
/-- REFLEX_RESET (R176). -/
def execReflexReset (ok : Bool) (s : State) : Out := .next (opReflexReset ok s)
/-- CAN_STATUS (R340). -/
def execCanStatus (s : State) : Out := .next (opCanStatus s)
/-- TX_CANCEL (R355). -/
def execTxCancel (s : State) : Out := .next (opTxCancel s)
/-- PORT_RESTART (R358). -/
def execPortRestart (s : State) : Out := .next (opPortRestart s)
/-- NETWORK_SET (R366). -/
def execNetworkSet (s : State) : Out := .next (opNetworkSet s)
/-- FIREWALL_SET (R368). -/
def execFirewallSet (s : State) : Out := .next (opFirewallSet s)
/-- BEAM_RX_STATUS (R384). -/
def execBeamRxStatus (s : State) : Out := .next (opBeamRxStatus s)
/-- BUOY_STATUS (R338). -/
def execBuoyStatus (s : State) : Out := .next (opBuoyStatus s)
/-- BUOY_EXCHANGE (R333). -/
def execBuoyExchange (s : State) : Out := .next (opBuoyExchangeCmd s)
/-- TAG_READ (R591). -/
def execTagRead (s : State) : Out := .next (opTagRead s)

end Sys2Proof.Machine
end

