-- ==== Sys2Proof/Machine/CmdNvm.lean ====
section
/-!
DEFINITION. Commands of groups 0x07, recorder, 0x08, NVM, and 0x09, security (R458 to R460, R469 to R487, R521, R522),
with the hold of requests that need random numbers (R491, R493).
-/
namespace Sys2Proof.Machine

/-! ### Random numbers (R491, R493) -/

/-- What needs random numbers runs, waits for the source, or is answered ENTROPY_FAIL. -/
def withRandom (q : Req) (f : State → Option Ans × State) (s : State) : Option Ans × State :=
  let wait : Option Ans × State := (none, { s with sec := { s.sec with trngWait := s.sec.trngWait ++ [q] } })
  match s.sec.trng with
  | .running => f s
  | .startup => wait
  | .failed => if s.sec.trngFailTs + 50000000 ≤ now s then (some (rcAns 0x0402), s) else wait
  | .stopped => (some (rcAns 0x0402), s)

/-! ### The recorder (R458, R521, R522) -/

/-- Every record the module still holds, in SEQ order: its page when its CRC fails, and the record. -/
def recHeld (s : State) : List (Option Nat × Rec) :=
  let k := s.rcd
  k.ring.map (fun r => (if r.crcOk then none else some (0x080000 + r.off / 256 * 256), r.rcd)) ++
    k.staged.map (fun r => (none, r)) ++ (if k.degraded then k.volRing.map fun r => (none, r) else [])

/-- What a damaged record is returned as (R521). -/
def recDamaged (r : Rec) : Rec := { code := 0x0E14, source := 0x02C0, flags := 16, seq := r.seq }

/-- Records from the front until `w` records or `room` bytes. -/
def recFit : Nat → Nat → List (Option Nat × Rec) → List (Option Nat × Rec)
  | 0, _, _ => []
  | _, _, [] => []
  | w + 1, room, x :: xs =>
    let n := match x.1 with
      | none => recLen x.2
      | some _ => 24
    if n ≤ room then x :: recFit w (room - n) xs else []

/-- RECORDER_READ (R521). -/
def opRecorderRead (s : State) : State :=
  command 0x0701 (fun q s =>
    if longBusy s 0x0701 then (some (rcAns 0x0202), s)
    else
      let o := oldestSeq s
      let lost := !seqGe (arg q 0) o
      let l := recFit (arg q 1) 4096 ((recHeld s).filter fun x =>
        seqGe x.2.seq o && (lost || seqGe x.2.seq (arg q 0)))
      let recs := l.map fun x => match x.1 with
        | none => x.2
        | some _ => recDamaged x.2
      let bad := l.filterMap Prod.fst
      let bs := recs.flatMap recBytesOf
      let (f0, s) := freeNext s
      let (f1, s) := freeNext s
      let s := batchPut q bs s
      let s := { s with rcd := { s.rcd with damagedCnt := satAdd s.rcd.damagedCnt bad.length } }
      let s := bad.foldl (fun s p => record 0x0E14 0x02C0 (items [p]) s) s
      let seqW (r : Option Rec) (f : Word) : Word := match r with
        | some r => w32 r.seq
        | none => f
      (none, longWith q {
        rc := 0
        data := [w32 recs.length, seqW recs.head? f0, seqW recs.getLast? f1, w32 (oldestSeq s), bitF lost 0, w32 bs.length] } s)) s

/-- CLEAR_PREPARE (R458). -/
def opClearPrepare (s : State) : State :=
  command 0x0702 (fun q s => match mbxOrigin q with
    | none => (some (rcAns 0x0304), s)
    | some m => withRandom q (fun s =>
      let (t, s) := freeNext s
      (some { rc := 0, data := [t, 30] }, { s with kp := { s.kp with token := some (t, m, now s + 30000000000) } })) s) s

/-- The confirm token is the one the session prepared, within its 30 s. -/
def tokenOk (q : Req) (s : State) : Bool := match s.kp.token, mbxOrigin q with
  | some (t, m, e), some n => t == argW q 0 && m == n && decide (now s ≤ e)
  | _, _ => false

/-- Pages of the ring that hold only records below the floor (R522). -/
def zeroPages (s : State) : List Nat :=
  let pg (l : List RingRec) : List Nat := (l.flatMap fun r => pagesOf r.off (recLen r.rcd)).eraseDups
  let keep := pg (s.rcd.ring.filter fun r => seqGe r.rcd.seq s.rcd.floor) ++
    (ringPlaces s.rcd.badPages s.rcd.nextOff s.rcd.staged).flatMap fun x => pagesOf x.1 (recLen x.2)
  (pg (s.rcd.ring.filter fun r => !seqGe r.rcd.seq s.rcd.floor)).filter fun p => !keep.contains p

/-- The recorder is cleared (R522). -/
def recorderClear (ident : Nat) (s : State) : State :=
  let seq := s.rcd.nextSeq
  let s := record 0x0E10 0 (item128 ident ++ items [oldestSeq s, newestSeq s]) s
  let s := flushStaged 1 { s with rcd := { s.rcd with floor := seq, clearCnt := satInc s.rcd.clearCnt, volRing := [] } }
  let s := nvmJournal 6 s
  let pages := zeroPages s
  let s := { s with rcd := { s.rcd with ring := s.rcd.ring.filter fun r => seqGe r.rcd.seq seq } }
  if pages = [] then s
  else nvmPush { work := .zero, cls := 2, pages := pages.map fun p => (p, 0) }
    { s with rcd := { s.rcd with clearing := true }, nvm := { s.nvm with zeroing := true } }

/-- CLEAR_CONFIRM (R458, R522). -/
def opClearConfirm (s : State) : State :=
  command 0x0703 (fun q s =>
    let ok := tokenOk q s
    let s := { s with kp := { s.kp with token := none } }
    if !ok then (some (rcAns 0x0303), s)
    else if s.rcd.degraded then (some (rcAns 0x0403), s)
    else (some { rc := 0, data := [w32 s.rcd.nextSeq] }, recorderClear q.ident s)) s

/-! ### NVM (R459, R509, R524) -/

/-- COUNTER_READ (R509). -/
def opCounterRead (s : State) : State :=
  readCmd 0x0801 (fun q s => { rc := 0, data := words64 (counterGet s (arg q 0)) }) s

/-- RETAIN_SNAPSHOT: its reply follows its commit (R459, R516). -/
def opRetainSnapshot (s : State) : State :=
  command 0x0802 (fun q s =>
    if !scanning s then (some (rcAns 0x0302), s)
    else if !anyRetain s then (some (rcAns 0x0304), s)
    else (none, snapAsk 4 [q] s)) s

/-- LAST_LIGHT_READ (R524). -/
def opLastLightRead (s : State) : State :=
  command 0x0803 (fun q s =>
    (some { rc := 0, data := [bitF s.rcd.ll.valid 0] }, batchPut q (llBytes s.rcd.ll) s)) s

/-! ### Security (R460, R469 to R487) -/

/-- The words of a 16-byte identity, in order. -/
def identWords (n : Nat) : List Word := [w32 (n / 2 ^ 96), w32 (n / 2 ^ 64), w32 (n / 2 ^ 32), w32 n]

/-- SESSION_INFO (R479). -/
def opSessionInfo (s : State) : State :=
  readCmd 0x0901 (fun q s =>
    { rc := 0, data := [mbxBind s ((mbxOrigin q).getD 8)] ++ identWords q.ident }) s

/-- ENROLL_REQUEST: the certificate request and the key pair the lamp room generates (R481). -/
def opEnrollRequest (csr : List Byte) (key : Nat) (s : State) : State :=
  command 0x0902 (fun q s =>
    if scanning s then (some (rcAns 0x0302), s)
    else if longBusy s 0x0902 then (some (rcAns 0x0202), s)
    else withRandom q (fun s =>
      let bs := csr.take 4096
      let s := { s with sec := { s.sec with pendNode := some (arg q 0), pendKey := key } }
      let s := record 0x0D07 0 (items [arg q 0] ++ item128 q.ident) (batchPut q bs s)
      (none, longWith q { rc := 0, data := [w32 bs.length] } s)) s) s

/-- What an accepted enrollment object installs (R482). -/
def enroll (node domain canRole : Nat) (q : Req) (s : State) : State :=
  let s := { s with
    id := { s.id with nodeNext := some node }
    sec := { s.sec with
      enrolled := true, pendNode := none, pendKey := 0, domainId := domain, domainKey := true, canKey := true
      canRole := canRole, canEpoch := 1, nodeEpochOut := false, twinEpochOut := false }
    beam := { s.beam with rx := s.beam.rx.map fun x => (x.1, { x.2 with epoch := 0, keys := [] }) } }
  let s := nvmJournal 5 (counterPut 8 1 1 (counterPut 7 1 1 s))
  record 0x0D08 0 (items [node] ++ item128 domain ++ items [canRole] ++ item128 q.ident) s

/-- ENROLL_INSTALL: whether the chain ends at the owner certificate, its public key and node number, and the DOMAIN_ID and
CAN role of an envelope that decrypts (R482). -/
def opEnrollInstall (chainOk : Bool) (key node : Nat) (env : Option (Nat × Nat)) (s : State) : State :=
  command 0x0903 (fun q s =>
    if scanning s then (some (rcAns 0x0302), s)
    else match takeTransfer 5 q s with
    | none => (some (rcAns 0x0304), s)
    | some (_, s) => match env with
      | none => (some (rcAns 0x0303), s)
      | some (domain, canRole) =>
        if chainOk ∧ s.sec.pendNode = some node ∧ s.sec.pendKey = key ∧ canRole ≤ 2 then
          (some { rc := 0, data := [w32 node] }, enroll node domain canRole q s)
        else (some (rcAns 0x0303), s)) s

/-- A new owner (R471). -/
def ownerInstall (hash : Nat) (lock : Bool) (s : State) : State :=
  let c := s.sec
  let burn := lock && !c.vsLock
  let was := c.owned
  let sec := { c with owned := true, ownerHash := hash, ownerLock := lock, vsLock := c.vsLock || lock }
  let s := if was then
      { s with
        sec := { sec with
          enrolled := false, domainKey := false, canKey := false, pendNode := none, pendKey := 0 }
        id := { s.id with nodeNext := some 0 } }
    else { s with sec := sec }
  let s := record 0x0D06 0 (item128 c.ownerHash ++ item128 hash ++ items [b2n was, b2n burn]) s
  if burn then record 0x0D11 0 (item128 hash) s else s

/-- OWNER_CERT_INSTALL: the hash of the certificate, the verdict on its proof, and its lock attribute (R470, R471). -/
def opOwnerInstall (hash : Nat) (proofOk lock : Bool) (s : State) : State :=
  command 0x0904 (fun q s =>
    if s.mode.exec ≠ .stop then (some (rcAns 0x0302), s)
    else if 5 ≤ s.sec.claimFails then (some (rcAns 0x0304), s)
    else match takeTransfer 6 q s with
    | none => (some (rcAns 0x0304), s)
    | some (_, s) =>
      if proofOk then (some (rcAns 0), ownerInstall hash lock s)
      else (some (rcAns 0x0303), { s with sec := { s.sec with claimFails := s.sec.claimFails + 1 } })) s

/-- The CAN epoch is incremented (R487). -/
def canEpochBump (s : State) : State :=
  record 0x0D09 0 (items [2, 0, s.sec.canEpoch + 1, 1])
    { s with sec := { s.sec with canEpoch := s.sec.canEpoch + 1, canLast := 0 } }

/-- The effect of KEY_ROTATE (R484, R487); the partner's copy increments the twin epoch only. -/
def effRotate (q : Req) (s : State) : Option Ans × State :=
  if arg q 0 = 1 then
    if q.origin = .partner then (some (rcAns 0), epochBump true 1 s)
    else
      let out := counterGet s 7 == 0xFFFF
      let s := epochBumps 1 s
      (some (if out then rcAns 0x0304 else { rc := 0, data := [w32 (counterGet s 7)] }), s)
  else if 0xFFFF ≤ s.sec.canEpoch then (some (rcAns 0x0304), record 0x0D12 0 (items [0]) s)
  else
    let s := canEpochBump s
    (some { rc := 0, data := [w32 s.sec.canEpoch] }, s)

/-- KEY_ROTATE (R484). -/
def opKeyRotate (s : State) : State := twinWide 0x0905 (fun _ _ => none) effRotate s

/-- FUSE_STATUS (R494). -/
def opFuseStatus (s : State) : State :=
  readCmd 0x0906 (fun _ s => { rc := 0, data := [w32 s.sec.margCount] ++ words64 s.sec.margTs }) s

/-! ### The TRNG (R490 to R493) -/

/-- TRNG_FAIL: a health test fails; 1 repetition count, 2 adaptive proportion (R491, R493). -/
def opTrngFail (test : Nat) (s : State) : State :=
  if s.sec.trng = .stopped then s
  else
    let f := s.sec.trngFails.filter (fun t => decide (now s < t + 3600000000000)) ++ [now s]
    let s := { s with sec := { s.sec with trngFails := f, trngFailTs := now s, trng := .failed, trngFailedReqs := 0 } }
    let s := record 0x0D0B 1 (items [test, s.sec.trngWait.length]) s
    if 3 ≤ f.length then
      let w := s.sec.trngWait
      let s := record 0x0D0D 1 (f.flatMap item64) { s with sec := { s.sec with trng := .stopped, trngWait := [] } }
      w.foldl (fun s q => finish q (rcAns 0x0402) s) s
    else s

/-- TRNG_RESTORED: the start-up tests pass; held requests are served (R490, R491). -/
def opTrngRestored (s : State) : State :=
  let go (s : State) : State :=
    { s with
      sec := { s.sec with trng := .running, trngWait := [] }
      kp := { s.kp with queue := s.sec.trngWait ++ s.kp.queue } }
  match s.sec.trng with
  | .failed =>
    go (record 0x0D0C 1 (items [(now s - s.sec.trngFailTs) / 1000000, s.sec.trngFailedReqs]) s)
  | .startup => go s
  | _ => s

/-- TRNG_HOLD_EXPIRY: 50 ms after the failure (R491). -/
def opTrngHold (s : State) : State :=
  if s.sec.trng = .failed then
    let s := reach (s.sec.trngFailTs + 50000000) s
    let w := s.sec.trngWait
    let s := { s with sec := { s.sec with trngWait := [], trngFailedReqs := s.sec.trngFailedReqs + w.length } }
    w.foldl (fun s q => finish q (rcAns 0x0402) s) s
  else s

/-! ### The meanings -/

/-- RECORDER_READ (R521). -/
def execRecorderRead (s : State) : Out := .next (opRecorderRead s)
/-- CLEAR_PREPARE (R458). -/
def execClearPrepare (s : State) : Out := .next (opClearPrepare s)
/-- CLEAR_CONFIRM (R522). -/
def execClearConfirm (s : State) : Out := .next (opClearConfirm s)
/-- COUNTER_READ (R509). -/
def execCounterRead (s : State) : Out := .next (opCounterRead s)
/-- RETAIN_SNAPSHOT (R459). -/
def execRetainSnapshot (s : State) : Out := .next (opRetainSnapshot s)
/-- LAST_LIGHT_READ (R524). -/
def execLastLightRead (s : State) : Out := .next (opLastLightRead s)
/-- SESSION_INFO (R479). -/
def execSessionInfo (s : State) : Out := .next (opSessionInfo s)
/-- ENROLL_REQUEST (R481). -/
def execEnrollRequest (csr : List Byte) (key : Nat) (s : State) : Out := .next (opEnrollRequest csr key s)
/-- ENROLL_INSTALL (R482). -/
def execEnrollInstall (chainOk : Bool) (key node : Nat) (env : Option (Nat × Nat)) (s : State) : Out :=
  .next (opEnrollInstall chainOk key node env s)
/-- OWNER_CERT_INSTALL (R471). -/
def execOwnerCertInstall (hash : Nat) (proofOk lock : Bool) (s : State) : Out :=
  .next (opOwnerInstall hash proofOk lock s)
/-- KEY_ROTATE (R484). -/
def execKeyRotate (s : State) : Out := .next (opKeyRotate s)
/-- FUSE_STATUS (R494). -/
def execFuseStatus (s : State) : Out := .next (opFuseStatus s)
/-- TRNG_FAIL (R491). -/
def execTrngFail (test : Nat) (s : State) : Out := .next (opTrngFail test s)
/-- TRNG_RESTORED (R491). -/
def execTrngRestored (s : State) : Out := .next (opTrngRestored s)
/-- TRNG_HOLD_EXPIRY (R491). -/
def execTrngHoldExpiry (s : State) : Out := .next (opTrngHold s)

end Sys2Proof.Machine
end

