-- ==== Sys2Proof/Machine/CmdFw.lean ====
section
/-!
DEFINITION. Firmware update (chapter 22): FW_WRITE, ACTIVATE, FW_STATUS, the keeper's resume and the settings kept across
it, trial, fallback and the anti-rollback counters (R473, R559, R560), and the fuses (R494 to R497).
-/
namespace Sys2Proof.Machine

/-! ### The image header (R552) -/

/-- Word i of a transferred object; bytes 4i to 4i + 3, the first in [31:24]. -/
def imgW (ws : List Word) (i : Nat) : Nat := (ws.getD i 0).toNat

/-- All words of a list of indices are 0. -/
def zeroW (ws : List Word) (l : List Nat) : Bool := l.all fun i => imgW ws i == 0

/-- A 48-byte field from word i, as a number. -/
def imgHash (ws : List Word) (i : Nat) : Nat := (List.range 12).foldl (fun n j => n * 2 ^ 32 + imgW ws (i + j)) 0

/-- A part lies behind the header and within the image. -/
def partOk (ws : List Word) (i : Nat) : Bool :=
  let o := imgW ws i
  let n := imgW ws (i + 1)
  decide (256 ≤ o) && decide (0 < n) && decide (o + n ≤ 4 * ws.length)

/-- Check 2 of R553. -/
def fwFormatOk (ws : List Word) : Bool :=
  let t := imgW ws 2
  imgW ws 0 == 0x5A465701 && imgW ws 1 == 1 && (t == 1 || t == 2) && imgW ws 3 / 2 ^ 24 == 0 && decide (imgW ws 4 ≤ 1) &&
    (imgW ws 4 == 1 || zeroW ws ((List.range 14).map (· + 5))) && decide (imgW ws 21 / 65536 ≤ 64) &&
    decide (imgW ws 21 % 65536 ≤ 64) && zeroW ws ([23, 31] ++ (List.range 28).map (· + 36)) && partOk ws 32 &&
    (if t = 1 then partOk ws 34 else zeroW ws [20, 34, 35] && imgW ws 21 % 65536 == 0) && decide (4 * ws.length ≤ 8388608)

/-- The slot an image describes; type 2 takes the running lamp-room part (R552). -/
def fwSlotOf (ws : List Word) (sign : Bool) (run : FwSlot) : FwSlot :=
  let full := imgW ws 2 == 1
  { ok := true, keeperVer := w32 (imgW ws 19), lroomVer := if full then w32 (imgW ws 20) else run.lroomVer
    svnK := imgW ws 21 / 65536, svnL := if full then imgW ws 21 % 65536 else run.svnL, protoMin := imgW ws 22 / 65536
    protoMax := imgW ws 22 % 65536, imageType := imgW ws 2, countersigned := sign
    reads := (List.range 7).map fun i => (imgW ws (24 + i) % 65536, imgW ws (24 + i) / 65536) }

/-- A settings item can be read by a slot's firmware. -/
def itemReadable (s : State) (f : FwSlot) (i : Nat) : Bool :=
  let n := s.fw.formats.getD i 0
  let r := f.reads.getD i (0, 0)
  inR r.1 n r.2

/-- Writes the inactive slot. -/
def fwPutInactive (f : FwSlot) (s : State) : State :=
  { s with fw := if s.fw.active then { s.fw with slotA := f } else { s.fw with slotB := f } }

/-! ### FW_WRITE (R553, R554) -/

/-- A refusal of FW_WRITE: its check, and the answer. -/
def fwRefused (q : Req) (rc check : Nat) (s : State) : State :=
  longWith q (rcAns rc) (record 0x1002 0 (items [rc, check]) s)

/-- The checks of R553 in their order: the code and the number of the first that fails. -/
def fwCheck (q : Req) (ws : List Word) (sign : Bool) (sig : SigCheck) (s : State) : Option (Nat × Nat) :=
  let f := fwSlotOf ws sign (fwActive s)
  if q.role = .vendorService ∧ !sign then some (0x0301, 1)
  else if !fwFormatOk ws then some (0x0303, 2)
  else if sig ≠ .good then some (0x0303, 3)
  else if imgW ws 3 ≠ (modType s).toNat / 256 then some (0x0307, 4)
  else if imgW ws 4 = 1 ∧ (imgW ws 5 * 2 ^ 32 + imgW ws 6 ≠ s.id.serial.toNat ∨ imgHash ws 7 ≠ s.id.idevHash) then
    some (0x0307, 4)
  else if f.svnK < s.sec.svnKeeper ∨ (f.imageType = 1 ∧ f.svnL < s.sec.svnLroom) then some (0x0303, 5)
  else if !([4, 5, 6].all (itemReadable s f)) then some (0x0303, 6)
  else none

/-- FW_WRITE: the verdict on the countersignature, on the Zaocor signature and its signer, and whether the slot was
written and read back. -/
def opFwWrite (sign : Bool) (sig : SigCheck) (signer : Nat) (writeOk : Bool) (s : State) : State :=
  command 0x0A01 (fun q s =>
    if longBusy s 0x0A01 then (some (rcAns 0x0202), s)
    else match takeTransfer 3 q s with
    | none => (some (rcAns 0x0304), s)
    | some (ws, s) => match fwCheck q ws sign sig s with
      | some (rc, n) =>
        let s := match n, sig with
          | 3, .bad c => record 0x0D0A 0 (items [3, c] ++ item128 signer) s
          | _, _ => s
        (none, fwRefused q rc n s)
      | none =>
        let f := fwSlotOf ws sign (fwActive s)
        let s := fwPutInactive { f with ok := writeOk } { s with fw := { s.fw with inactiveValid := writeOk } }
        if !writeOk then (none, fwRefused q 0x0403 7 s)
        else
          let s := record 0x1001 0 (items [f.imageType, f.keeperVer.toNat, f.lroomVer.toNat, f.svnK, f.svnL, imgW ws 4] ++
            item128 q.ident) s
          (none, longWith q { rc := 0, data := [f.keeperVer, w32 f.imageType] } s)) s

/-! ### ACTIVATE (R555) -/

/-- The modes of ACTIVATE's row. -/
def activateMode (s : State) : Bool :=
  s.mode.power == .normal &&
    (if twinOn s then s.mode.role == .assistant && s.twin.locked else s.mode.exec == .stop || s.mode.exec == .run)

/-- ACTIVATE: the keeper announces its restart; its reply comes at the resume. -/
def opActivate (s : State) : State :=
  command 0x0A02 (fun q s =>
    let f := fwInactive s
    if !activateMode s then (some (rcAns 0x0302), s)
    else if q.role = .vendorService ∧ !f.countersigned then (some (rcAns 0x0301), s)
    else if longBusy s 0x0A02 then (some (rcAns 0x0202), s)
    else if !s.fw.inactiveValid then (some (rcAns 0x0304), s)
    else if twinOn s ∧ !inR f.protoMin s.twin.proto f.protoMax then (some (rcAns 0x0304), s)
    else
      let s := flushStaged 1 (longStart q s)
      (none, keeperDown .activate { s with fw := { s.fw with activating := true } })) s

/-- FW_STATUS (R461). -/
def opFwStatus (s : State) : State :=
  readCmd 0x0A03 (fun _ s =>
    { rc := 0, data := [(fwActive s).keeperVer, (fwActive s).lroomVer, modFwSlot s, w32 s.sec.svnKeeper, w32 s.sec.svnLroom] }) s

/-! ### Settings (R366, R392, R534, R558) -/

/-- Network and time settings that wait for a reset take effect (R366, R457, R556). -/
def settingsApply (s : State) : State :=
  { s with
    net := { s.net with cur := some s.net.next }
    time := { s.time with ptpCfg := s.time.ptpNext, slewMax := s.time.slewNext, lateWin := s.time.winNext } }

/-- An unprotected settings item takes its value after a settings reset. -/
def settingReset (i : Nat) (s : State) : State :=
  let s := nvmJournal i s
  if i = 0 then { s with net := { s.net with next := {} } }
  else if i = 1 then { s with net := { s.net with fw := fwDefault, fwHit := [] } }
  else if i = 2 then { s with time := { s.time with ptpNext := 0xF8F80001, slewNext := 100, winNext := 1000 } }
  else { s with wdg := { s.wdg with timeoutMs := 1000, clkRc := false, setRc := false } }

/-- The items the new firmware cannot read are reset, and every format is converted to the highest it reads (R558); the
mask of the items reset. -/
def settingsConvert (f : FwSlot) (s : State) : Nat × State :=
  let bad := [0, 1, 2, 3].filter fun i => !itemReadable s f i
  let mask := maskN (fun i => bad.contains i) 4
  let fmts := bad.flatMap fun i => [s.fw.formats.getD i 0, (f.reads.getD i (0, 0)).2]
  let s := bad.foldl (fun s i => settingReset i s) s
  let s := { s with fw := { s.fw with formats := (List.range 7).map fun i => (f.reads.getD i (0, 0)).2 } }
  (mask, if bad = [] then s else record 0x1004 0 (items ([mask] ++ fmts)) s)

/-! ### The keeper resumes (R432, R555, R559) -/

/-- The answer of a long command that waited for the resume is known. -/
def longAnswer (op : Nat) (a : Ans) (s : State) : State :=
  { s with kp := { s.kp with long := s.kp.long.map fun l =>
      if l.req.opcode = op ∧ !l.done then { l with done := true, rc := a.rc, data := a.data } else l } }

/-- Steps 2 to 5 of R555; `digestOk` when the inactive slot still has its SHA-384. -/
def activateEnd (digestOk : Bool) (began : Nat) (s : State) : State :=
  let s := { s with fw := { s.fw with activating := false } }
  if !digestOk then longAnswer 0x0A02 (rcAns 0x0403) { s with fw := { s.fw with inactiveValid := false } }
  else
    let old := fwActive s
    let new := fwInactive s
    let s := { s with fw := { s.fw with
      active := !s.fw.active, inactiveValid := true, trial := some began, runSince := now s } }
    let (mask, s) := settingsConvert new s
    let s := record 0x1003 0 (items [old.keeperVer.toNat, old.lroomVer.toNat, new.keeperVer.toNat, new.lroomVer.toNat,
      b2n s.fw.active, (now s - began) / 1000000]) s
    longAnswer 0x0A02 (if mask = 0 then { rc := 0, data := [0] } else { rc := 0x0102, data := [w32 mask] }) s

/-- KEEPER_RESUME (R432); waiting settings take effect after an activation (R556). -/
def opKeeperResume (digestOk : Bool) (s : State) : State := match s.kp.restart with
  | none => s
  | some (_, began) =>
    let s := if s.fw.activating then settingsApply (activateEnd digestOk began s) else s
    keeperResume { s with fw := { s.fw with runSince := now s } }

/-! ### Trial and anti-rollback (R473, R559, R560) -/

/-- A counter is burned up to the SVN; part 1 keeper, 2 lamp room. -/
def svnBurn (part old new : Nat) (s : State) : State :=
  if old < new then
    let s := if part = 1 then { s with sec := { s.sec with svnKeeper := new } } else { s with sec := { s.sec with svnLroom := new } }
    record 0x0D03 1 (items [part, old, new]) s
  else s

/-- The inactive slot's image can no longer boot (R560). -/
def slotInvalidate (s : State) : State :=
  let f := fwInactive s
  if s.fw.inactiveValid && (decide (f.svnK < s.sec.svnKeeper) || decide (f.svnL < s.sec.svnLroom)) then
    record 0x1007 0 (items [1 - b2n s.fw.active, f.svnK, f.svnL]) { s with fw := { s.fw with inactiveValid := false } }
  else s

/-- Both counters are burned up to the active image's SVNs, and the trial ends (R473, R559). -/
def rollbackAdvance (s : State) : State :=
  let f := fwActive s
  let s := svnBurn 2 s.sec.svnLroom f.svnL (svnBurn 1 s.sec.svnKeeper f.svnK s)
  let s := { s with fw := { s.fw with trial := none } }
  let s := record 0x1006 0 (items [b2n s.fw.active, s.sec.svnKeeper, s.sec.svnLroom]) s
  slotInvalidate s

/-- ROLLBACK_ADVANCED: an activated image has run for 3,600 s (R473, R559). -/
def opRollback3600 (s : State) : State := match s.fw.trial with
  | none => s
  | some _ => if !s.kp.ready then s else rollbackAdvance (reach (s.fw.runSince + 3600000000000) s)

/-- A reset of cause 3 or 4 in the restart or boot window of a trial slot returns to the previous slot (R559). -/
def trialFallback (cause : Nat) (s : State) : State :=
  if s.fw.trial.isSome && (cause == 3 || cause == 4) && s.wdg.window != .timeout then
    let bad := b2n s.fw.active
    let s := { s with fw := { s.fw with
      active := !s.fw.active, inactiveValid := false, trial := none, activating := false } }
    record 0x1005 0 (items [bad, cause]) s
  else s

/-! ### The lamp room (R489, R494 to R497) -/

/-- One fuse word with its readings at the three references (R494): normal, tight-high, tight-low. -/
def fuseMarginal (x : Nat × List Word) : Bool :=
  !(x.2.getD 0 0 == x.2.getD 1 0 && x.2.getD 0 0 == x.2.getD 2 0)

/-- Positions that read 1 at any reference. -/
def fuseAny (rs : List Word) : Nat := pop (rs.foldl (· ||| ·) 0)

/-- What a word's class makes of its readings (R495 to R497); classes: 0 DEBUG_LOCK, 1 keeper counter, 2 lamp-room
counter, 3 VS_LOCK, 4 identity, 5 trim. A counter has two words, 32 positions each: `low` is what the other shows. -/
def fuseEffect (cls : Nat) (other : Nat) (x : Nat × List Word) (s : State) : State :=
  let n := fuseAny x.2
  if cls = 0 then { s with sec := { s.sec with debugLock := s.sec.debugLock || decide (0 < n) } }
  else if cls = 1 then { s with sec := { s.sec with svnKeeper := max s.sec.svnKeeper (n + other) } }
  else if cls = 2 then { s with sec := { s.sec with svnLroom := max s.sec.svnLroom (n + other) } }
  else if cls = 3 then { s with sec := { s.sec with vsLock := s.sec.vsLock || decide (0 < n) } }
  else if fuseMarginal x then { s with sec := { s.sec with margHold := true } } else s

/-- A word found MARGINAL for the first time is recorded. -/
def fuseFirst (temp : Int) (x : Nat × List Word) (s : State) : State :=
  if fuseMarginal x && !s.sec.margSeen.contains x.1 then
    record 0x0D0E 1 (items ([x.1] ++ (x.2.take 3).map BitVec.toNat) ++ itemInt temp)
      { s with sec := { s.sec with margSeen := s.sec.margSeen ++ [x.1] } }
  else s

/-- FUSE_READ: every word with its class, its number and its three readings, at a temperature (R494). -/
def opFuseRead (ws : List (Nat × Nat × List Word)) (temp : Int) (s : State) : State :=
  let other (cls num : Nat) : Nat :=
    ((ws.filter fun y => y.1 == cls && y.2.1 != num).map fun y => fuseAny y.2.2).foldl (· + ·) 0
  let s := ws.foldl (fun s y => fuseFirst temp (y.2.1, y.2.2) (fuseEffect y.1 (other y.1 y.2.1) (y.2.1, y.2.2) s)) s
  { s with sec := { s.sec with margCount := (ws.filter fun y => fuseMarginal (y.2.1, y.2.2)).length, margTs := now s } }

/-- LAMP_ROOM_RESTART: requests in its mailbox wait and are then served; key stores, sessions and Beam traffic continue, so
nothing the module holds changes (R489). -/
def opLampRoomRestart (s : State) : State := s

/-! ### The meanings -/

/-- FW_WRITE (R553). -/
def execFwWrite (sign : Bool) (sig : SigCheck) (signer : Nat) (writeOk : Bool) (s : State) : Out :=
  .next (opFwWrite sign sig signer writeOk s)
/-- ACTIVATE (R555). -/
def execActivate (s : State) : Out := .next (opActivate s)
/-- FW_STATUS (R461). -/
def execFwStatus (s : State) : Out := .next (opFwStatus s)
/-- KEEPER_RESUME (R432). -/
def execKeeperResume (digestOk : Bool) (s : State) : Out := .next (opKeeperResume digestOk s)
/-- ROLLBACK_ADVANCED (R473). -/
def execRollbackAdvanced (s : State) : Out := .next (opRollback3600 s)
/-- FUSE_READ (R494). -/
def execFuseRead (ws : List (Nat × Nat × List Word)) (temp : Int) (s : State) : Out := .next (opFuseRead ws temp s)
/-- LAMP_ROOM_RESTART (R489). -/
def execLampRoomRestart (s : State) : Out := .next (opLampRoomRestart s)

end Sys2Proof.Machine
end

