-- ==== Sys2Proof/Machine/Load.lean ====
section
/-!
DEFINITION. The load checks of a program image, by the check classes of R449, each from the rule that states it: task
character (R26 to R28, R45, R108), chart (R28, R63), placement (R30, R67, R69, R89, R194, R510), I/O settings, the reflex
configuration (R162 to R168), twin settings (R203, R208) and network mappings (R361, R370, R373, R378, R379).
-/
namespace Sys2Proof.Machine

/-! ### Sizes and phase lengths (R44) -/

/-- The tasks a program defines. -/
def imgTasks (p : ProgImage) : List Nat := (List.range 16).filter fun k => (tabGet ({} : TaskCfg) p.tasks k).used

/-- A task's character in a program. -/
def imgTask (p : ProgImage) (k : Nat) : TaskCfg := tabGet {} p.tasks k

/-- A task's chart in a program. -/
def imgChart (p : ProgImage) (k : Nat) : List GroupCfg := tabGet [] p.chart k

/-- Bytes of L and N of R44: declared pages of the local regions with the mode page, and of the network regions. -/
def viewBytes (c : TaskCfg) : Nat :=
  256 * ((c.pages.filter fun g => decide (g ≤ 3) || decide (16 ≤ g)).length + 1)

/-- Output bytes a task owns. -/
def ownBytes (p : ProgImage) (k : Nat) : Nat :=
  (p.outOwners.filter fun o => o.task == k).foldl (fun n o => n + o.len) 0

/-- T_OUT in fc (R44). -/
def tOutFc (p : ProgImage) (k : Nat) : Nat := (ownBytes p k + 15) / 16 + if p.twin.en then 871 else 24

/-- Rounded up quotient. -/
def ceilDiv (a b : Nat) : Nat := (a + b - 1) / max 1 b

/-! ### Class 3: task character (R26 to R28, R45, R108) -/

/-- PERIOD, PHASE, STROBE_OFFSET and WATCHDOG of a cyclic task (R27, R28); 500 fc are 1 µs. -/
def cyclicOk (p : ProgImage) (k : Nat) : Bool :=
  let c := imgTask p k
  let t := tOutFc p k
  inR (if p.twin.en then 50 else 20) c.period 10000000 && decide (c.phase < c.period) &&
    decide (t + 1000 ≤ 500 * c.strobeOffset) && decide (c.strobeOffset ≤ c.period) && decide (2 ≤ c.watchdog) &&
    (if c.vital then decide (500 * c.watchdog + t ≤ 500 * c.strobeOffset)
     else decide (c.watchdog ≤ min (4 * c.period) 10000000)) && c.trigger == .none

/-- The trigger of an event task (R45). -/
def triggerOk (p : ProgImage) (k : Nat) : Bool := match (imgTask p k).trigger with
  | .none => true
  | .eventBit n => n + 8 == k
  | .instant => true
  | .diChange ch _ _ => !p.twin.en && decide (ch < 64)
  | .canFilter n f => !p.twin.en && decide (n < 4) && decide (f < 64)
  | .beamConn c => !p.twin.en && decide (c < 256)

/-- The character of one task. -/
def characterOk (p : ProgImage) (k : Nat) : Bool :=
  let c := imgTask p k
  (if isCyclic k then cyclicOk p k else inR 2 c.watchdog 10000000 && triggerOk p k) && c.tOut == tOutFc p k &&
    decide (c.priority ≤ 15) && decide (c.sector ≤ 15) && !(c.legacy && c.runAhead) && !(c.writesRetain && !c.retain) &&
    !c.retainShared && !((c.usesFrt || c.constLocal) && (c.vital || p.twin.en)) && c.pages.all fun g => decide (g < 256)

/-- Check class 3. -/
def loadTasks (p : ProgImage) : Bool :=
  p.tasks.all (fun x => decide (x.1 < 16)) && (imgTasks p).all (characterOk p)

/-! ### Class 4: the chart (R28, R63) -/

/-- Distinct values of a list. -/
def distinct (l : List Nat) : Nat := l.eraseDups.length

/-- The limits of one rung group. -/
def groupOk (c : GroupCfg) : Bool :=
  decide (c.wcet ≤ 2048) && decide (distinct (c.reads.map SlotRead.slot) ≤ 64) &&
    decide (distinct (c.pubs.map SlotPub.slot) ≤ 32) && distinct (c.pubs.map SlotPub.slot) == c.pubs.length

/-- Consumer depth of each slot after one more step along the chains of run-ahead consumer reads. -/
def depthStep (ch : List GroupCfg) (d : Tab Nat) : Tab Nat :=
  ch.foldl (fun t g =>
    let n := (g.reads.filter SlotRead.consumer).foldl (fun m r => max m (tabGet 0 d r.slot + 1)) 0
    g.pubs.foldl (fun t q => tabPut 0 t q.slot (max n (tabGet 0 t q.slot))) t) []

/-- No chain of consumer reads is deeper than 4. -/
def depthOk (ch : List GroupCfg) : Bool :=
  (depthStep ch (depthStep ch (depthStep ch (depthStep ch (depthStep ch []))))).all fun x => decide (x.2 ≤ 4)

/-- The chart of one task. -/
def chartOk (p : ProgImage) (k : Nat) : Bool :=
  let ch := imgChart p k
  let own := p.slots.filter fun c => c.owner == k
  decide (ch.length ≤ 65536) && ch.all groupOk && depthOk ch &&
    own.all (fun c => inR 1 c.width 255 && decide (c.slot < 65536) &&
      (List.range c.width).all fun j => decide (chartQuota ch c.slot c.width (j + 1) ≤ 255)) &&
    ch.all fun g => (g.reads.all fun r => own.any fun c => c.slot == r.slot) && g.pubs.all fun r => own.any fun c => c.slot == r.slot

/-- Check class 4. -/
def loadChart (p : ProgImage) : Bool :=
  decide (p.slots.length ≤ 65536) && distinct (p.slots.map SlotCfg.slot) == p.slots.length && (imgTasks p).all (chartOk p)

/-! ### Class 5: placement (R28, R30, R64, R67, R69, R89, R194, R510) -/

/-- A gallery's share of a program. -/
def imgGal (p : ProgImage) (g : Nat) : GalleryCfg := tabGet {} p.gal g

/-- Galleries of a sector in a program. -/
def imgSector (p : ProgImage) (sec : Nat) : List Nat := (List.range 16).filter fun g => (imgGal p g).sector == some sec

/-- The sector is split. -/
def sectorSplit (p : ProgImage) (sec : Nat) : Bool := (imgSector p sec).any fun g => (imgGal p g).split

/-- The physical ranges that can carry placed work of a gallery under a program, in the order of their logical numbers. -/
def imgRanges (s : State) (p : ProgImage) (g : Nat) : List Nat :=
  let x := { galOf s g with split := (imgGal p g).split, sparesCfg := (imgGal p g).spares }
  (List.range 16).filter fun r => rangeFit x r && !(spareList x).contains r

/-- The place of one rung group (R64, R194). -/
def placeOk (s : State) (p : ProgImage) (c : GroupCfg) : Bool :=
  let split := (imgGal p c.gallery).split
  match (imgRanges s p c.gallery)[if split then c.place / 2 else c.place]? with
  | none => false
  | some r => !(split && c.place % 2 == 1 && (rangeOf s c.gallery r).st == .half)

/-- The placement of one task (R28, R30, R64). -/
def taskPlaceOk (s : State) (p : ProgImage) (k : Nat) : Bool :=
  let c := imgTask p k
  let gs := imgSector p c.sector
  !gs.isEmpty && !(c.vital && (sectorSplit p c.sector || !s.id.variantV)) && !(c.legacy && !(gs.contains 0 || gs.contains 1)) &&
    (imgChart p k).all fun x => gs.contains x.gallery && placeOk s p x

/-- Bytes of the retain region with its blocks (R510). -/
def retainLen (p : ProgImage) : Nat :=
  p.retain.foldl (fun n r => n + r.2) 0 + 8 * (p.timers.filter fun x => x.2.retain && x.2.kind != .unused).length

/-- Runs of bytes do not overlap. -/
def runsApart : List (Nat × Nat) → Bool
  | [] => true
  | (a, n) :: rs => rs.all (fun (b, m) => decide (a + n ≤ b) || decide (b + m ≤ a)) && runsApart rs

/-- Check class 5, with SNAP_PERIOD (R515). -/
def loadPlace (s : State) (p : ProgImage) : Bool :=
  (List.range 16).all (fun g =>
    let c := imgGal p g
    decide (c.spares ≤ 4) && match c.sector with
      | none => true
      | some sec => decide (sec ≤ 15) && (imgSector p sec).all fun h => (imgGal p h).split == c.split) &&
    (imgTasks p).all (taskPlaceOk s p) && (p.snapPeriod == 0 || inR 10 p.snapPeriod 86400) && decide (retainLen p ≤ 131072) &&
    decide ((p.pages.filter fun x => decide (x.1 < 131072) && match x.2 with
      | .exchange _ => true
      | _ => false).length ≤ 64) &&
    runsApart (p.outOwners.map fun o => (o.off, o.len)) &&
    p.outOwners.all fun o => decide (o.off + o.len ≤ 65536) && (imgTask p o.task).used

/-! ### Class 6: I/O settings -/

/-- Digital I/O settings (R284, R287, R294, R297, R301). -/
def dioOk (c : DioCfg) : Bool :=
  c.di.all (fun x => decide (x.1 < 64) && decide (x.2.deb < 65536) && decide (x.2.tpSrc < 8)) &&
    c.tp.all (fun x => decide (x.1 < 8) && (!x.2.en || (inR 200 x.2.width 1000 && inR 10 x.2.period 10000))) &&
    c.pairs.all (fun x => decide (x.1 < 32) && (!x.2.en || (inR 1000 x.2.tDisc 10000000 &&
      (tabGet ({} : DiChCfg) c.di (2 * x.1)).deb == (tabGet ({} : DiChCfg) c.di (2 * x.1 + 1)).deb))) &&
    c.dout.all (fun x => decide (x.1 < 32) && (!(x.2.olEn || x.2.darkEn) || inR 50 x.2.pulseUs 300)) &&
    inR 20 c.stuckFilter 1000 && decide (c.cutPeriod ≤ 24)

/-- Loop settings (R309, R310, R312, R315, R321). -/
def loopOk (c : LoopCfg) : Bool :=
  c.ins.all (fun x =>
    let y := x.2
    decide (x.1 < 16) && !(y.hartEn && !y.filter5) && (!y.namurEn || inR 1 y.namurFilter 1000) &&
      (!y.supplyEn || (inR 80 y.utMin 200 && inR 250 y.rLoop 1000)) && (!y.hartEn || inR 5 y.hartPeriod 600) &&
      decide (y.band ≤ 4000)) &&
    c.outs.all fun x => decide (x.1 < 8) && inR 20 x.2.rbTol 1000

/-- A rate of 80 MHz / (brp × quanta) deviates from the declared one by at most 0.1 %. -/
def rateNear (q rate : Nat) : Bool :=
  decide (80000000 * 1000 ≤ q * rate * 1001) && decide (q * rate * 999 ≤ 80000000 * 1000)

/-- One CAN port's bit timing (R342 to R344). -/
def canTimingOk (c : CanCfg) : Bool :=
  let q := c.brp * (1 + c.tseg1 + c.tseg2)
  let d := c.dbrp * (1 + c.dtseg1 + c.dtseg2)
  inR 1 c.brp 32 && inR 2 c.tseg1 128 && inR 2 c.tseg2 32 && inR 1 c.sjw 32 && decide (c.sjw ≤ c.tseg2) &&
    decide (q ≤ 640) && decide (80 ≤ q) && rateNear q c.rate && !(c.triple && decide (q < 320)) && decide (c.tdco ≤ 127) &&
    (!c.fdEn || (inR 1 c.dbrp 8 && inR 1 c.dtseg1 32 && inR 1 c.dtseg2 16 && inR 1 c.dsjw 16 && decide (c.dsjw ≤ c.dtseg2) &&
      decide (10 ≤ d) && decide (d ≤ q) && rateNear d c.drate && (c.tdcEn || decide (80 ≤ d))))

/-- One CAN port (R345, R352, R358, R428). -/
def canOk (c : CanCfg) : Bool :=
  canTimingOk c && !(c.cmdEn && !c.fdEn) && decide (c.boDelay ≤ 10000) &&
    c.flts.all (fun x => decide (x.1 < 64) && decide (x.2.format ≤ 2) && decide (x.2.action ≤ 2) && decide (x.2.prio ≤ 7) &&
      decide (x.2.timeout < 65536)) &&
    c.txbs.all fun x => decide (x.1 < 64) && (!x.2.en || x.2.request || inR 1 x.2.divi 255)

/-- The ports an image configures. -/
def imgCan (p : ProgImage) : List CanCfg := (List.range 4).filterMap fun n => tabGet none p.can n

/-- Check class 6. -/
def loadIo (p : ProgImage) : Bool :=
  dioOk p.dio && loopOk p.loop && (imgCan p).all canOk && decide (((imgCan p).filter CanCfg.cmdEn).length ≤ 1)

/-! ### Class 7: the reflex configuration (R162, R163, R165, R168) -/

/-- Level of a cell: 64 cells a level. -/
def cellLevel (i : Nat) : Nat := i / 64

/-- A selector of cell i (R162, R163, R165). -/
def selOk (c : RfxCfg) (i sel : Nat) : Bool :=
  if sel < 0xC0 then true
  else if sel < 0x1C0 then (tabGet none c.taps (sel - 0xC0)).isSome
  else if sel < 0x1C2 then true
  else if 0x200 ≤ sel ∧ sel < 0x600 then decide (cellLevel (sel - 0x200) < cellLevel i)
  else false

/-- Selectors of a cell. -/
def cellSels (c : RfxCfg) (i : Nat) : List Nat :=
  let x := tabGet ({} : RfxCell) c.cells i
  [x.sel0, x.sel1, x.sel2, x.sel3]

/-- The sources in the cone of a cell, to a depth of `n` levels (R168). -/
def cone (c : RfxCfg) : Nat → Nat → List Nat
  | 0, _ => []
  | n + 1, i => (cellSels c i).flatMap fun x => if 0x200 ≤ x then cone c n (x - 0x200) else [x]

/-- An output-image byte is owned by a vital task. -/
def vitalByte (p : ProgImage) (off : Nat) : Bool := match ownerIn p off with
  | some k => (imgTask p k).vital
  | none => false

/-- Every request bit and tap in a cone belongs to a vital task (R168). -/
def coneVital (p : ProgImage) (c : RfxCfg) (i : Nat) : Bool := (cone c 16 i).all fun x =>
  if 0x80 ≤ x ∧ x < 0xC0 then vitalByte p (0x200 + (x - 0x80) / 8)
  else if 0xC0 ≤ x ∧ x < 0x1C0 then match tabGet none c.taps (x - 0xC0) with
    | some (o, _) => vitalByte p o
    | none => true
  else true

/-- Check class 7. -/
def loadRfx (s : State) (p : ProgImage) : Bool := match p.rfx with
  | none => true
  | some c =>
    c.cells.all (fun x => decide (x.1 < 1024) && (cellSels c x.1).all (selOk c x.1)) &&
      c.taps.all (fun x => match x.2 with
        | some (o, b) => decide (x.1 < 256) && decide (b < 8) && (ownerIn p o).isSome
        | none => true) &&
      (!s.id.variantV || (List.range 32).all fun n =>
        ([tabGet none c.offCell n, tabGet none c.onCell n].filterMap id).all fun i =>
          vitalByte p (n / 8) && coneVital p c i)

/-! ### Class 8: twin settings (R203, R208) -/

/-- One hyperperiod of the cyclic tasks, in µs. -/
def hyper (p : ProgImage) : Nat :=
  ((imgTasks p).filter isCyclic).foldl (fun h k => Nat.lcm h (max 1 (imgTask p k).period)) 1

/-- Link frames of one task over a hyperperiod: release and deadline in fc, and their number (R44, R213, R217). -/
def linkJobs (p : ProgImage) (k : Nat) : List (Nat × Nat × Nat) :=
  let c := imgTask p k
  let n := viewBytes c
  let copy := (n + 15) / 16
  let f := (n + 1023) / 1024
  (List.range (hyper p / max 1 c.period)).flatMap fun i =>
    let t := 500 * (c.phase + i * c.period)
    let st := t + 500 * c.strobeOffset
    [(t + copy, t + copy + 335 * f + 500, f), (st + (ownBytes p k + 15) / 16 - tOutFc p k, st - 28, 1)]

/-- All link frames of a program. -/
def linkAll (p : ProgImage) : List (Nat × Nat × Nat) := ((imgTasks p).filter isCyclic).flatMap (linkJobs p)

/-- Every frame can meet its deadline: the demand between any release and any deadline, behind one frame already on the
link, fits (assumption log, entry 60). -/
def linkDeadlines (p : ProgImage) : Bool :=
  (linkAll p).all fun a => (linkAll p).all fun d =>
    decide (d.2.1 ≤ a.1) ||
      decide (335 * (((linkAll p).filter fun j => decide (a.1 ≤ j.1) && decide (j.2.1 ≤ d.2.1)).foldl (fun n j => n + j.2.2) 1)
        ≤ d.2.1 - a.1)

/-- With one STATUS frame in 64, at most half of the 1,492 slots of any 1 ms. -/
def linkLoad (p : ProgImage) : Bool :=
  (linkAll p).all fun a =>
    decide (64 * ((linkAll p).filter fun j => decide (a.1 ≤ j.1) && decide (j.1 < a.1 + 500000)).foldl (fun n j => n + j.2.2) 0
      + 1492 ≤ 32 * 1492)

/-- Check class 8. -/
def loadTwin (s : State) (p : ProgImage) : Bool :=
  !p.twin.en || (s.id.variantV && inR 1 s.id.node 16383 && inR 1 p.twin.partnerNode 16383 && inR 1 p.twin.twinNode 16383 &&
    s.id.node != p.twin.partnerNode && s.id.node != p.twin.twinNode && p.twin.partnerNode != p.twin.twinNode &&
    inR 1 p.twin.startupWait 600 && inR 20 p.twin.xcutFilter 1000 && linkDeadlines p && linkLoad p)

/-! ### Class 9: network mappings (R361, R370, R373, R378, R379, R382, R384) -/

/-- Receive slots and FIFO windows, and transmit entries, of every port: their runs in the images (R349, R361). -/
def canRxRuns (p : ProgImage) : List (Nat × Nat) := (imgCan p).flatMap fun c =>
  (c.flts.filter fun x => x.2.en && x.2.action == 1).map (fun x => (0x1000 + 16 * x.2.slot, 80)) ++
    (if c.fifoTask.isSome then [(0x1000 + c.fifoOff, 2576)] else [])

/-- Transmit entries. -/
def canTxRuns (p : ProgImage) : List (Nat × Nat) := (imgCan p).flatMap fun c =>
  (c.txbs.filter fun x => x.2.en).map fun x => (0x1000 + 16 * x.2.map, 68)

/-- The runs lie in a region and do not overlap. -/
def runsIn (lo hi : Nat) (l : List (Nat × Nat)) : Bool :=
  l.all (fun x => decide (lo ≤ x.1) && decide (x.1 + x.2 ≤ hi)) && runsApart l

/-- One receive connection (R373, R375, R384). -/
def brxOk (c : BeamRxCfg) : Bool :=
  !c.en || (inR 1 c.conn 0xEFFF && inR 1 c.node 16383 && decide (c.len ≤ 1024) && inR 1 c.timeout 65535 &&
    inR 100 c.ageLimit 6553500 && c.ageLimit % 100 == 0 && c.safety != 0)

/-- One transmit connection (R373, R375, R378, R379). -/
def btxOk (p : ProgImage) (c : BeamTxCfg) : Bool :=
  !c.en || (inR 1 c.conn 0xEFFF && decide (c.len ≤ 1024) && c.off % 4 == 0 && inR 1 c.divi 255 && isCyclic c.task &&
    (imgTask p c.task).used && c.safety != 0)

/-- Frames of transmit connections that meet `f`, with release instants in µs over the cycles of one common period. -/
def beamJobs (p : ProgImage) (f : BeamTxCfg → Bool) : List (Nat × Nat) :=
  let l := (p.beamTx.map Prod.snd).filter fun c => c.en && f c
  let h := l.foldl (fun h c => Nat.lcm h (max 1 ((imgTask p c.task).period * c.divi))) 1
  l.flatMap fun c =>
    let t := imgTask p c.task
    let per := max 1 (t.period * c.divi)
    (List.range (h / per)).map fun i => (t.phase + t.strobeOffset + i * per, 48 + c.len + 20)

/-- R370: at most 128 frames at one strobe instant, and class 2 within 40 % of 1 Gbit/s, 50,000 bytes, in any 1 ms. -/
def beamLoadOk (p : ProgImage) : Bool :=
  let vital (c : BeamTxCfg) : Bool := (imgTask p c.task).vital
  (decide (p.beamTx.length ≤ 128) ||
    (beamJobs p fun _ => true).all fun a => decide (((beamJobs p fun _ => true).filter fun b => b.1 == a.1).length ≤ 128)) &&
    (beamJobs p vital).all fun a =>
      decide (((beamJobs p vital).filter fun b => decide (a.1 ≤ b.1) && decide (b.1 < a.1 + 1000)).foldl (fun n b => n + b.2) 0
        ≤ 50000)

/-- Check class 9. -/
def loadNet (p : ProgImage) : Bool :=
  runsIn 0x1080 0x8000 (canRxRuns p) && runsIn 0x1000 0x8000 (canTxRuns p) &&
    p.beamRx.all (fun x => decide (x.1 < 256) && brxOk x.2) && p.beamTx.all (fun x => decide (x.1 < 256) && btxOk p x.2) &&
    runsIn 0x8000 0x10000 ((p.beamTx.filter fun x => x.2.en).map fun x => (x.2.off, x.2.len)) && beamLoadOk p

/-! ### The check -/

/-- The first check class that fails, after signature and format (R449). -/
def loadCheck (s : State) (p : ProgImage) : Option Nat :=
  if !loadTasks p then some 3
  else if !loadChart p then some 4
  else if !loadPlace s p then some 5
  else if !loadIo p then some 6
  else if !loadRfx s p then some 7
  else if !loadTwin s p then some 8
  else if !loadNet p then some 9
  else none

/-! ### An image takes effect (R528, R551) -/

/-- A gallery takes the settings of an image: its sector, its lockstep mode, its spares and its memories (R89, R92, R197,
R430). -/
def galTake (p : ProgImage) (g : Nat) (s : State) : State :=
  let c := imgGal p g
  match c.sector with
  | none =>
    let s := if (galOf s g).sstate = .unassigned then s else unitDown g 2 s
    galMod g (fun x => { x with sstate := .unassigned, sector := 0, split := false, imem := [], data := [] }) s
  | some sec =>
    let s := galMod g (fun x => { x with
      sstate := .stop, sector := sec, split := c.split, sparesCfg := c.spares, viol := {}, raSuspend := 0 }) s
    if (galOf s g).power = .on then
      let s := galPlace g s
      let s := (List.range 16).foldl (fun s r => rangeMod g r (fun y =>
        if y.st = .inService ∧ y.split ≠ c.split then { y with changing := true, chgTrig := 1, chgSplit := c.split }
        else if y.st = .spare ∧ y.split then { y with changing := true, chgTrig := 1, chgSplit := false }
        else y) s) s
      if (galOf s g).memReady then galLoad g s else s
    else galWake g 1 s

/-- The keeper's CAN enables follow the image (R528). -/
def canEnables (p : ProgImage) (s : State) : State :=
  let m : BitVec 15 := BitVec.ofNat 15 (maskN (fun n => (tabGet none p.can n).isSome) 4)
  { s with clk := { s.clk with en := (s.clk.en &&& ~~~15#15) ||| m } }

/-- The recorder's limits of an image, their buckets full (R520). -/
def limitsTake (p : ProgImage) (s : State) : State :=
  { s with rcd := { s.rcd with
      limits := p.limits
      buckets := s.rcd.buckets.filter fun b => !(p.limits.any fun l => l.1 == b.1) || b.2.suppressed != 0 } }

/-- The memories, blocks, slots and outputs that the image names (R551), and every task out of scan. -/
def memTake (p : ProgImage) (s : State) : State :=
  { s with fab := { s.fab with
      lamps := [], slots := [], exPub := [], gmem := p.gmem, outImg := p.safeOut
      blocks := p.timers.foldl (fun t x => if x.2.kind = .unused then t else tabPut {} t x.1 (tcCold x.2)) []
      frt := [], tasks := (imgTasks p).foldl (fun t k => tabPut {} t k { mode := .notScanning }) [] } }

/-- A verified image becomes the program (R449): every block takes its settings. -/
def imageTake (p : ProgImage) (s : State) : State :=
  let s := memTake p { s with img := some p }
  let s := (List.range 16).foldl (fun s g => galTake p g s) s
  let s := canEnables p (canLoad p.can (loopLoad p.loop (dioLoad p.dio s)))
  let s := beamRestarted (rfxLoad p.rfx s)
  let s := { s with
    twin := { s.twin with cfg := p.twin, cfgLoaded := true, tasks := [] }
    nvm := { s.nvm with snapPeriod := p.snapPeriod } }
  limitsTake p s

end Sys2Proof.Machine
end

