-- ==== Sys2Proof/Machine/CmdProg.lean ====
section
/-!
DEFINITION. Commands of group 0x02, program and tasks (R449 to R452), the start of a run (R58 to R60, R273, R301), and
stopping (R274).
-/
namespace Sys2Proof.Machine

/-! ### Program load (R449, R551) -/

/-- The start-up search for the partner begins (R231); STARTUP_WAIT is in units of 100 ms. -/
def searchBegin (s : State) : State :=
  let s := modeChange 12 (fun s => { s with mode := { s.mode with role := .noRole } }) s
  { s with twin := { s.twin with search := true, searchEnd := some (now s + s.twin.cfg.startupWait * 100000000) } }

/-- The role follows TWIN_EN of the program (R204; assumption log, entry 61). -/
def roleForImage (s : State) : State :=
  if s.twin.cfg.en then if s.mode.role = .solo then searchBegin s else s
  else if s.mode.role = .solo then s
  else
    let s := modeChange 12 (fun s => { s with mode := { s.mode with role := .solo } }) s
    { s with twin := { s.twin with search := false, searchEnd := none, pend := none, relinq := none, rotateAt := none } }

/-- The next tag region write that a region asks for (R590). -/
def tagAsk (r : Nat) (s : State) : State :=
  { s with tag := { s.tag with regions := tabMod {} s.tag.regions r fun x => { x with isPending := true } } }

/-- The image of the inactive bank becomes active (R449). -/
def programSwap (s : State) : State := match s.imgAlt with
  | none => s
  | some p =>
    let s := { s with
      imgAlt := s.img, fw := { s.fw with bank := !s.fw.bank }
      sec := { s.sec with imgOwner := s.sec.ownerHash, imgSigner := s.sec.altSigner, altSigner := s.sec.imgSigner } }
    tagAsk 1 (roleForImage (imageTake p s))

/-- The most significant word of an image identity (assumption log, entry 62). -/
def idWord (n : Nat) : Word := w32 (n / 2 ^ 96)

/-- The answer to a completed PROGRAM_LOAD. -/
def loadAns (s : State) : Ans :=
  { rc := 0, data := [idWord ((s.img.map ProgImage.id).getD 0), w32 ((s.img.map ProgImage.layout).getD 0)] }

/-- A load that fails a check: the bank is empty, and the reply names the byte offset and the check class. -/
def loadRefused (q : Req) (cls off : Nat) (s : State) : State :=
  longWith q { rc := 0x0303, data := [w32 off, w32 cls] } { s with imgAlt := none }

/-- The loader's verdict: a check class that fails and the byte offset. -/
def loadVerdict (x : Loaded) (s : State) : Option (Nat × Nat) := match x with
  | .bad cls off _ _ => some (cls, off)
  | .good p off _ => (loadCheck s p).map fun c => (c, off)

/-- A signature that fails is recorded; kind 1 is a program image (R480). -/
def loadRecord (x : Loaded) (s : State) : State := match x with
  | .bad 1 _ cause signer => record 0x0D0A 0 (items [1, cause] ++ item128 signer) s
  | _ => s

/-- The verified image stands in the inactive bank. -/
def loadStore (x : Loaded) (s : State) : State := match x with
  | .bad _ _ _ _ => { s with imgAlt := none }
  | .good p _ signer => { s with imgAlt := some p, sec := { s.sec with altSigner := signer } }

/-- A verified program becomes active, and the command is answered. -/
def effLoad (_ : Req) (s : State) : Option Ans × State :=
  let s := viewFollow s (programSwap s)
  (some (loadAns s), s)

/-- PROGRAM_LOAD (R449); in a twin it is passed to the partner with its image. -/
def opProgramLoad (x : Loaded) (s : State) : State :=
  command 0x0201 (fun q s =>
    if s.mode.exec ≠ .stop then (some (rcAns 0x0302), s)
    else if transitionPending s then (some (rcAns 0x0204), s)
    else if longBusy s 0x0201 then (some (rcAns 0x0202), s)
    else match takeTransfer 1 q s with
    | none => (some (rcAns 0x0304), s)
    | some (_, s) => match loadVerdict x s with
      | some (cls, off) => (none, loadRefused q cls off (loadRecord x s))
      | none =>
        let s := loadStore x s
        if partnerThere s then
          (none, twinSend (twinMessage 1 q 0 0) (longStart q { s with kp := { s.kp with
            twinWait := s.kp.twinWait ++ [(q, now s + 10000000)] } }))
        else
          let s := viewFollow s (programSwap s)
          (none, longWith q (loadAns s) s)) s

/-- Code of START. -/
def startCode : StartKind → Nat
  | .stop => 0 | .cold => 1 | .warm => 2

/-- PROGRAM_INFO. -/
def opProgramInfo (s : State) : State :=
  readCmd 0x0202 (fun _ s =>
    let p := s.img
    let n (f : Nat → Bool) : Nat := ((tasksUsed s).filter f).length
    { rc := 0
      data := [idWord ((p.map ProgImage.id).getD 0), w32 ((p.map ProgImage.layout).getD 0), regRfxHead s 4,
        bitF s.fw.bank 0 ||| fldF (startCode ((p.map ProgImage.start).getD .stop)) 8,
        fldF (n isCyclic) 0 ||| fldF (n fun k => !isCyclic k) 8] }) s

/-! ### Starting a run (R58 to R60, R273, R301) -/

/-- A verified image of the current owner is there (R480). -/
def imageOk (s : State) : Bool := s.img.isSome && s.sec.imgOwner == s.sec.ownerHash

/-- Conditions of STOP to RUN beside the program image (R273). -/
def runMode (s : State) : Bool :=
  s.mode.exec == .stop && !s.mode.maint && s.mode.power == .normal && s.mode.role != .noRole

/-- The restart kind a run asks for: whether it is warm. -/
def runWarm (kind : Nat) (s : State) : Bool :=
  if kind = 0 then (s.img.map ProgImage.start).getD .stop == .warm else kind == 2

/-- Checks of RUN (R450, R60). -/
def chkRun (q : Req) (s : State) : Option Ans :=
  if scanning s then some (rcAns 0x0103)
  else if !runMode s then some (rcAns 0x0302)
  else if transitionPending s then some (rcAns 0x0204)
  else if !imageOk s then some (rcAns 0x0304)
  else if s.sec.margHold then some (rcAns 0x0404)
  else if runWarm (arg q 0 % 4) s && (retainSource s).isNone && !(argW q 0).getLsbD 8 then some (rcAns 0x0304)
  else none

/-- A run start is declared: its restart is fixed and the cut test begins (R301). -/
def runDeclare (warm powerUp : Bool) (t : Nat) (s : State) : State :=
  let s := { s with
    mode := { s.mode with declared := s.mode.declared ++ [⟨.runStart warm powerUp, t⟩] }
    wdg := { s.wdg with repeatHold := false } }
  if s.dio.configured ∧ fieldOn s 1 ∧ s.dio.cutTest = none then cutTestStart [0, 1, 2, 3] false s else s

/-- RUN: the restart that applies and the start instant `t` are fixed, and answered before the cut test (R443). -/
def effRun (t : Nat) (q : Req) (s : State) : Option Ans × State :=
  let ask := runWarm (arg q 0 % 4) s
  let src := if ask then retainSource s else none
  let w := match src with
    | some a => 2 + (if a.kind ≤ 2 then 0 else 256)
    | none => 1
  (some { rc := if ask ∧ src.isNone then 0x0102 else 0, data := w32 w :: words64 t }, runDeclare src.isSome false t s)

/-- The start instant of a run: far enough ahead for the cut test of four groups (assumption log, entry 63). -/
def runInstant (s : State) : Nat := now s + 10000000

/-- A stored image that the current owner's certificate does not verify is recorded when a run asks for it (R480). -/
def runRecord (s : State) : State := match s.kp.queue with
  | q :: rest =>
    if q.opcode = 0x0210 ∧ s.kp.ready ∧ !modeRefused q { s with kp := { s.kp with queue := rest } } ∧ runMode s ∧
        !transitionPending s ∧ s.img.isSome ∧ !imageOk s then
      record 0x0D0A 0 (items [1, 1] ++ item128 s.sec.imgSigner) s
    else s
  | [] => s

/-- RUN (R450). -/
def opRun (s : State) : State := twinWide 0x0210 chkRun (fun q s => effRun (runInstant s) q s) (runRecord s)

/-- Counters of the fabric's galleries return to 0 (R96, R201). -/
def coldFab (s : State) : State :=
  { s with fab := { s.fab with gal := (s.fab.gal.map fun (g, x) => (g, { x with
      eccCorr := 0, eccUncorr := 0, raCommit := 0, raSquash := 0, raSquashFc := 0, raFull := 0, slotWaitFc := 0
      groupCnt := 0, wakeCnt := 0, relocCnt := 0
      ranges := (x.ranges.map fun (r, y) => (r, { y with
        mismatchCnt := 0, transientCnt := 0, lbistCnt := 0, snapCnt := 0, snapStall := 0, joinCnt := 0
        splitCnt := 0 })).filter fun y => y.2 != {} })).filter fun x => x.2 != {} } }

/-- Counters of the field I/O return to 0 (R180, R304, R305, R324, R338, R362). -/
def coldIo (s : State) : State :=
  let d := { s.dio with
    pairFaultCnt := 0, tpFaultCnt := 0, missingCnt := 0, shortCnt := 0, openCnt := 0, stuckCnt := 0, testCnt := 0
    skipCnt := 0, cutCnt := 0, clampCnt := 0 }
  let r := { s.rfx with mismatchCnt := 0, laneCnt := 0, cfgFaultCnt := 0, offActCnt := 0, proofDiffCnt := 0 }
  let l := { s.loop with namurCnt := 0, starvedCnt := 0, compCnt := 0, rbCnt := 0, hartTx := 0, hartErr := 0, hartPt := 0 }
  let b := s.buoy.socks.map fun (n, x) => (n, { x with authCnt := 0, authFailCnt := 0, surgeCnt := 0 })
  let c := s.can.map fun (n, p) => (n, { p with
    hits := [], txCnt := 0, rxCnt := 0, noMatch := 0, ovfCnt := 0, lostCnt := 0, cancelCnt := 0, arbCnt := 0, errCnt := 0
    busOffCnt := 0, remoteCnt := 0 })
  { s with
    dio := d, rfx := r, loop := l, can := c.filter fun x => x.2 != {}
    buoy := { s.buoy with socks := b.filter fun x => x.2 != {} } }

/-- Counters of the network, of time and of the twin return to 0 (R243, R387, R412). -/
def coldNet (s : State) : State :=
  let n := { s.net with
    ports := (s.net.ports.map fun (p, x) => (p, { x with
      txCnt := 0, rxCnt := 0, fcsErr := 0, nonIp := 0, linkLoss := 0 })).filter fun x => x.2 != {}
    fwHit := [], fwNoMatch := 0, prpDup := 0, prpWrong := 0, prpUniqA := 0, prpUniqB := 0, prpUntagged := 0, prpSup := 0 }
  let b := { s.beam with
    txCnt := 0, rxCnt := 0, noConn := 0, auth := 0, crc := 0, format := 0, time := 0, dup := 0, late := 0, old := 0
    resync := 0, conflict := 0, txLate := 0 }
  let t := { s.time with
    switchCnt := 0, retargetCnt := 0, disqualCnt := 0, holdCnt := 0, stepCnt := 0, schOk := 0, schLate := 0, schPast := 0 }
  let w := { s.twin with
    frameTx := 0, frameRx := 0, hdrErr := 0, crcErr := 0, lockLoss := 0, syncRej := 0, snapMiss := 0, digMiss := 0
    diverge := 0, digMismatch := 0, switchCnt := 0, xcutCnt := 0 }
  { s with net := n, beam := b, time := t, twin := w, kp := { s.kp with mgmtBusy := 0 } }

/-- A cold restart clears the counters that only it clears. -/
def coldCounters (s : State) : State := coldNet (coldIo (coldFab s))

/-- A sector owns a channel of a group both of whose cut elements failed (R301). -/
def cutBars (s : State) (sec : Nat) : Bool :=
  (List.range 4).any fun g => (groupSectors s g).contains sec && (dgrpOf s g).aFail && (dgrpOf s g).bFail

/-- A sector starts with the run: in RUN with its cuts closed, or in the safe state where its ranges cannot serve its chart
(R91) or its cut test failed (R301). -/
def sectorStart (s : State) (sec : Nat) : State :=
  if sectorFits s sec && !cutBars s sec then
    cutsClose (fun g => (groupSectors s g).contains sec) (setSector sec .run s)
  else setSector sec .safe s

/-- Every task restarts at `t`; those of a sector that starts in the safe state wait there. -/
def tasksRestart (first : FirstKind) (src : Option RetArea) (t : Nat) (s : State) : State :=
  let s := (((tasksUsed s).map fun k => (taskCfg s k).sector).eraseDups).foldl sectorStart s
  (tasksUsed s).foldl (fun s k =>
    let s := taskRestart k first src t s
    if sectorState s (taskCfg s k).sector = .safe then
      taskMod k (fun x => { x with mode := .sectorSafe, nextAt := none }) s
    else s) s

/-- The periodic cut test and snapshot are counted from the start of the run (R301, R515). -/
def runTimers (s : State) : State :=
  { s with
    dio := { s.dio with cutNext := now s + s.dio.cfg.cutPeriod * 3600000000000 }
    nvm := { s.nvm with snapDue := if s.nvm.snapPeriod = 0 then none else some (now s + s.nvm.snapPeriod * 1000000000) } }

/-- What ends as a run begins: forcing, and with a cold restart its counters; a warm restart without a source is recorded
(R60, R277). -/
def runPrep (warm : Bool) (src : Option RetArea) (s : State) : State :=
  let s := if warm && src.isNone then record 0x0108 0 (items [fallbackReason s]) s else s
  let s := forcesDrop (fun _ => true) 2 (counterInc 6 s)
  if src.isNone then coldCounters s else s

/-- The tasks, the field and the network restart, and EXEC is RUN (R58). -/
def runGo (src : Option RetArea) (s : State) : State :=
  let s := setExec 1 .run s
  let s := tasksRestart (if src.isSome then .warm else .cold) src (now s) s
  aoUpdate (latchUpdate (runTimers (beamRestarted (pairsRestart (diRestartCounts (canRestarted s))))))

/-- The restart is recorded (R59). -/
def runNote (powerUp : Bool) (src : Option RetArea) (s : State) : State := match src with
  | some a => recWarm a s
  | none => recCold (if powerUp then 1 else 2) s

/-- A run begins: the restart of R58 with the retain source of R59, read before RUN_NUMBER increments. -/
def runBegin (warm powerUp : Bool) (s : State) : State :=
  let s := editFlush s
  let src := if warm then retainSource s else none
  runNote powerUp src (runGo src (runPrep warm src s))

/-! ### Stopping (R274) -/

/-- Checks of STOP. -/
def chkStop (_ : Req) (s : State) : Option Ans :=
  if s.mode.exec = .stop then some (rcAns 0x0103)
  else if s.mode.exec = .safe then some (rcAns 0x0302)
  else if transitionPending s then some (rcAns 0x0204)
  else none

/-- T_stop: 1 ms after the decision, or 2 ms in a twin. -/
def stopInstant (s : State) : Nat := now s + (if twinOn s then 2000000 else 1000000)

/-- STOP: T_stop is declared; a proof run ends, and so does a rejoin (R254, R269). -/
def effStop (t : Nat) (q : Req) (s : State) : Option Ans × State :=
  let s := proofAbort 8 s
  let s := if s.mode.role = .principal then rejoinFail 6 s else s
  (some { rc := 0, data := words64 t },
    { s with mode := { s.mode with declared := s.mode.declared ++ [⟨.stop ((argW q 0).getLsbD 0), t⟩] } })

/-- STOP (R274). -/
def opStop (s : State) : State := twinWide 0x0211 chkStop (fun q s => effStop (stopInstant s) q s) s

/-- The declared stop: IMMEDIATE and T_stop. -/
def stopDecl (s : State) : Option (Bool × Nat) := s.mode.declared.findSome? fun d => match d.kind with
  | .stop imm => some (imm, d.ts)
  | _ => none

/-- T_STOP_REACHED: with IMMEDIATE every task abandons its cycle; else those without a strobe to come end now, and the
others at their first strobe (R274). -/
def opStopReached (s : State) : State := match stopDecl s with
  | none => s
  | some (imm, t) =>
    if s.mode.stopStage ≠ 0 ∨ !scanning s then s
    else
      let s := reach t s
      let s := { s with mode := { s.mode with stopStage := 1, stopImm := imm } }
      let fin (k : Nat) (s : State) : State :=
        taskMod k (fun x => { x with ended := true, nextAt := none, held := none }) s
      let s := if imm then
          (tasksUsed s).foldl (fun s k => if (taskOf s k).mode = .running then fin k (cycleAbandon k .running s) else s)
            (lampsStop (fun _ => true) s)
        else (tasksUsed s).foldl (fun s k =>
          if !isCyclic k && (taskOf s k).phase == .idle then fin k s else s) s
      stopTry s

/-- The stop is over: no task scans, and the running sectors are in STOP (R187, R274). -/
def stopTasks (s : State) : State :=
  let s := { s with mode := { s.mode with
    stopStage := 0, declared := s.mode.declared.filter fun d => match d.kind with
      | .stop _ => false
      | _ => true } }
  let s := (tasksUsed s).foldl (fun s k => taskMod k (fun x => { x with
    mode := .notScanning, phase := .idle, ended := false, nextAt := none }) s) s
  (((tasksUsed s).map fun k => (taskCfg s k).sector).eraseDups).foldl
    (fun s sec => if sectorState s sec = .run then setSector sec .stop s else s) s

/-- STOP_DONE: the stop save has ended, or none is written; EXEC becomes STOP and the running sectors are in STOP (R187,
R274). -/
def opStopDone (s : State) : State :=
  if s.mode.stopStage = 3 then
    let s := stopTasks (editFlush (setExec 2 .stop s))
    record 0x0116 0 (items [b2n s.mode.stopImm, b2n s.mode.stopSaveWritten])
      { s with nvm := { s.nvm with snapDue := none } }
  else s

/-! ### Tasks, sectors and ranges (R451, R193) -/

/-- State code of a task. -/
def taskCode (s : State) (k : Nat) : Nat :=
  if !(taskCfg s k).used then 0
  else match (taskOf s k).mode with
    | .undefined => 0 | .running => if scanning s then 1 else 4 | .stopped => 2 | .sectorSafe => 3 | .notScanning => 4

/-- TASK_STATUS (R39). -/
def opTaskStatus (s : State) : State :=
  readCmd 0x0212 (fun q s =>
    { rc := 0, data := w32 (taskCode s (arg q 0)) :: (List.range 8).map (statusWord s (arg q 0)) }) s

/-- Checks of TASK_RESTART. -/
def chkTaskRestart (q : Req) (s : State) : Option Ans :=
  if !scanning s then some (rcAns 0x0302)
  else if (taskOf s (arg q 0)).mode ≠ .stopped then some (rcAns 0x0304)
  else none

/-- TASK_RESTART: a cold restart of the task's own variables (R53). -/
def effTaskRestart (q : Req) (s : State) : Option Ans × State :=
  let k := arg q 0
  let s := forcesDrop (fun f => forceIn s k f.kind f.index) 2 s
  (some (rcAns 0), recCold 4 (taskRestart k .cold none (now s) s))

/-- TASK_RESTART (R451). -/
def opTaskRestart (s : State) : State := twinWide 0x0213 chkTaskRestart effTaskRestart s

/-- SECTOR_RESTART (R91, R191, R192). -/
def opSectorRestart (s : State) : State :=
  simple 0x0214 (fun q s =>
    if !scanning s || twinOn s then some 0x0302
    else if sectorState s (arg q 0) ≠ .safe || !sectorFits s (arg q 0) then some 0x0304
    else none)
    (fun q s => (rcAns 0, sectorRestart (arg q 0) (now s) s)) s

/-- RANGE_RETEST (R193, R451). -/
def opRangeRetest (s : State) : State :=
  command 0x0215 (fun q s =>
    let g := arg q 0 / 16
    let r := arg q 0 % 16
    let x := galOf s g
    let st := (rangeOf s g r).st
    if !s.mode.maint then (some (rcAns 0x0302), s)
    else if longBusy s 0x0215 then (some (rcAns 0x0202), s)
    else if x.sstate != .unassigned && x.sstate != .stop then (some (rcAns 0x0304), s)
    else if st ≠ .half ∧ st ≠ .retired then (some { rc := 0x0103, data := [0] }, s)
    else if x.power ≠ .on then (some (rcAns 0x0304), s)
    else
      let s := rangeMod g r (fun y => { y with retest := 3, retestBits := 0, was := st }) s
      (none, lbistStart g r .retest (longStart q s))) s

/-! ### IMAGE_READ (R452) -/

/-- Words of the view or of the owned output bytes. -/
def imageWords (s : State) (k a n : Nat) : List Word :=
  let t := taskOf s k
  (List.range n).map fun i =>
    let b := a + 4 * i
    if b < 0x10000 then if 0x700 ≤ b ∧ b < 0x1000 then 0 else wordAt t.view b
    else
      let o := b - 0x10000
      wordAt ((List.range 4).foldl (fun m j =>
        if ownerOf s (o + j) = some k then bytePut m (o + j) (byteAt t.commit (o + j)) else m) []) o

/-- IMAGE_READ. -/
def opImageRead (s : State) : State :=
  readCmd 0x0216 (fun q s =>
    let k := arg q 0
    let a := arg q 1
    let n := arg q 2
    let t := taskOf s k
    let e := a + 4 * n
    if a % 4 ≠ 0 ∨ 0x20000 < e ∨ (a < 0x10000 ∧ 0x10000 < e) ∨
        (a < 0x10000 ∧ !(List.range n).all fun i => viewOk s k (a + 4 * i)) then rcAns 0x0303
    else if (if a < 0x10000 then !t.started else !t.strobed) then rcAns 0x0201
    else { rc := 0, data := w32 (if a < 0x10000 then t.cycle else t.commitCycle) :: imageWords s k a n }) s

/-- FORCE_AUTO_RELEASE: the cycle of task k that begins once a vital point of it has been forced for 8 h releases the
point (R277). -/
def opForceAuto (k : Nat) (s : State) : State := match (taskOf s k).nextAt with
  | none => s
  | some t =>
    if s.fab.forces.any fun f => f.vital && decide (f.ts + forceHold ≤ t) && forceIn s k f.kind f.index then opScheduled k s
    else s

/-! ### The meanings -/

/-- PROGRAM_LOAD (R449). -/
def execProgramLoad (x : Loaded) (s : State) : Out := .next (opProgramLoad x s)
/-- PROGRAM_INFO (R449). -/
def execProgramInfo (s : State) : Out := .next (opProgramInfo s)
/-- RUN (R450). -/
def execRun (s : State) : Out := .next (opRun s)
/-- STOP (R274). -/
def execStop (s : State) : Out := .next (opStop s)
/-- T_STOP_REACHED (R274). -/
def execTStopReached (s : State) : Out := .next (opStopReached s)
/-- STOP_DONE (R274). -/
def execStopDone (s : State) : Out := .next (opStopDone s)
/-- TASK_STATUS (R39). -/
def execTaskStatus (s : State) : Out := .next (opTaskStatus s)
/-- TASK_RESTART (R451). -/
def execTaskRestart (s : State) : Out := .next (opTaskRestart s)
/-- SECTOR_RESTART (R451). -/
def execSectorRestart (s : State) : Out := .next (opSectorRestart s)
/-- RANGE_RETEST (R193). -/
def execRangeRetest (s : State) : Out := .next (opRangeRetest s)
/-- IMAGE_READ (R452). -/
def execImageRead (s : State) : Out := .next (opImageRead s)
/-- FORCE_AUTO_RELEASE (R277). -/
def execForceAutoRelease (k : Nat) (s : State) : Out := .next (opForceAuto k s)

end Sys2Proof.Machine
end

