-- ==== Sys2Proof/Machine/CmdEdit.lean ====
section
/-!
DEFINITION. Online editing (chapter 9; commands of group 0x03): the delta's checks (R245 to R247, R257, R260, R261), the
choice of a shadow host (R248), the proof start, the cut-over, the rollback and their ends (R251, R255 to R259).
-/
namespace Sys2Proof.Machine

/-! ### Checks of a delta -/

/-- Output-image bytes owned in either of two programs. -/
def ownedEither (a b : ProgImage) : List Nat :=
  ((a.outOwners ++ b.outOwners).flatMap fun o => (List.range o.len).map fun j => o.off + j).eraseDups

/-- A DO channel has an OFF, or an ON, cell. -/
def cellsOf (c : Option RfxCfg) (n : Nat) : Bool × Bool := match c with
  | none => (false, false)
  | some c => ((tabGet none c.offCell n).isSome, (tabGet none c.onCell n).isSome)

/-- R246. -/
def deltaMaskOk (live : ProgImage) (act : Option RfxCfg) (d : Delta) : Bool :=
  (ownedEither live d.image).all (fun o => ownerIn live o == ownerIn d.image o || maskAt d o == 0xFF) &&
    (!d.rfxChange || (List.range 32).all fun n =>
      let a := cellsOf act n
      let b := cellsOf d.image.rfx n
      (a.1 == b.1 || d.rfxMask.getLsbD n) && (a.2 == b.2 || d.rfxMask.getLsbD (32 + n)))

/-- Bytes that an entry touches on storage the old program uses. -/
def mapEntBytes (live : ProgImage) (e : MapEnt) : Nat :=
  let used (a : Nat) : Bool := match dAddrPlace a with
    | some q => tabGet .unassigned live.pages (dPage q) != .unassigned
    | none => false
  match e with
  | .move _ new n => if used new then n else 0
  | .initAt a bs => if used a then bs.length else 0
  | _ => 0

/-- B of R257 for the entries that meet `f`. -/
def mapBytes (live : ProgImage) (d : Delta) (f : MapEnt → Bool) : Nat :=
  (d.map.filter f).foldl (fun n e => n + mapEntBytes live e) 0

/-- The mapping time of task k in fc (R257). -/
def mapFc (live : ProgImage) (d : Delta) (k : Nat) : Nat :=
  ceilDiv (mapBytes live d fun e => mapTask d.image e == some k) 16 +
    ceilDiv (d.image.slots.filter fun c => c.owner == k).length 16

/-- Check CHECK of R261. -/
def editCheck (d : Delta) (live : ProgImage) (s : State) : Bool :=
  (loadCheck s d.image).isNone && deltaMaskOk live s.rfx.act d && decide (mapBytes live d (fun _ => true) ≤ 4096) &&
    inR 1 d.n 10000 && decide (d.mask.length ≤ 1024) &&
    d.affected.all fun k => decide (tabGet 0 d.worst k + mapFc live d k ≤ 500 * (imgTask d.image k).watchdog)

/-- A change that only a stop edit may make (R260). -/
def stopOnly (d : Delta) (live : ProgImage) : Bool :=
  (List.range 16).any (fun k => (imgTask live k).used != (imgTask d.image k).used ||
    ((imgTask live k).used && (imgTask live k).sector != (imgTask d.image k).sector)) ||
    (List.range 16).any (fun g => (imgGal live g).spares != (imgGal d.image g).spares) ||
    live.twin.en != d.image.twin.en || live.twin.twinNode != d.image.twin.twinNode ||
    live.twin.partnerNode != d.image.twin.partnerNode

/-- Code words of a rung group. -/
def groupCode (p : ProgImage) (c : GroupCfg) : List Word :=
  (List.range c.len).map fun i => tabGet 0 (imgGal p c.gallery).imem (c.entry / 4 + i)

/-- The new code lies beside the old: where it shares instruction memory with it, the words are the same. -/
def codeFits (d : Delta) (live : ProgImage) : Bool :=
  let olds := (imgTasks live).flatMap (imgChart live)
  d.affected.all fun k => (imgChart d.image k).all fun c =>
    decide (c.entry + 4 * c.len ≤ 0x200000) && olds.all fun o =>
      o.gallery != c.gallery || decide (o.entry + 4 * o.len ≤ c.entry) || decide (c.entry + 4 * c.len ≤ o.entry) ||
        (o.entry == c.entry && o.len == c.len && groupCode live o == groupCode d.image c)

/-- Bytes of the shadow copies of some tasks (R249): pages of 256 bytes, slots with their metadata, output bytes. -/
def captureBytes (p : ProgImage) (ks : List Nat) : Nat :=
  ks.foldl (fun n k => n + 256 * (p.pages.filter fun x => pageTask x.2 == some k).length +
    16 * (p.slots.filter fun c => c.owner == k).length + (taskOuts p k).length) 0

/-- The first available shadow host (R248): 0 none, 1 SPARE, 2 GALLERY, 3 ASSISTANT. -/
def hostChoose (d : Delta) (s : State) : Nat :=
  let room := decide (captureBytes d.image d.affected ≤ 0x400000)
  let sp := match d.spare with
    | some p => p.ranges.all fun (g, r) => (galOf s g).spare.getLsbD r && (rangeOf s g r).st == .spare
    | none => false
  let ga := match d.gallery with
    | some p => p.gals.all (fun g => (galOf s g).sstate == .unassigned) &&
        p.ranges.all fun (g, r) => (rangeOf s g r).st != .half && (rangeOf s g r).st != .retired
    | none => false
  if room && sp then 1 else if room && ga then 2
  else if s.mode.role == .principal && s.twin.partnerRole == .assistant && s.twin.locked then 3 else 0

/-- A rollback period runs (R259). -/
def rollbackOpen (s : State) : Bool := s.edit.st == .cutOver && s.edit.until_.isSome

/-- MODE of R261. -/
def editMode (x : DeltaIn) (s : State) : Bool :=
  s.mode.exec == .safe || s.mode.role == .rejoining || s.mode.role == .isolated || s.mode.power != .normal || match x with
    | .good d _ => d.stopEdit != (s.mode.exec == .stop)
    | .bad _ _ _ _ => false

/-- The first refusal of R261 that applies: return code and reason. -/
def editRefusal (x : DeltaIn) (s : State) : Option (Nat × Nat) :=
  if editMode x s then some (0x0302, 12)
  else if proving s || rollbackOpen s || longBusy s 0x0301 then some (0x0202, 13)
  else if transitionPending s then some (0x0204, 0)
  else match x with
  | .bad sig _ _ _ => some (0x0303, if sig then 14 else 16)
  | .good d _ => match s.img with
    | none => some (0x0304, 15)
    | some live =>
      if d.base ≠ live.id then some (0x0304, 15)
      else if !editCheck d live s then some (0x0303, 16)
      else if !d.stopEdit && stopOnly d live then some (0x0303, 17)
      else if !codeFits d live then some (0x0304, 18)
      else if !d.stopEdit && hostChoose d s == 0 then some (0x0304, 19)
      else none

/-! ### Status record (R262) -/

/-- State code. -/
def editCode : EditSt → Nat
  | .none => 0 | .loaded => 1 | .proving => 2 | .held => 3 | .cutOver => 4 | .committed => 5 | .failed => 6 | .aborted => 7
  | .refused => 8 | .expired => 9 | .rolledBack => 10

/-- Word 0. -/
def editWord0 (s : State) : Word := fldF (editCode s.edit.st) 24 ||| fldF s.edit.reason 16 ||| fldF s.edit.host 8

/-- The record. -/
def editWords (s : State) : List Word :=
  let e := s.edit
  [editWord0 s, w32 e.serial, w32 e.cycles, w32 e.masked, w32 e.firstCycle, fldF e.firstOff 16 ||| fldF e.firstBits 0] ++
    words64 (e.tCut.getD e.tStart) ++ [w32 (match e.until_ with
      | some t => (t - now s) / 1000000000
      | none => 0)]

/-- EDIT_STATUS. -/
def opEditStatus (s : State) : State := readCmd 0x0302 (fun _ s => { rc := 0, data := editWords s }) s

/-! ### Accepting an edit -/

/-- The anchor task (R245). -/
def anchorOf (d : Delta) : Nat :=
  (((List.range 8).find? fun k => d.affected.contains k).or ((List.range 8).find? fun k => (imgTask d.image k).used)).getD 0

/-- New code, and pages and blocks that the old program does not use, are loaded (R247, R249). -/
def editLoadMem (d : Delta) (live : ProgImage) (s : State) : State :=
  let s := (List.range 16).foldl (fun s g =>
    codeLoad d.image d.affected { chart := d.image.chart } g s) s
  let fresh := d.image.pages.filter fun x => tabGet .unassigned live.pages x.1 == .unassigned
  fresh.foldl (fun s (key, _) =>
    if key < 131072 then pagePut key (pageInit d.image key) s
    else
      (List.range 16).foldl (fun s j =>
        let b := 16 * (key - 131072) + j
        let c := tabGet ({} : TimerCfg) d.image.timers b
        { s with fab := { s.fab with blocks := tabPut {} s.fab.blocks b (if c.kind = .unused then {} else tcCold c) } }) s) s

/-- The host's spares are lent, or its galleries woken (R89, R93, R197). -/
def hostTake (d : Delta) (s : State) : State :=
  let split := d.affected.any fun k => sectorSplit d.image (imgTask d.image k).sector
  match s.edit.host, d.spare, d.gallery with
  | 1, some p, _ =>
    let s := p.ranges.foldl (fun s (g, r) => galMod g (fun x => { x with
      lent := x.lent ||| BitVec.ofNat 16 (2 ^ r)
      ranges := tabMod {} x.ranges r fun y =>
        if split then { y with st := .lent, changing := true, chgTrig := 3, chgSplit := true } else { y with st := .lent } }) s) s
    (p.ranges.map Prod.fst).eraseDups.foldl (fun s g => codeLoad d.image d.affected p g s) s
  | 2, _, some p =>
    p.gals.foldl (fun s g => galWake g 2 (galMod g (fun x => { x with sstate := .shadow, split := split }) s)) s
  | _, _, _ => s

/-- An edit is accepted; `ts` is T_start, or T_cut of a stop edit. -/
def editAccept (d : Delta) (host signer ts : Nat) (s : State) : State :=
  let s := editFlush s
  match s.img with
  | none => s
  | some live =>
    let s := record 0x0501 0 (items [d.serial] ++ item128 d.base ++ item128 d.image.id ++ item128 signer) s
    let e : Edit := { st := .loaded, host := host, delta := some d, serial := d.serial, anchor := anchorOf d, tStart := ts }
    let s := { s with edit := e, rfx := { s.rfx with alt := if d.rfxChange then d.image.rfx else none } }
    let k : DeclKind := if d.stopEdit then .cutOver else .proofStart
    let s := hostTake d (editLoadMem d live s)
    { s with mode := { s.mode with declared := s.mode.declared ++ [⟨k, ts⟩] } }

/-- A refusal is recorded and shown, and carries its reason; one that an edit in progress causes leaves that edit's
record (R262, R453). -/
def editRefuse (q : Req) (rc reason serial : Nat) (s : State) : State :=
  let s := record 0x0502 0 (items [serial, reason]) s
  let s := if reason = 13 ∨ reason = 0 then s
    else { s with edit := { st := .refused, reason := reason, serial := serial, toSwitch := s.edit.toSwitch, delta := s.edit.delta
                            tCut := s.edit.tCut, rolling := s.edit.rolling, old := s.edit.old } }
  longWith q { rc := rc, data := [fldF 8 24 ||| fldF reason 16] } s

/-- T_start: the first instant of the anchor task at least 1 ms, in a twin 2 ms, ahead (R251); the T_cut of a stop edit is
the strobe grid's instant of R256. -/
def editInstant (d : Delta) (s : State) : Nat :=
  let lead := if twinOn s then 2000000 else 1000000
  if d.stopEdit then now s + (if twinOn s then 2000000 else 0) else gridAt (taskCfg s (anchorOf d)) (now s + lead)

/-- EDIT_LOAD takes effect with the candidate that has passed its checks. -/
def effEdit (ts : Nat) (_ : Req) (s : State) : Option Ans × State := match s.edit.cand with
  | none => (some (rcAns 0x0304), s)
  | some (d, host, signer) =>
    let s := editAccept d host signer ts s
    (some { rc := 0, data := editWord0 s :: words64 ts }, s)

/-- A pending edit's serial. -/
def deltaSerial : DeltaIn → Nat
  | .bad _ n _ _ => n
  | .good d _ => d.serial

/-- A delta whose signature fails is recorded; kind 2 (R480). -/
def deltaRecord (x : DeltaIn) (reason : Nat) (s : State) : State := match x with
  | .bad true _ cause signer => if reason = 14 then record 0x0D0A 0 (items [2, cause] ++ item128 signer) s else s
  | _ => s

/-- As `command`, without the mode check that comes first: the edit has its own order (R261, R439). -/
def commandOwn (op : Nat) (f : Req → State → Option Ans × State) (s : State) : State :=
  match s.kp.queue with
  | [] => s
  | q :: rest =>
    if q.opcode = op ∧ s.kp.ready then
      match f q { s with kp := { s.kp with queue := rest } } with
      | (some a, s) => finish q a s
      | (none, s) => s
    else s

/-- A stop edit of a module without a partner takes effect as it is accepted; a declared one waits for T_CUT. -/
def editNow (d : Delta) (s : State) : Bool := d.stopEdit && !partnerThere s

/-! ### Cut-over (R256 to R260) -/

/-- The galleries of a sector whose SPLIT changes are split or joined at the boundary (R197). -/
def galSplits (p : ProgImage) (g : Nat) (s : State) : State :=
  let c := imgGal p g
  if c.sector.isSome ∧ (galOf s g).split ≠ c.split then
    galMod g (fun x => { x with
      split := c.split
      ranges := x.ranges.map fun (r, y) => (r, if y.st = .inService ∧ y.split ≠ c.split then
        { y with changing := true, chgTrig := 2, chgSplit := c.split } else y) }) s
  else s

/-- What only a stop edit changes: sectors and spares of galleries, and the tasks (R260). -/
def galRetake (p : ProgImage) (g : Nat) (s : State) : State :=
  let c := imgGal p g
  let x := galOf s g
  match c.sector with
  | none => if x.sstate = .unassigned then s else
      galMod g (fun x => { x with sstate := .unassigned, sector := 0 }) (unitDown g 2 s)
  | some sec =>
    if x.sstate = .unassigned then galWake g 1 (galMod g (fun x => { x with sstate := .stop, sector := sec, sparesCfg := c.spares }) s)
    else
      let s := galMod g (fun x => { x with sector := sec, sparesCfg := c.spares }) s
      if x.sparesCfg ≠ c.spares ∧ x.power = .on then galPlace g s else s

/-- Settings that only a stop edit, or its rollback, changes. -/
def stopEditTake (p : ProgImage) (s : State) : State :=
  let s := (List.range 16).foldl (fun s g => galRetake p g s) s
  let s := (List.range 16).foldl (fun s k =>
    let u := (imgTask p k).used
    if u ∧ (taskOf s k).mode = .undefined then taskMod k (fun _ => { mode := .notScanning }) s
    else if !u then { s with fab := { s.fab with tasks := tabPut {} s.fab.tasks k {} } } else s) s
  if s.twin.cfg = p.twin then s else roleForImage { s with twin := { s.twin with cfg := p.twin } }

/-- The shadow stops and its copies are discarded (R256); an assistant host returns through a rejoin (R250). -/
def shadowStop (s : State) : State :=
  let back := assistHost s
  let s := releaseHost s
  let s := { s with
    edit := { s.edit with shadow := none, captured := [], ownCrc := [], parCrc := [], back := back }
    rfx := { s.rfx with proof := false }
    twin := if back then { s.twin with pend := some { role := .rejoining, ts := now s, cause := 0 } } else s.twin }
  if s.mode.exec = .proof then setExec 4 .run s else s

/-- The change of program at T_cut = `t`: to the edit's program, or with `back` to the old one. -/
def cutApply (back : Bool) (t : Nat) (s : State) : State :=
  match s.edit.delta, s.img with
  | some d, some live =>
    let apart := assistHost s
    let base := if apart then s.edit.old.getD live else live
    let left := s.edit.toSwitch
    match if back then s.edit.old else some d.image with
    | none => s
    | some p =>
      let s := if back then s else shadowStop s
      let s := if d.rfxChange then rfxSwap (if back then 2 else 1) s else s
      let kept := d.map.filterMap fun e => match e with
        | .blockInit b _ => some b
        | _ => none
      let keptBlocks := kept.foldl (fun t b => tabPut {} t b (tabGet {} s.fab.blocks b)) ([] : Tab TcBlock)
      let s := { s with
        img := some { live with layout := p.layout, retain := p.retain }
        edit := { s.edit with
          rolling := back, tCut := some t, st := if back then .rolledBack else .cutOver
          toSwitch := if apart then left else d.affected, old := if back then s.edit.old else some base
          oldBlocks := if back then s.edit.oldBlocks else keptBlocks
          until_ := if back then none else some (t + 60000000000) } }
      let s := if d.affected = [] then { s with img := some p } else s
      let s := if scanning s then s else editFlush s
      let s := if d.stopEdit then stopEditTake p s else s
      let s := forcesDrop (fun f => !pointOk { s with img := some p } f.kind f.index) 3 s
      let s := (List.range 16).foldl (fun s g => galSplits p g s) s
      let s := if back then record 0x0509 0 (item128 p.id ++ item64 t) s
        else record 0x0508 0 (item128 p.id ++ items [s.edit.cutC] ++ item64 t ++ items [mapBytes base d fun _ => true]) s
      let s := tagAsk 1 s
      if p.layout ≠ base.layout then snapAsk 5 [] (counterInc 6 s) else s
  | _, _ => s

/-- The declared cut-over or rollback. -/
def cutDecl (s : State) : Option (Bool × Nat) := s.mode.declared.findSome? fun d => match d.kind with
  | .cutOver => some (false, d.ts)
  | .rollback => some (true, d.ts)
  | _ => none

/-- T_CUT (R256). -/
def opTCut (s : State) : State := match cutDecl s with
  | none => s
  | some (back, t) =>
    let s := reach t s
    cutApply back t { s with mode := { s.mode with declared := s.mode.declared.filter fun d =>
      d.kind != .cutOver && d.kind != .rollback } }

/-- EDIT_LOAD (R261); in a twin the checked edit is passed to the partner. -/
def opEditLoad (x : DeltaIn) (s : State) : State :=
  commandOwn 0x0301 (fun q s =>
    match editRefusal x s with
    | some (rc, reason) =>
      let s := match takeTransfer 2 q s with
        | some (_, s) => s
        | none => s
      (none, editRefuse q rc reason (deltaSerial x) (deltaRecord x reason s))
    | none => match takeTransfer 2 q s, x with
      | some (_, s), .good d signer =>
        let host := if d.stopEdit then 0 else hostChoose d s
        let s := { s with edit := { s.edit with cand := some (d, host, signer) } }
        if partnerThere s then
          (none, twinSend (twinMessage 1 q host 0) (longStart q { s with kp := { s.kp with
            twinWait := s.kp.twinWait ++ [(q, now s + 10000000)] } }))
        else match effEdit (editInstant d s) q s with
          | (some a, s) => (none, longWith q a (if editNow d s then opTCut s else s))
          | (none, s) => (none, s)
      | _, _ => (some (rcAns 0x0304), s)) s

/-! ### Commands of a proof and of the rollback period (R453) -/

/-- The declared cut-over, when one is pending. -/
def cutPending (s : State) : Bool := (cutDecl s).isSome

/-- Checks of CUT_OVER. -/
def chkCut (_ : Req) (s : State) : Option Ans :=
  if s.mode.exec ≠ .proof then some (rcAns 0x0302)
  else if cutPending s then some { rc := 0x0103, data := w32 s.edit.cutC :: words64 (s.edit.tCut.getD 0) }
  else if transitionPending s then some (rcAns 0x0204)
  else if s.edit.st ≠ .held then some (rcAns 0x0304)
  else none

/-- T_cut of a cut-over or rollback decided now. -/
def cutInstant (s : State) : Nat := (cutCycle s (if twinOn s then 2000000 else 1000000)).2

/-- The cycle of the anchor task whose strobe is at `t`. -/
def cutNumber (s : State) (t : Nat) : Nat :=
  let c := taskCfg s s.edit.anchor
  let x := taskOf s s.edit.anchor
  (x.cycle + (t - c.strobeOffset * 1000 - x.sched) / max 1 (c.period * 1000)) % 2 ^ 32

/-- A cut-over, or with `back` a rollback, is declared at `t`. -/
def cutDeclare (back : Bool) (t : Nat) (s : State) : State :=
  { s with
    edit := { s.edit with tCut := some t, cutC := cutNumber s t, until_ := if back then s.edit.until_ else none }
    mode := { s.mode with declared := s.mode.declared ++ [⟨if back then .rollback else .cutOver, t⟩] } }

/-- CUT_OVER. -/
def effCut (t : Nat) (_ : Req) (s : State) : Option Ans × State :=
  let s := cutDeclare false t s
  (some { rc := 0, data := w32 s.edit.cutC :: words64 t }, s)

/-- Checks of PROOF_ABORT. -/
def chkAbort (_ : Req) (s : State) : Option Ans :=
  if s.mode.exec ≠ .proof then some (rcAns 0x0302)
  else if transitionPending s then some (rcAns 0x0204)
  else if !proving s then some (rcAns 0x0304)
  else none

/-- PROOF_ABORT. -/
def effAbort (_ : Req) (s : State) : Option Ans × State := (some (rcAns 0), proofAbort 6 s)

/-- Checks of ROLLBACK. -/
def chkRollback (_ : Req) (s : State) : Option Ans :=
  if s.mode.exec ≠ .run ∧ s.mode.exec ≠ .stop then some (rcAns 0x0302)
  else if transitionPending s then some (rcAns 0x0204)
  else if !rollbackOpen s then some (rcAns 0x0304)
  else none

/-- ROLLBACK. -/
def effRollback (t : Nat) (_ : Req) (s : State) : Option Ans × State :=
  (some { rc := 0, data := words64 t }, cutDeclare true t s)

/-- Checks of EDIT_COMMIT. -/
def chkCommit (_ : Req) (s : State) : Option Ans :=
  if s.mode.exec = .safe then some (rcAns 0x0302)
  else if transitionPending s then some (rcAns 0x0204)
  else if !rollbackOpen s then some (rcAns 0x0304)
  else none

/-- The rollback period ends: the old program is freed (R259). -/
def editCommit (s : State) : State :=
  let id := match s.edit.delta with
    | some d => d.image.id
    | none => 0
  record 0x050A 0 (item128 id) { s with
    edit := { s.edit with st := .committed, until_ := none, old := none, oldBlocks := [] }
    rfx := { s.rfx with alt := none } }

/-- EDIT_COMMIT. -/
def effCommit (_ : Req) (s : State) : Option Ans × State := (some (rcAns 0), editCommit s)

/-! ### Events -/

/-- PROOF_START (R251): T_start. PROOF is entered from RUN alone (R273). -/
def opProofStart (s : State) : State :=
  match s.mode.declared.find? fun d => d.kind == .proofStart, s.edit.delta with
  | some x, some d =>
    if s.mode.exec ≠ .run then s else
    let s := reach x.ts s
    let s := { s with mode := { s.mode with declared := s.mode.declared.filter fun d => d.kind != .proofStart } }
    let s := setExec 3 .proof s
    let apart := s.edit.host == 3
    let s := { s with
      edit := { s.edit with
        st := .proving, shadow := if apart then none else some {}, captured := [], proofN := []
        old := if assistHost s then s.img else s.edit.old, toSwitch := if assistHost s then d.affected else s.edit.toSwitch
        tCut := if assistHost s then some x.ts else s.edit.tCut, rolling := false }
      rfx := { s.rfx with proof := d.rfxChange && s.rfx.alt.isSome, proofDiffCnt := 0 } }
    aoUpdate (rfxUpdate (latchUpdate (record 0x0503 0 (items [s.edit.host] ++ item64 x.ts ++ items [d.n]) s)))
  | _, _ => s

/-- EDIT_EXPIRED (R255): 600 s of a held verdict without a cut-over. -/
def opEditExpired (s : State) : State := match s.edit.until_ with
  | none => s
  | some t =>
    if s.edit.st = .held ∧ !cutPending s then
      let s := reach t s
      let s := proofRelease { s with edit := { s.edit with st := .expired, until_ := none } }
      record 0x0507 0 (items [s.edit.serial]) { s with rfx := { s.rfx with alt := none }, edit := { s.edit with delta := none } }
    else s

/-- EDIT_COMMITTED (R259): 60 s after T_cut. -/
def opEditCommitted (s : State) : State := match s.edit.until_ with
  | none => s
  | some t => if s.edit.st = .cutOver ∧ !cutPending s then editCommit (reach t s) else s

/-! ### The meanings -/

/-- EDIT_LOAD (R261). -/
def execEditLoad (x : DeltaIn) (s : State) : Out := .next (opEditLoad x s)
/-- EDIT_STATUS (R262). -/
def execEditStatus (s : State) : Out := .next (opEditStatus s)
/-- CUT_OVER (R453). -/
def execCutOver (s : State) : Out := .next (twinWide 0x0303 chkCut (fun q s => effCut (cutInstant s) q s) s)
/-- PROOF_ABORT (R453). -/
def execProofAbort (s : State) : Out := .next (twinWide 0x0304 chkAbort effAbort s)
/-- ROLLBACK (R259). -/
def execRollback (s : State) : Out := .next (twinWide 0x0305 chkRollback (fun q s => effRollback (cutInstant s) q s) s)
/-- EDIT_COMMIT (R259). -/
def execEditCommit (s : State) : Out := .next (twinWide 0x0306 chkCommit effCommit s)
/-- PROOF_START (R251). -/
def execProofStart (s : State) : Out := .next (opProofStart s)
/-- EDIT_EXPIRED (R255). -/
def execEditExpired (s : State) : Out := .next (opEditExpired s)
/-- T_CUT (R256). -/
def execTCut (s : State) : Out := .next (opTCut s)
/-- EDIT_COMMITTED (R259). -/
def execEditCommitted (s : State) : Out := .next (opEditCommitted s)

end Sys2Proof.Machine
end

