-- ==== Sys2Proof/Machine/CmdTwin.lean ====
section
/-!
DEFINITION. Twin-wide commands between the two modules (R230, R442): the messages of the twin mailbox, the answers, the
declared instants; and the commands of group 0x05 (R456).
-/
namespace Sys2Proof.Machine

/-! ### What each twin-wide command checks and does -/

/-- The checks of a twin-wide command by its opcode. -/
def twinChk (q : Req) (s : State) : Option Ans :=
  match q.opcode with
  | 0x0210 => chkRun q s
  | 0x0211 => chkStop q s
  | 0x0213 => chkTaskRestart q s
  | 0x0303 => chkCut q s
  | 0x0304 => chkAbort q s
  | 0x0305 => chkRollback q s
  | 0x0306 => chkCommit q s
  | 0x0401 => chkForce q s
  | 0x0402 => chkRelease q s
  | 0x0404 => chkPairClear q s
  | 0x0405 => chkCutReset q s
  | 0x0604 => chkSchedule q s
  | 0x0605 => chkCancel q s
  | _ => none

/-- The opcode's effect declares an instant of its own. -/
def declaresOwn (q : Req) : Bool :=
  q.opcode == 0x0210 || q.opcode == 0x0211 || q.opcode == 0x0301 || q.opcode == 0x0303 || q.opcode == 0x0305 || q.opcode == 0x0604

/-- The instant that the receiving module declares. -/
def twinInstant (q : Req) (s : State) : Nat :=
  match q.opcode with
  | 0x0210 => runInstant s
  | 0x0211 => stopInstant s
  | 0x0301 => match s.edit.cand with
    | some (d, _, _) => editInstant d s
    | none => declareAt s
  | 0x0303 | 0x0305 => cutInstant s
  | _ => declareAt s

/-- The effect of a twin-wide command, at the declaration of instant `t` or at its own declared instant. -/
def twinEff (t : Nat) (q : Req) (s : State) : Option Ans × State :=
  match q.opcode with
  | 0x0201 => effLoad q s
  | 0x0210 => effRun t q s
  | 0x0211 => effStop t q s
  | 0x0213 => effTaskRestart q s
  | 0x0301 => effEdit t q s
  | 0x0303 => effCut t q s
  | 0x0304 => effAbort q s
  | 0x0305 => effRollback t q s
  | 0x0306 => effCommit q s
  | 0x0401 => effForce q s
  | 0x0402 => effRelease q s
  | 0x0404 => effPairClear q s
  | 0x0405 => effCutReset q s
  | 0x0604 => effSchedule q s
  | 0x0605 => effCancel q s
  | 0x0905 => effRotate q s
  | _ => (none, s)

/-- The answer of a twin-wide command: through its long run, or its mailbox. -/
def twinAnswer (q : Req) (a : Ans) (s : State) : State :=
  if s.kp.long.any fun l => l.req == q && !l.done then longDone q a.rc a.data s else finish q a s

/-- The instant `t` is declared: commands with an instant of their own take it, others wait for it (R442). -/
def twinDeclare (t : Nat) (q : Req) (s : State) : State :=
  if declaresOwn q then
    match twinEff t q s with
    | (some a, s) => twinAnswer q a s
    | (none, s) => s
  else { s with mode := { s.mode with declared := s.mode.declared ++ [⟨.command q, t⟩] } }

/-- A declared command takes effect at its instant, if its checks still hold (R443). -/
def twinTake (t : Nat) (q : Req) (s : State) : State :=
  match twinChk q s with
  | some a => twinAnswer q a s
  | none => match twinEff t q s with
    | (some a, s) => twinAnswer q a s
    | (none, s) => s

/-! ### Messages of the twin mailbox -/

/-- The partner's checks of a command that was passed on (R442). -/
def partnerChk (q : Req) (s : State) : Nat :=
  match headCheck q with
  | some rc => rc
  | none => if modeRefused q s then 0x0302 else match twinChk q s with
    | some a => a.rc
    | none => 0

/-- The partner's checks of a program load. -/
def partnerLoad (q : Req) (x : Loaded) (s : State) : Nat :=
  match headCheck q with
  | some rc => rc
  | none =>
    if s.mode.exec ≠ .stop then 0x0302
    else if transitionPending s then 0x0204
    else match loadVerdict x s with
      | some _ => 0x0303
      | none => 0

/-- The partner's checks of an edit; it holds the same delta and finds the same host, but for the assistant host, which is
the partner itself (R248, R261). -/
def partnerEdit (q : Req) (d : Delta) (host signer : Nat) (s : State) : Nat :=
  match headCheck q with
  | some rc => rc
  | none => match editRefusal (.good d signer) s with
    | some (rc, reason) => if reason = 19 ∧ host = 3 then 0 else rc
    | none => if d.stopEdit ∨ host = 3 ∨ hostChoose d s = host then 0 else 0x0304

/-- The return code goes back to the sender. -/
def partnerAnswer (q : Req) (rc : Nat) (s : State) : State := twinSend (twinMessage 2 q rc 0) s

/-- The partner's answer to a waiting command: declared, or refused with the partner's code (R442). -/
def twinAnswered (op tag rc : Nat) (s : State) : State :=
  match takeFirst (fun w : Req × Nat => w.1.opcode == op && w.1.tag == tag) s.kp.twinWait with
  | none => s
  | some ((q, _), rest) =>
    let s := { s with kp := { s.kp with twinWait := rest } }
    if rc < 0x0200 then
      let t := twinInstant q s
      twinDeclare t q (twinSend (twinMessage 3 q 0 t) s)
    else twinAnswer q { rc := 0x0304, data := [fldF rc 16] } s

/-- The words of a message as the TK direction shows them (assumption log, entry 23). -/
def messageWords : TwinMsg → List Word
  | .command q | .load q _ => twinMessage 1 q 0 0
  | .edit q _ host _ => twinMessage 1 q host 0
  | .answer op tag rc => [hdrWord 0xE002 tag 16, fldF op 16 ||| fldF rc 0]
  | .declare q t => twinMessage 3 q 0 t

/-- A message enters the TK direction of the twin mailbox and is acknowledged (R416, R417). -/
def twinStore (m : TwinMsg) (s : State) : State :=
  mbxMod 25 (fun x => let d := dirWrite (messageWords m) x.tk; { x with tk := dirAck (dirTag d) 0 d }) s

/-- MAILBOX (R230, R442): a message of the partner's keeper stands in the TK direction and is taken. -/
def opMailbox (h : TwinHdr) (m : TwinMsg) (s : State) : State :=
  frameIn h (fun s =>
    if !s.kp.ready then s
    else
    let s := twinStore m s
    match m with
    | .command q =>
      let q := { q with origin := .partner }
      partnerAnswer q (partnerChk q s) s
    | .load q x =>
      let q := { q with origin := .partner }
      let rc := partnerLoad q x s
      partnerAnswer q rc (if rc = 0 then loadStore x s else loadRecord x s)
    | .edit q d host signer =>
      let q := { q with origin := .partner }
      let rc := partnerEdit q d host signer s
      partnerAnswer q rc (if rc = 0 then { s with edit := { s.edit with cand := some (d, host, signer) } } else s)
    | .answer op tag rc => twinAnswered op tag rc s
    | .declare q t => twinDeclare t { q with origin := .partner } s) s

/-- TWIN_COMMAND_TIMEOUT: 10 ms without an answer (R442). -/
def opTwinTimeout (s : State) : State :=
  match s.kp.twinWait with
  | [] => s
  | (q, t) :: rest =>
    let s := reach t s
    twinAnswer q { rc := 0x0304, data := [fldF 0xFFFF 16] } { s with kp := { s.kp with twinWait := rest } }

/-! ### Declared instants (R442, R443, R450) -/

/-- The next declared command or run start. -/
def nextDeclared (s : State) : Option Declared :=
  s.mode.declared.foldl (fun (b : Option Declared) d =>
    match d.kind with
    | .command _ | .runStart _ _ => match b with
      | none => some d
      | some x => if d.ts < x.ts then some d else b
    | _ => b) none

/-- DECLARED_INSTANT. A run start waits for the cut test before it, and lapses where the module may no longer start
(R273, R301). -/
def opDeclared (s : State) : State :=
  match nextDeclared s with
  | none => s
  | some d =>
    let drop (s : State) : State := { s with mode := { s.mode with declared := s.mode.declared.filter fun x => x != d } }
    match d.kind with
    | .command q => let s := drop (reach d.ts s); twinTake d.ts q s
    | .runStart warm powerUp =>
      if s.dio.cutTest.isSome then s
      else
        let s := drop (reach d.ts s)
        if runMode s ∧ s.img.isSome then runBegin warm powerUp s else s
    | _ => s

/-! ### Group 0x05 (R456) -/

/-- TWIN_STATUS (R243). -/
def opTwinStatus (s : State) : State :=
  readCmd 0x0501 (fun _ s =>
    { rc := 0, data := [regTwn s 0, regTwn s 8, regTwn s 0xC, regTwn s 0x1C, regTwn s 0xA0] }) s

/-- ROLE_SWAP (R232, R456): the reply holds T_sw. -/
def opRoleSwap (s : State) : State :=
  simple 0x0502 (fun q s =>
    if transitionPending s then some 0x0204
    else if aimConflict q s ∨ s.mode.role ≠ .principal ∨ s.twin.partnerRole ≠ .assistant ∨ !s.twin.locked then some 0x0304
    else none)
    (fun _ s =>
      let s := relinquish 4 s
      ({ rc := 0, data := words64 ((s.twin.relinq.map Relinq.ts).getD 0) }, s)) s

/-- The link has been in lock for 1 s with a PRINCIPAL at its other end (R235, R456). -/
def rejoinOpen (s : State) : Bool :=
  s.twin.locked && decide (s.twin.lockTs + 1000000000 ≤ now s) && s.twin.partnerRole == .principal

/-- A sector of this module has failed and waits for a rejoin (R233). -/
def sectorWaits (s : State) : Bool := (tasksUsed s).any fun k => sectorState s (taskCfg s k).sector == .safe

/-- REJOIN (R233, R235, R456): an attempt follows, and the count of failed ones is 0. -/
def opRejoin (s : State) : State :=
  simple 0x0503 (fun q s =>
    if s.twin.rejoin.phase ≠ 0 then some 0x0103
    else if transitionPending s then some 0x0204
    else if !(s.mode.role == .isolated || s.mode.role == .rejoining || (s.mode.role == .assistant && sectorWaits s)) then
      some 0x0302
    else if aimConflict q s ∨ !rejoinOpen s then some 0x0304
    else none)
    (fun _ s =>
      let s := { s with twin := { s.twin with rejoin := { s.twin.rejoin with attempt := 0, retryAt := none } } }
      (rcAns 0, roleSet .rejoining 0 (now s) s)) s

/-! ### The meanings -/

/-- MAILBOX (R230). -/
def execMailbox (h : TwinHdr) (m : TwinMsg) (s : State) : Out := .next (opMailbox h m s)
/-- TWIN_COMMAND_TIMEOUT (R442). -/
def execTwinCommandTimeout (s : State) : Out := .next (opTwinTimeout s)
/-- DECLARED_INSTANT (R442). -/
def execDeclaredInstant (s : State) : Out := .next (opDeclared s)
/-- TWIN_STATUS (R243). -/
def execTwinStatus (s : State) : Out := .next (opTwinStatus s)
/-- ROLE_SWAP (R456). -/
def execRoleSwap (s : State) : Out := .next (opRoleSwap s)
/-- REJOIN (R456). -/
def execRejoin (s : State) : Out := .next (opRejoin s)

end Sys2Proof.Machine
end

