-- ==== Sys2Proof/Machine/LampAlu.lean ====
section
/-!
DEFINITION. Arithmetic, logic, multiply and divide, bit fields and byte permute (R132 to R135).
-/
namespace Sys2Proof.Machine

/-- A register form: rd = op rs1 rs2 in `cost` fc. -/
def aluR (o : LampOp) (cost : Nat) (rd rs1 rs2 : Reg) (op : Word → Word → Word) (s : State) : State :=
  lampExec o true (fun s =>
    let l := lampOf s o.lamp
    .ok (lampWrite o.lamp cost rd (op (regGet l rs1) (regGet l rs2)) s)) s

/-- An immediate form: rd = op rs1 in 1 fc. -/
def aluI (o : LampOp) (rd rs1 : Reg) (op : Word → Word) (s : State) : State :=
  aluR o 1 rd rs1 0 (fun a _ => op a) s

/-- 0 or 1 as a word. -/
def boolW (b : Bool) : Word := if b then 1 else 0

/-- The number of leading zero bits. -/
def clz (w : Word) : Nat := 32 - (List.range 32).foldl (fun n i => if w.getLsbD i then i + 1 else n) 0

/-- The significant bits of a magnitude. -/
def sigBits (n : Nat) : Nat := if n = 0 then 0 else n.log2 + 1

/-- The fc of a division with a quotient of magnitude `q` (R133). -/
def divCost (q : Nat) : Nat := 18 + sigBits q / 2

/-- The signed quotient, rounded toward zero. -/
def divS (a b : Word) : Int := a.toInt.tdiv b.toInt

/-- A divide instruction: DIV_ZERO on a zero divisor, else its result in its data-dependent time (R133). -/
def aluDiv (o : LampOp) (rd rs1 rs2 : Reg) (quo : Word → Word → Nat) (res : Word → Word → Word) (s : State) : State :=
  lampExec o true (fun s =>
    let l := lampOf s o.lamp
    let a := regGet l rs1
    let b := regGet l rs2
    if b = 0 then .error (.trap .divZero 0)
    else .ok (lampWrite o.lamp (divCost (quo a b)) rd (res a b) s)) s

/-- Magnitude of the signed quotient. -/
def quoS (a b : Word) : Nat := (divS a b).natAbs
/-- The unsigned quotient. -/
def quoU (a b : Word) : Nat := a.toNat / b.toNat

/-- The mask of a field of `len` bits. -/
def fieldMask (len : Nat) : Word := w32 (2 ^ len - 1)

/-- A field of width lenm1 + 1 at `pos` fits in a word (R134). -/
def fieldOk (pos lenm1 : BitVec 5) : Bool := decide (pos.toNat + lenm1.toNat + 1 ≤ 32)

/-- Zero-extended field. -/
def extr (w : Word) (pos len : Nat) : Word := (w >>> pos) &&& fieldMask len
/-- Sign-extended field. -/
def extrs (w : Word) (pos len : Nat) : Word :=
  if w.getLsbD (pos + len - 1) then extr w pos len ||| ~~~fieldMask len else extr w pos len
/-- Inserted field. -/
def insr (d w : Word) (pos len : Nat) : Word :=
  (d &&& ~~~(fieldMask len <<< pos)) ||| ((w &&& fieldMask len) <<< pos)

/-- Byte i of a word. -/
def byteOf (w : Word) (i : Nat) : Byte := (w >>> (8 * i)).extractLsb' 0 8

/-- A nibble of a selector. -/
def nib (sel : BitVec 16) (i : Nat) : Nat := sel.toNat / 16 ^ i % 16

/-- The result byte of a selector nibble (R135). -/
def permByte (a d : Word) (n : Nat) : Byte :=
  if n < 4 then byteOf a n
  else if n < 8 then byteOf d (n - 4)
  else if n = 8 then 0
  else if n = 9 then 0xFF
  else if (byteOf a (n - 10)).getLsbD 7 then 0xFF else 0

/-- The result of PERM. -/
def perm (a d : Word) (sel : BitVec 16) : Word :=
  permByte a d (nib sel 3) ++ permByte a d (nib sel 2) ++ permByte a d (nib sel 1) ++ permByte a d (nib sel 0)

/-- No nibble of the selector is 0xE or 0xF (R135). -/
def permOk (sel : BitVec 16) : Bool := (List.range 4).all fun i => decide (nib sel i < 14)

/-! ### The meanings -/

/-- ADD (R132). -/
def execAdd (o : LampOp) (rd rs1 rs2 : Reg) (s : State) : Out := .next (aluR o 1 rd rs1 rs2 (· + ·) s)
/-- SUB (R132). -/
def execSub (o : LampOp) (rd rs1 rs2 : Reg) (s : State) : Out := .next (aluR o 1 rd rs1 rs2 (· - ·) s)
/-- AND (R132). -/
def execAnd (o : LampOp) (rd rs1 rs2 : Reg) (s : State) : Out := .next (aluR o 1 rd rs1 rs2 (· &&& ·) s)
/-- OR (R132). -/
def execOr (o : LampOp) (rd rs1 rs2 : Reg) (s : State) : Out := .next (aluR o 1 rd rs1 rs2 (· ||| ·) s)
/-- XOR (R132). -/
def execXor (o : LampOp) (rd rs1 rs2 : Reg) (s : State) : Out := .next (aluR o 1 rd rs1 rs2 (· ^^^ ·) s)
/-- NOR (R132). -/
def execNor (o : LampOp) (rd rs1 rs2 : Reg) (s : State) : Out := .next (aluR o 1 rd rs1 rs2 (fun a b => ~~~(a ||| b)) s)
/-- SLT (R132). -/
def execSlt (o : LampOp) (rd rs1 rs2 : Reg) (s : State) : Out := .next (aluR o 1 rd rs1 rs2 (fun a b => boolW (a.slt b)) s)
/-- SLTU (R132). -/
def execSltu (o : LampOp) (rd rs1 rs2 : Reg) (s : State) : Out := .next (aluR o 1 rd rs1 rs2 (fun a b => boolW (a.ult b)) s)
/-- SLL (R132). -/
def execSll (o : LampOp) (rd rs1 rs2 : Reg) (s : State) : Out :=
  .next (aluR o 1 rd rs1 rs2 (fun a b => a <<< (b.toNat % 32)) s)
/-- SRL (R132). -/
def execSrl (o : LampOp) (rd rs1 rs2 : Reg) (s : State) : Out :=
  .next (aluR o 1 rd rs1 rs2 (fun a b => a >>> (b.toNat % 32)) s)
/-- SRA (R132). -/
def execSra (o : LampOp) (rd rs1 rs2 : Reg) (s : State) : Out :=
  .next (aluR o 1 rd rs1 rs2 (fun a b => a.sshiftRight (b.toNat % 32)) s)
/-- CLZ (R132). -/
def execClz (o : LampOp) (rd rs1 : Reg) (s : State) : Out := .next (aluI o rd rs1 (fun a => w32 (clz a)) s)
/-- MFLK (R132). -/
def execMflk (o : LampOp) (rd : Reg) (s : State) : Out :=
  .next (lampExec o true (fun s => .ok (lampWrite o.lamp 1 rd (lampOf s o.lamp).lk s)) s)
/-- MTLK (R132). -/
def execMtlk (o : LampOp) (rs1 : Reg) (s : State) : Out :=
  .next (lampExec o true (fun s => .ok (lampNext o.lamp 1 (lampMod o.lamp (fun l => { l with lk := regGet l rs1 }) s))) s)
/-- ADDI (R132). -/
def execAddi (o : LampOp) (rd rs1 : Reg) (imm : BitVec 16) (s : State) : Out :=
  .next (aluI o rd rs1 (fun a => a + imm.signExtend 32) s)
/-- ANDI (R132). -/
def execAndi (o : LampOp) (rd rs1 : Reg) (imm : BitVec 16) (s : State) : Out :=
  .next (aluI o rd rs1 (fun a => a &&& imm.zeroExtend 32) s)
/-- ORI (R132). -/
def execOri (o : LampOp) (rd rs1 : Reg) (imm : BitVec 16) (s : State) : Out :=
  .next (aluI o rd rs1 (fun a => a ||| imm.zeroExtend 32) s)
/-- XORI (R132). -/
def execXori (o : LampOp) (rd rs1 : Reg) (imm : BitVec 16) (s : State) : Out :=
  .next (aluI o rd rs1 (fun a => a ^^^ imm.zeroExtend 32) s)
/-- SLTI (R132). -/
def execSlti (o : LampOp) (rd rs1 : Reg) (imm : BitVec 16) (s : State) : Out :=
  .next (aluI o rd rs1 (fun a => boolW (a.slt (imm.signExtend 32))) s)
/-- SLTIU (R132). -/
def execSltiu (o : LampOp) (rd rs1 : Reg) (imm : BitVec 16) (s : State) : Out :=
  .next (aluI o rd rs1 (fun a => boolW (a.ult (imm.signExtend 32))) s)
/-- LUI (R132). -/
def execLui (o : LampOp) (rd : Reg) (imm : BitVec 16) (s : State) : Out :=
  .next (aluI o rd 0 (fun _ => imm ++ (0 : BitVec 16)) s)
/-- SLLI (R132). -/
def execSlli (o : LampOp) (rd rs1 : Reg) (sh : BitVec 5) (s : State) : Out :=
  .next (aluI o rd rs1 (fun a => a <<< sh.toNat) s)
/-- SRLI (R132). -/
def execSrli (o : LampOp) (rd rs1 : Reg) (sh : BitVec 5) (s : State) : Out :=
  .next (aluI o rd rs1 (fun a => a >>> sh.toNat) s)
/-- SRAI (R132). -/
def execSrai (o : LampOp) (rd rs1 : Reg) (sh : BitVec 5) (s : State) : Out :=
  .next (aluI o rd rs1 (fun a => a.sshiftRight sh.toNat) s)
/-- MUL (R133). -/
def execMul (o : LampOp) (rd rs1 rs2 : Reg) (s : State) : Out := .next (aluR o 3 rd rs1 rs2 (· * ·) s)
/-- MULH (R133). -/
def execMulh (o : LampOp) (rd rs1 rs2 : Reg) (s : State) : Out :=
  .next (aluR o 3 rd rs1 rs2 (fun a b => BitVec.ofInt 32 (a.toInt * b.toInt / 2 ^ 32)) s)
/-- MULHU (R133). -/
def execMulhu (o : LampOp) (rd rs1 rs2 : Reg) (s : State) : Out :=
  .next (aluR o 3 rd rs1 rs2 (fun a b => w32 (a.toNat * b.toNat / 2 ^ 32)) s)
/-- DIV (R133). -/
def execDiv (o : LampOp) (rd rs1 rs2 : Reg) (s : State) : Out :=
  .next (aluDiv o rd rs1 rs2 quoS (fun a b => BitVec.ofInt 32 (divS a b)) s)
/-- DIVU (R133). -/
def execDivu (o : LampOp) (rd rs1 rs2 : Reg) (s : State) : Out :=
  .next (aluDiv o rd rs1 rs2 quoU (fun a b => w32 (a.toNat / b.toNat)) s)
/-- REM (R133). -/
def execRem (o : LampOp) (rd rs1 rs2 : Reg) (s : State) : Out :=
  .next (aluDiv o rd rs1 rs2 quoS (fun a b => BitVec.ofInt 32 (a.toInt.tmod b.toInt)) s)
/-- REMU (R133). -/
def execRemu (o : LampOp) (rd rs1 rs2 : Reg) (s : State) : Out :=
  .next (aluDiv o rd rs1 rs2 quoU (fun a b => w32 (a.toNat % b.toNat)) s)

/-- A bit-field instruction (R134). -/
def aluField (o : LampOp) (rd rs1 : Reg) (pos lenm1 : BitVec 5) (op : Word → Word → Nat → Nat → Word) (s : State) :
    State :=
  lampExec o (fieldOk pos lenm1) (fun s =>
    let l := lampOf s o.lamp
    .ok (lampWrite o.lamp 1 rd (op (regGet l rd) (regGet l rs1) pos.toNat (lenm1.toNat + 1)) s)) s

/-- EXTR (R134). -/
def execExtr (o : LampOp) (rd rs1 : Reg) (pos lenm1 : BitVec 5) (s : State) : Out :=
  .next (aluField o rd rs1 pos lenm1 (fun _ a p n => extr a p n) s)
/-- EXTRS (R134). -/
def execExtrs (o : LampOp) (rd rs1 : Reg) (pos lenm1 : BitVec 5) (s : State) : Out :=
  .next (aluField o rd rs1 pos lenm1 (fun _ a p n => extrs a p n) s)
/-- INSR (R134). -/
def execInsr (o : LampOp) (rd rs1 : Reg) (pos lenm1 : BitVec 5) (s : State) : Out :=
  .next (aluField o rd rs1 pos lenm1 insr s)
/-- PERM (R135). -/
def execPerm (o : LampOp) (rd rs1 : Reg) (sel : BitVec 16) (s : State) : Out :=
  .next (lampExec o (permOk sel) (fun s =>
    let l := lampOf s o.lamp
    .ok (lampWrite o.lamp 1 rd (perm (regGet l rs1) (regGet l rd) sel) s)) s)

end Sys2Proof.Machine
end

