-- ==== Sys2Proof/Machine/TwinLink.lean ====
section
/-!
DEFINITION. The twin link (R205 to R212): lock, silence, the frame slots, and the frames RELINQUISH, ROLE_ACK, SECTOR_FAIL,
STATUS and PROOF; the decisions on the role and the role change at T_sw (R231 to R237).
-/
namespace Sys2Proof.Machine

/-! ### Lock -/

/-- Tasks that wait for a partner who is now absent go on alone (R213, R215, R218). -/
def absentGo (p : Nat → Bool) (s : State) : State :=
  (tasksUsed s).foldl (fun s k =>
    if p k && partnerAbsent s k && !follows s k then
      match (taskOf s k).phase with
      | .agree => viewForm k none false s
      | .digest => armTask k none s
      | _ => s
    else s) s

/-- TWIN_LOCK (R209): `ns` after the signal, after `rejects` candidates; `proto` is the protocol version the two modules
then run (R557). -/
def opTwinLock (ns rejects proto : Nat) (s : State) : State :=
  if !s.id.variantV ∨ s.twin.locked then s
  else record 0x0401 0x02A0 (items [ns]) { s with twin := { s.twin with
    lane0 := true, lane1 := true, locked := true, lockTs := now s, lastFrame := now s, silence := false, split := false
    syncRej := satAdd s.twin.syncRej rejects, proto := proto } }

/-- The link is out of lock: a proof run ends, a rejoin fails, a REJOINING module becomes ISOLATED, and the tasks go on
alone (R205, R210, R237, R254). -/
def lockLost (s : State) : State :=
  let s := { s with twin := { s.twin with locked := false, lockLoss := satInc s.twin.lockLoss } }
  let s := record 0x0402 0x02A0 (items [b2n s.twin.lane0, b2n s.twin.lane1, s.twin.lastSeq]) s
  let s := if twinOn s then proofAbort 9 s else s
  let s := rejoinFail 5 s
  let s := if s.mode.role = .rejoining then roleSet .isolated 12 (now s) s else s
  latchUpdate (absentGo (fun _ => true) (candLost 2 5 false s))

/-- TWIN_LOCK_LOST (R210): four consecutive misses. -/
def opTwinLockLost (s : State) : State :=
  if s.twin.locked then lockLost { s with twin := { s.twin with hdrErr := satAdd s.twin.hdrErr 4 } } else s

/-- BLOCK_LOCK_LOST (R205): lane 0 or 1 loses block lock. -/
def opBlockLockLost (lane : Nat) (s : State) : State :=
  if 2 ≤ lane then s
  else
    let s := { s with twin := { s.twin with
      lane0 := s.twin.lane0 && lane != 0, lane1 := s.twin.lane1 && lane != 1 } }
    if s.twin.locked then lockLost s else s

/-- TWIN_SILENCE (R211, R234): 5.36 µs after the end of the last valid frame. -/
def opTwinSilence (s : State) : State :=
  if !twinOn s ∨ s.twin.silence then s
  else
    let s := reach (s.twin.lastFrame + 5360) s
    let hb := match s.twin.hbTs with
      | some t => decide (now s < t + 20000000)
      | none => false
    record 0x0403 0x02A0 (item64 s.twin.lastFrame) { s with twin := { s.twin with
      silence := true, silenceTs := now s, split := s.twin.visible && hb, decided := s.mode.role != .assistant } }

/-- PARTNER_INVISIBLE (R221, R229, R234, R235): 20 ms without a sign of the partner. -/
def opPartnerInvisible (s : State) : State :=
  if !twinOn s ∨ !s.twin.visible then s
  else
    let s := reach (s.twin.lastSign + 20000000) s
    let s := record 0x0407 0x02A0 (item64 s.twin.lastSign) { s with twin := { s.twin with
      visible := false, carry := 0, split := false } }
    let s := if s.mode.role = .assistant ∧ s.twin.silence ∧ !s.twin.decided ∧ s.twin.pend = none then
        rolePend .principal 6 0 { s with twin := { s.twin with decided := true } }
      else if s.mode.role = .isolated then rolePend .principal 6 0 s else s
    aoUpdate (outsUpdate s)

/-! ### Frames of classes 1, 4 and 5 -/

/-- RELINQUISH (R232, R234): acknowledged, and the assistant is the principal from T_sw on. -/
def opRelinquish (h : TwinHdr) (ts epoch : Nat) (s : State) : State :=
  frameIn h (fun s =>
    if s.mode.role = .assistant ∧ !assistHost s then
      twinQueue { cls := 1, typ := 0x0B, tag := 0, words := [ts, epoch] }
        { s with twin := { s.twin with pend := some { role := .principal, ts := ts, cause := 1 }, decided := true } }
    else s) s

/-- ROLE_ACK (R232): the repetition ends. -/
def opRoleAck (h : TwinHdr) (ts epoch : Nat) (s : State) : State :=
  frameIn h (fun s => match s.twin.relinq with
    | some r => if r.ts = ts ∧ epoch = s.twin.epoch then { s with twin := { s.twin with relinq := some { r with acked := true } } } else s
    | none => s) s

/-- SECTOR_FAIL (R215, R233): the partner is absent for the sector's tasks; an edit's proof ends (R254). -/
def opSectorFail (h : TwinHdr) (sec cause : Nat) (s : State) : State :=
  frameIn h (fun s =>
    let s := { s with twin := { s.twin with
      partnerFailed := if s.twin.partnerFailed.contains sec then s.twin.partnerFailed else s.twin.partnerFailed ++ [sec] } }
    let s := proofAbort 9 (record 0x0411 0x02A0 (items [sec, cause]) s)
    absentGo (fun k => (taskCfg s k).sector == sec) s) s

/-- PROOF (R250, R252, R254). -/
def opProofFrame (h : TwinHdr) (m : ProofMsg) (s : State) : State :=
  frameIn h (fun s =>
    if !proving s then s
    else match m with
    | .crc k c crc =>
      if assistHost s then apartTry k { s with edit := { s.edit with parCrc := crcKeep (k, c, crc) s.edit.parCrc } } else s
    | .verdict k c equal => if s.edit.host = 3 ∧ !assistHost s then apartJudged k c equal s else s
    | .failed => proofFail 5 s.edit.anchor (taskOf s s.edit.anchor).cycle 0xFFFF 0 s) s

/-- The partner as a time candidate: stable while it follows a PTP reference of its own (R393). -/
def partnerTime (x : TwinStatus) (s : State) : State :=
  let s := candMod 2 (fun c => { c with present := true, offset := x.off, offTs := some (now s) }) s
  let s := if s.time.target = 2 then { s with time := { s.time with offset := x.off } } else s
  if x.sel ≤ 1 then
    if (candOf s 2).stable then s else candMod 2 (fun c => { c with stable := true, stableTs := now s }) s
  else candLost 2 5 false s

/-- The offset of the two TS64 counters (R212); a REJOINING module steps to the partner's time (R399). -/
def twinOffset (x : TwinStatus) (s : State) : State :=
  let high := decide (2000 ≤ x.off.natAbs)
  let s := { s with twin := { s.twin with
    tsOffset := x.off, pathNs := x.path
    offHigh := if high then some (s.twin.offHigh.getD (now s)) else none, offTold := s.twin.offTold && high } }
  if s.mode.role = .rejoining ∧ s.twin.rejoin.tJoin = none ∧ x.off ≠ 0 then
    let s := tsStep ((now s : Int) + x.off).toNat 2 s
    { s with twin := { s.twin with tsOffset := 0, offHigh := none, lastSign := now s, lastFrame := now s, lockTs := now s } }
  else reselect (partnerTime x s)

/-- What the partner's role means here: it has diverged as principal (R219), its rejoin is done (R241), or it is no
principal for this rejoin (R243). -/
def partnerSeen (was : TwinRole) (s : State) : State :=
  let r := s.twin.partnerRole
  let s := if r = was then s else { s with twin := { s.twin with partnerFailed := [] } }
  if s.mode.role = .assistant ∧ r = .rejoining ∧ was = .principal ∧ s.twin.pend = none then rolePend .principal 11 0 s
  else if s.twin.rejoin.sender ∧ r = .assistant ∧ s.twin.rejoin.tAssist.isSome then
    { s with twin := { s.twin with rejoin := { s.twin.rejoin with
      phase := 0, result := 1, attempt := 0, tJoin := none, tAssist := none, done := [], sent := [], todo := [], sender := false } } }
  else if s.mode.role = .rejoining ∧ r ≠ .principal then rejoinFail 6 s
  else s

/-- STATUS (R212, R219, R224, R236). -/
def opStatus (h : TwinHdr) (x : TwinStatus) (s : State) : State :=
  frameIn h (fun s =>
    let was := s.twin.partnerRole
    let s := partnerReport x.role x.exec x.power x.epoch x.epochTs s.twin.partnerRx s
    let s := if s.mode.role = .assistant then
        { s with twin := { s.twin with masked := x.ann.foldl (fun l (n, t) =>
          (l.filter fun m => m.1 != n) ++ [(n, t + s.twin.cfg.xcutFilter * 1000)]) s.twin.masked } }
      else s
    aoUpdate (outsUpdate (doublePrincipal (now s) (partnerSeen was (twinOffset x s))))) s

/-! ### The change of role at T_sw (R237) -/

/-- ROLE_CHANGE: T_sw of the role that waits; or that of a new twin epoch (R484). -/
def opRoleChange (s : State) : State :=
  match s.twin.pend, s.twin.rotateAt with
  | some p, r =>
    let s := reach p.ts s
    let s := match r with
      | some t => if t ≤ p.ts then epochBump true 4 { s with twin := { s.twin with rotateAt := none } } else s
      | none => s
    let s := roleSet p.role p.cause p.ts s
    let s := { s with twin := { s.twin with pend := none, relinq := none } }
    if p.role = .isolated ∧ (p.cause = 7 ∨ p.cause = 8) then record 0x0406 0 (item64 p.info) s else s
  | none, some t => epochBump true 4 (reach t { s with twin := { s.twin with rotateAt := none } })
  | none, none => s

/-! ### The transmitter (R206, R207) -/

/-- The lowest order among the waiting frames of a class. -/
def classOrder (c : Nat) (l : List TwinFrame) : Option Nat :=
  l.foldl (fun b f => if f.cls = c then
      match b with
      | none => some f.order
      | some x => some (min x f.order)
    else b) none

/-- The frame of a class that goes first. -/
def takeClass (c : Nat) (l : List TwinFrame) : Option (TwinFrame × List TwinFrame) :=
  (classOrder c l).bind fun m => takeFirst (fun f : TwinFrame => f.cls == c && f.order == m) l

/-- The module's STATUS frame. -/
def statusFrame (s : State) : TwinFrame :=
  { cls := 5, typ := 3, tag := 0
    words := [roleCode s.mode.role, execCode s.mode.exec, powerCode s.mode.power, s.twin.epoch, s.twin.epochTs, s.time.selected,
      now s] ++ s.twin.announce.flatMap fun x => [x.1, x.2] }

/-- RELINQUISH, repeated until it is acknowledged or T_sw passes (R232). -/
def relinqFrame (s : State) : Option TwinFrame := match s.twin.relinq with
  | some r => if !r.acked && decide (now s < r.ts) then
      some { cls := 1, typ := 4, tag := 0, words := [r.ts, s.twin.epoch, r.cause] } else none
  | none => none

/-- A frame of the copy or pass under way: the next four pages. -/
def copyFrame (s : State) : Option (TwinFrame × State) :=
  match s.twin.rejoin.todo with
  | [] => none
  | l => some ({ cls := 4, typ := 7, tag := 0, state := (l.take 4).map fun k => .line k (pageNow s k) },
      { s with twin := { s.twin with rejoin := { s.twin.rejoin with todo := l.drop 4 } } })

/-- The frame of a slot: the first eligible class (R207). -/
def slotFrame (s : State) : TwinFrame × State :=
  let q (r : TwinFrame × List TwinFrame) : TwinFrame × State := (r.1, { s with twin := { s.twin with txQ := r.2 } })
  let l := s.twin.txQ
  if 63 ≤ s.twin.sinceStatus then (statusFrame s, s)
  else match takeClass 1 l, relinqFrame s, takeClass 2 l, takeClass 3 l, takeClass 4 l, copyFrame s with
  | some r, _, _, _, _, _ => q r
  | none, some f, _, _, _, _ => (f, s)
  | none, none, some r, _, _, _ => q r
  | none, none, none, some r, _, _ => q r
  | none, none, none, none, some r, _ => q r
  | none, none, none, none, none, some x => x
  | none, none, none, none, none, none => (statusFrame s, s)

/-- Code of a timer/counter kind in a frame. -/
def kindCode : TcKind → Nat
  | .unused => 0 | .ton => 1 | .tof => 2 | .tp => 3 | .ctu => 4 | .ctd => 5

/-- What a piece of state looks like on the link: its kind, place and fields, and its bytes. -/
def stateWords : RejoinItem → List Nat × List Byte
  | .line k d => ([1, k], d)
  | .exchange k d => ([2, k], d)
  | .block b c => ([3, b, c.preset.toNat, c.elapsed.toNat, c.last.toNat, kindCode c.kind, b2n c.retain, b2n c.new, b2n c.pulse,
      b2n c.inp, b2n c.q], [])
  | .slot n c => ([4, n, c.value.toNat, c.epoch, c.ord, c.quota, b2n c.token, c.owner], [])
  | .outs l => (5 :: l.map Prod.fst, l.map Prod.snd)
  | .task k t => ([6, k, t.cycle, t.start, t.sched, t.overrunCnt, t.skipCnt, t.lostCnt], [])
  | .forces l => (7 :: l.flatMap fun f => [f.kind, f.index, f.value.toNat, f.ts], [])
  | .seqBase c n => ([8, c, n], [])
  | .epoch e => ([9, e], [])

/-- Pages that have gone out are what the partner now holds. -/
def sentMark (x : RejoinItem) (r : Rejoin) : Rejoin := match x with
  | .line k d => { r with sent := bytesPut r.sent (256 * k) d }
  | _ => r

/-- TWN_LINK_LOAD: classes 1 and 2 among the slots of each second (R243). -/
def slotLoad (busy : Bool) (s : State) : State :=
  let t := s.twin
  let b := t.loadBusy + b2n busy
  let a := t.loadAll + 1
  if t.loadTs + 1000000000 ≤ now s then
    { s with twin := { t with load := 1000 * b / a, loadBusy := 0, loadAll := 0, loadTs := now s } }
  else { s with twin := { t with loadBusy := b, loadAll := a } }

/-- FLAGS [2]: a SECTOR_FAIL is pending (R206). -/
def failPending (s : State) : Bool := s.twin.txQ.any fun f => f.typ == 5

/-- TWIN_FRAME_SLOT (R206, R207): the next slot of 670 ns carries a frame. -/
def opFrameSlot (s : State) : State :=
  if !twinOn s ∨ !s.id.variantV ∨ !s.clk.root then s
  else
    let s := reach (s.twin.slotTs + 670) s
    let fail := failPending s
    let (f, s) := slotFrame s
    let flags := b2n f.last + 2 * b2n f.inc + 4 * b2n fail + 16 * (ownCarry s).toNat
    let st := f.state.map stateWords
    let s := emit { kind := .twin, dest := f.typ, args := [s.twin.seqTx, flags, f.tag] ++ f.words ++ st.flatMap Prod.fst
                    data := f.data ++ st.flatMap Prod.snd } s
    let r := f.state.foldl (fun r x => sentMark x r) s.twin.rejoin
    let s := { s with twin := { s.twin with
      slotTs := now s, seqTx := (s.twin.seqTx + 1) % 65536, frameTx := satInc s.twin.frameTx
      sinceStatus := if f.typ = 3 then 0 else s.twin.sinceStatus + 1
      announce := if f.typ = 3 then [] else s.twin.announce
      rejoin := { r with bytes := if f.typ = 7 then satAdd r.bytes 1024 else r.bytes } } }
    slotLoad (f.cls ≤ 2) s

/-! ### The meanings -/

/-- TWIN_LOCK (R209). -/
def execTwinLock (ns rejects proto : Nat) (s : State) : Out := .next (opTwinLock ns rejects proto s)
/-- TWIN_LOCK_LOST (R210). -/
def execTwinLockLost (s : State) : Out := .next (opTwinLockLost s)
/-- BLOCK_LOCK_LOST (R205). -/
def execBlockLockLost (lane : Nat) (s : State) : Out := .next (opBlockLockLost lane s)
/-- TWIN_SILENCE (R211). -/
def execTwinSilence (s : State) : Out := .next (opTwinSilence s)
/-- PARTNER_INVISIBLE (R229). -/
def execPartnerInvisible (s : State) : Out := .next (opPartnerInvisible s)
/-- RELINQUISH (R232). -/
def execRelinquish (h : TwinHdr) (ts epoch : Nat) (s : State) : Out := .next (opRelinquish h ts epoch s)
/-- ROLE_ACK (R232). -/
def execRoleAck (h : TwinHdr) (ts epoch : Nat) (s : State) : Out := .next (opRoleAck h ts epoch s)
/-- SECTOR_FAIL (R233). -/
def execSectorFail (h : TwinHdr) (sec cause : Nat) (s : State) : Out := .next (opSectorFail h sec cause s)
/-- PROOF (R252). -/
def execProof (h : TwinHdr) (m : ProofMsg) (s : State) : Out := .next (opProofFrame h m s)
/-- STATUS (R212). -/
def execStatus (h : TwinHdr) (x : TwinStatus) (s : State) : Out := .next (opStatus h x s)
/-- ROLE_CHANGE (R237). -/
def execRoleChange (s : State) : Out := .next (opRoleChange s)
/-- TWIN_FRAME_SLOT (R207). -/
def execTwinFrameSlot (s : State) : Out := .next (opFrameSlot s)

end Sys2Proof.Machine
end

