-- ==== Sys2Proof/Machine/Rejoin.lean ====
section
/-!
DEFINITION. The rejoin of a module (R233, R238 to R241): its start, the copy and its passes, the join instant, the arrival
of the tasks' state, failure and retry.
-/
namespace Sys2Proof.Machine

/-! ### Start (R233, R238) -/

/-- Sectors of this module in the safe state. -/
def safeSectors (s : State) : List Nat :=
  (((tasksUsed s).map fun k => (taskCfg s k).sector).eraseDups).filter fun sec => sectorState s sec == .safe

/-- No range of a sector's galleries is under LBIST, and every group of it has a range (R91, R190). -/
def sectorReady (s : State) (sec : Nat) : Bool :=
  sectorFits s sec && (sectorGals s sec).all fun g => (List.range 16).all fun r => (rangeOf s g r).st != .lbist

/-- The count of R191 for the sectors that wait: those at its limit, with their oldest restart. -/
def restartLimit (s : State) : List (Nat × Nat) :=
  (safeSectors s).filterMap fun sec =>
    let h := (tabGet [] s.fab.autoRestarts sec).filter fun t => decide (now s < t + 3600000000000)
    if 3 ≤ h.length then some (sec, h.getLast?.getD 0) else none

/-- The automatic return of a sector is counted (R191). -/
def restartCount (sec : Nat) (s : State) : State :=
  let h := (tabGet [] s.fab.autoRestarts sec).filter fun t => decide (now s < t + 3600000000000)
  record 0x0306 0 (items [sec, h.length + 1])
    { s with fab := { s.fab with autoRestarts := tabPut [] s.fab.autoRestarts sec (now s :: h) } }

/-- An attempt begins (R238): what the comparison finds decides whether the copy follows. -/
def rejoinBegin (x : RejoinCmp) (s : State) : State :=
  let r := s.twin.rejoin
  let s := record 0x040E 0 (items [s.twin.swCause, r.attempt]) { s with twin := { s.twin with
    rejoin := { attempt := r.attempt, phase := 1, start := now s } } }
  let s := setExec 12 .run s
  let copy (s : State) : State :=
    twinQueue { cls := 3, typ := 8, tag := 0, words := [1] }
      { s with twin := { s.twin with rejoin := { s.twin.rejoin with phase := 2, start := now s } } }
  match x with
  | .same => copy s
  | .protocol => rejoinFail 2 s
  | .image l => match loadVerdict l s with
    | none => copy (programSwap (loadStore l s))
    | some _ => rejoinFail 2 (loadRecord l s)

/-- An attempt may begin; never under MAINT SERVICE, which excludes RUN (R269). -/
def rejoinMay (s : State) : Bool :=
  !s.mode.maint && s.twin.locked && s.twin.partnerRole == .principal && s.twin.rejoin.phase == 0 && s.mode.exec != .safe && s.twin.pend.isNone

/-- REJOIN_START (R233, R238, R239). -/
def opRejoinStart (x : RejoinCmp) (s : State) : State :=
  if !rejoinMay s then s
  else if s.mode.role = .rejoining then
    if s.twin.rejoin.retryAt.isNone ∧ s.twin.rejoin.attempt < 3 ∧ (safeSectors s).all (sectorReady s) then rejoinBegin x s else s
  else if s.mode.role = .assistant ∧ !assistHost s ∧ sectorWaits s ∧ (safeSectors s).all (fun sec => sectorReady s sec &&
      (sectorTasks s sec).all fun k => (taskCfg s k).autoRestart) then
    match restartLimit s with
    | [] => rejoinBegin x (roleSet .rejoining 0 (now s) ((safeSectors s).foldl (fun s sec => restartCount sec s) s))
    | l => l.foldl (fun s (sec, t) => record 0x0307 0 (items [sec] ++ item64 t) s) s
  else s

/-- ISOLATED_REJOIN_READY (R235). -/
def opIsolatedReady (s : State) : State :=
  if s.mode.role = .isolated ∧ s.twin.locked ∧ s.twin.partnerRole = .principal ∧ s.twin.cfg.autoRejoin ∧
      s.twin.rejoin.attempt < 3 ∧ s.twin.pend = none then
    let s := reach (s.twin.lockTs + 1000000000) s
    roleSet .rejoining 0 (now s) s
  else s

/-! ### REJOIN_CTRL (R238 to R241) -/

/-- Pages that belong to a task. -/
def usedPages (s : State) : List Nat := match s.img with
  | none => []
  | some p => (p.pages.filter fun (key, u) => decide (key < 131072) && pageTask u != none).map Prod.fst

/-- The principal begins the full copy; a proof run gives way (R239, R254). -/
def copyBegin (s : State) : State :=
  if s.mode.role ≠ .principal then s
  else if !scanning s then twinQueue { cls := 3, typ := 8, tag := 0, words := [5, 6] } s
  else
    let s := proofAbort 9 s
    { s with twin := { s.twin with
      partnerRole := .rejoining
      tasks := s.twin.tasks.map fun (k, x) => (k, { x with equalN := 0 })
      rejoin := { attempt := s.twin.rejoin.attempt, phase := 2, start := now s, sender := true, todo := usedPages s } } }

/-- REJOIN_CTRL. -/
def opRejoinCtrl (h : TwinHdr) (m : RejoinMsg) (s : State) : State :=
  frameIn h (fun s =>
    let put (f : Rejoin → Rejoin) (s : State) : State := { s with twin := { s.twin with rejoin := f s.twin.rejoin } }
    let joining := s.mode.role == .rejoining && s.twin.rejoin.phase != 0
    match m with
    | .start => copyBegin s
    | .progress pass dirty _ => if joining then put (fun r => { r with phase := 3, pass := pass, dirty := dirty }) s else s
    | .join t => if joining then put (fun r => { r with phase := 4, tJoin := some t, ms := (t - r.start) / 1000000 }) s else s
    | .assist t => if joining then put (fun r => { r with tAssist := some t }) s else s
    | .failed result => rejoinFail result s) s

/-! ### REJOIN_DATA (R58, R239, R240) -/

/-- Task k as the principal captured it, in the cycle that waits here for it. -/
def taskArrive (k : Nat) (p : Task) (s : State) : State :=
  let s := taskMod k (fun t => { p with
    mode := .running, phase := t.phase, view := t.view, nextAt := t.nextAt, start := t.start, sched := t.sched
    strobeAt := t.strobeAt, outAt := 0, first := .rejoin, staged := [], taken := [], doneG := [], takenNext := []
    held := t.held, started := t.started, strobed := t.strobed, lastCut := t.lastCut, ended := false
    outForces := [], stretched := false, lateNext := false, skipNext := 0 }) s
  let s := { s with twin := { s.twin with rejoin := { s.twin.rejoin with done := s.twin.rejoin.done ++ [k] } } }
  let s := if (cyclicTasks s).all s.twin.rejoin.done.contains then
      { s with twin := { s.twin with rejoin := { s.twin.rejoin with phase := 5 } } } else s
  agreeTry k s

/-- A piece of state takes its place. -/
def stateArrive (x : RejoinItem) (s : State) : State := match x with
  | .line key d => if key < 131072 then pagePut key (d.take 256) s else s
  | .exchange key d => { s with fab := { s.fab with exPub := bytesPut s.fab.exPub (256 * key) (d.take 256) } }
  | .block b c => { s with fab := { s.fab with blocks := tabPut {} s.fab.blocks b c } }
  | .slot n c => slotMod n (fun _ => c) s
  | .outs l => { s with fab := { s.fab with outImg := l.foldl (fun m (o, v) => bytePut m o v) s.fab.outImg } }
  | .task k t => if k < 16 then taskArrive k t s else s
  | .forces l => forcesPut l s
  | .seqBase c n => btxMod c (fun x => { x with state := 1, opening := false, seqBase := n, safeLeft := 0 }) s
  | .epoch e => counterPut 8 e 1 s

/-- REJOIN_DATA: 1,024 bytes of state (R239). -/
def opRejoinData (h : TwinHdr) (l : List RejoinItem) (s : State) : State :=
  frameIn h (fun s =>
    if s.mode.role = .rejoining ∧ s.twin.rejoin.phase ≠ 0 then
      l.foldl (fun s x => stateArrive x s)
        { s with twin := { s.twin with rejoin := { s.twin.rejoin with bytes := satAdd s.twin.rejoin.bytes 1024 } } }
    else s) s

/-! ### Passes and the join instant (R239 to R241) -/

/-- Bytes of task k's pages that are dirty, and with them those it wrote in its last complete cycle. -/
def dirtyOf (_s : State) (p : ProgImage) (dirty : List Nat) (last : List (Nat × Nat)) (k : Nat) : Nat :=
  256 * (dirty.filter fun key => pageTask (tabGet .unassigned p.pages key) == some k).length +
    ((last.find? fun x => x.1 == k).map Prod.snd).getD 0

/-- REJOIN_PASS_END (R239, R240): the copy or a pass is out. `last` gives the bytes each task wrote in its last complete
cycle. T_join is declared when the criterion of R240 holds, else the next pass begins. -/
def opPassEnd (last : List (Nat × Nat)) (s : State) : State :=
  match s.img with
  | none => s
  | some p =>
    let r := s.twin.rejoin
    if !r.sender ∨ !(r.phase == 2 || r.phase == 3) ∨ r.todo ≠ [] then s
    else
      let dirty := (usedPages s).filter (pageDirty s)
      let bytes := 256 * dirty.length
      let pass := if r.phase = 3 then r.pass + 1 else r.pass
      let each := (tasksUsed s).map (dirtyOf s p dirty last)
      let s := twinQueue { cls := 3, typ := 8, tag := 0, words := [2, pass, bytes] ++ dirty } { s with twin := { s.twin with
        rejoin := { r with phase := 3, pass := pass, dirty := bytes, todo := dirty } } }
      if each.all (fun n => decide (n ≤ 262144)) ∧ each.foldl (· + ·) 0 ≤ 152764 then
        let t := switchInstant s 1000000
        let s := { s with twin := { s.twin with rejoin := { s.twin.rejoin with
          phase := 4, todo := [], tJoin := some t, ms := (t - r.start) / 1000000, done := [] } } }
        twinQueue { cls := 4, typ := 7, tag := 0, state := [.forces s.fab.forces, .epoch (counterGet s 8)] }
          (twinQueue { cls := 3, typ := 8, tag := 0, words := [3, t] } s)
      else s

/-- T_JOIN (R240): the rejoining module's tasks take their first instant at or after T_join; the principal hands each task
over at its first cycle start from then on. -/
def opTJoin (s : State) : State :=
  match s.twin.rejoin.tJoin with
  | none => s
  | some t =>
    let s := reach t s
    if s.mode.role = .rejoining ∧ (tasksUsed s).all fun k => (taskOf s k).mode != .running then
      let secs := ((tasksUsed s).map fun k => (taskCfg s k).sector).eraseDups
      let s := secs.foldl (fun s sec => setSector sec .run s) s
      let s := (tasksUsed s).foldl (fun s k => taskMod k (fun _ => {
        mode := .running, nextAt := if isCyclic k then some (gridAt (taskCfg s k) t) else none }) s) s
      let s := { s with twin := { s.twin with tasks := [] } }
      aoUpdate (latchUpdate (pairsRestart (cutsClose (fun _ => true) s)))
    else s

/-- REJOIN_FAILED (R239): 2 s without a join instant. -/
def opRejoinFailed (s : State) : State :=
  let r := s.twin.rejoin
  if (r.phase = 2 ∨ r.phase = 3) ∧ r.tJoin = none then rejoinFail 3 (reach (r.start + 2000000000) s) else s

/-- REJOIN_RETRY (R239): 10 s after a failed attempt the next one may begin. -/
def opRejoinRetry (s : State) : State :=
  match s.twin.rejoin.retryAt with
  | none => s
  | some t =>
    let s := reach t s
    { s with twin := { s.twin with rejoin := { s.twin.rejoin with retryAt := none } } }

/-- T_ASSIST (R241): cycles that start from here on use full agreement (`rejoinAt`), and the first such strobe makes the
module the assistant (`strobeRoles`). -/
def opTAssist (s : State) : State :=
  match s.twin.rejoin.tAssist with
  | none => s
  | some t => reach t s

/-! ### The meanings -/

/-- REJOIN_START (R238). -/
def execRejoinStart (x : RejoinCmp) (s : State) : Out := .next (opRejoinStart x s)
/-- ISOLATED_REJOIN_READY (R235). -/
def execIsolatedRejoinReady (s : State) : Out := .next (opIsolatedReady s)
/-- REJOIN_CTRL (R240). -/
def execRejoinCtrl (h : TwinHdr) (m : RejoinMsg) (s : State) : Out := .next (opRejoinCtrl h m s)
/-- REJOIN_DATA (R239). -/
def execRejoinData (h : TwinHdr) (l : List RejoinItem) (s : State) : Out := .next (opRejoinData h l s)
/-- REJOIN_PASS_END (R239). -/
def execRejoinPassEnd (last : List (Nat × Nat)) (s : State) : Out := .next (opPassEnd last s)
/-- T_JOIN (R240). -/
def execTJoin (s : State) : Out := .next (opTJoin s)
/-- REJOIN_FAILED (R239). -/
def execRejoinFailed (s : State) : Out := .next (opRejoinFailed s)
/-- REJOIN_RETRY (R239). -/
def execRejoinRetry (s : State) : Out := .next (opRejoinRetry s)
/-- T_ASSIST (R241). -/
def execTAssist (s : State) : Out := .next (opTAssist s)

end Sys2Proof.Machine
end

