-- ==== Sys2Proof/Machine/Power.lean ====
section
/-!
DEFINITION. Power-up, module resets, the root PLL, the supervisor's reactions and the watchdog (R12, R13, R528 to R539, R545,
R546), and the power feeds with the power-down sequence (R513, R540 to R544, R597).
-/
namespace Sys2Proof.Machine

/-! ### A module reset (R539) -/

/-- Ranges keep what the settings area holds of them (R193). -/
def galKept (x : Gallery) : Gallery :=
  { ranges := (x.ranges.map fun (r, y) =>
      (r, if y.persist then ({ st := y.st, persist := true, lamp0Ok := y.lamp0Ok, lamp1Ok := y.lamp1Ok } : Range) else {})).filter
        fun y => y.2 != {} }

/-- The fabric after a reset. -/
def fabKept (f : Fabric) : Fabric :=
  { gal := (f.gal.map fun (g, x) => (g, galKept x)).filter fun x => x.2 != {} }

/-- A Beam connection keeps its accepted epoch (R486). -/
def beamKept (b : Beam) : Beam :=
  { rx := (b.rx.map fun (c, x) => (c, ({ epoch := x.epoch } : BeamRx))).filter fun x => x.2 != {} }

/-- Time settings and UTC_OFFSET last (R392, R403); TS64 runs on until it is seeded. -/
def timeKept (t : TimeUnit) : TimeUnit :=
  { ts := t.ts, mono := t.mono, utcOff := t.utcOff, utcPtp := t.utcPtp, slewMax := t.slewMax, lateWin := t.lateWin
    ptpCfg := t.ptpCfg, ptpNext := t.ptpNext, slewNext := t.slewNext, winNext := t.winNext }

/-- What the array, the last-light register and the staging buffer in the always-on domain hold of the recorder (R507, R518,
R523). -/
def rcdKept (k : Recorder) : Recorder :=
  { staged := k.staged, committing := k.committing, stagedTs := k.stagedTs, early := k.early, nextSeq := k.nextSeq
    ring := k.ring, nextOff := k.nextOff, floor := k.floor, badPages := k.badPages, ll := k.ll }

/-- Without the supply the staging buffer loses its records but for those of a commit set under way; no time stands for a
buffer lost (R507, R518). -/
def stagedLost (k : Recorder) : Recorder := { k with staged := k.staged.take k.committing, stagedTs := none, ready := false }

/-- The NVM controller finishes or loses the commit sets that were under way; the array keeps its content (R507, R539). -/
def nvmKept (n : Nvm) : Nvm :=
  { counters := n.counters, areaA := n.areaA, areaB := n.areaB, operAt := n.operAt, jobs := n.jobs
    capture := n.capture.map fun c => { c with reqs := [] } }

/-- The watchdog's backup-domain and settings values (R534, R549); its boot window is set at the keeper's release. -/
def wdgKept (w : Wdg) (t : Nat) : Wdg :=
  { timeoutMs := w.timeoutMs, clkRc := w.setRc, setRc := w.setRc, deadline := t + 2000000000, monTrip := w.monTrip
    supA := w.supA, supB := w.supB, resetCnt := w.resetCnt, cause := w.cause, rstTs := w.rstTs, history := w.history
    pupPend := w.pupPend, rstPend := w.rstPend }

/-- The lamp room's store outlasts a reset (R466, R496); sessions' bars, requests and the TRNG do not. -/
def secKept (c : Sec) : Sec := { c with trng := .startup, trngFails := [], trngFailTs := 0, trngWait := [], trngFailedReqs := 0, bars := [] }

/-- The tag keeps its copies; a write in progress is lost, its copy stays invalid (R590). -/
def tagKept (t : Tag) : Tag :=
  { present := t.present, rf := t.rf, format := t.format
    regions := t.regions.map fun (r, x) => (r, { x with isPending := false, deferTs := none, retries := 0, fails := 0 }) }

/-- Every block returns to its reset value but for what lasts: the settings area, flash, fuses, the lamp room's store, the
array, the backup domain and the supervisor's measurements. Buoys are held disabled (R329, R539). -/
def resetState (s : State) : State :=
  { id := { s.id with node := s.id.nodeNext.getD s.id.node, nodeNext := none }
    mode := { safeLatched := s.mode.safeLatched }
    img := s.img, imgAlt := s.imgAlt, fab := fabKept s.fab
    net := { next := s.net.next, mac := s.net.mac, fw := s.net.fw }
    beam := beamKept s.beam, kp := { epoch := s.kp.epoch }, time := timeKept s.time, rtc := s.rtc
    rcd := rcdKept s.rcd, nvm := nvmKept s.nvm
    clk := { pllTs := now s }, wdg := wdgKept s.wdg (now s)
    pwr := { a := s.pwr.a, b := s.pwr.b, bankMv := s.pwr.bankMv, holdup := s.pwr.holdup, rideTs := s.pwr.rideTs }
    sec := secKept s.sec, fw := { s.fw with activating := false }, tag := tagKept s.tag
    free := s.free, out := s.out, pending := s.pending }

/-- A module reset with its cause (R539): the cause and TS64 go to the backup domain; a watchdog reset is counted (R536,
R538); a trial slot may fall back (R559); SERVICE ends (R279). -/
def moduleReset (cause : Nat) (s : State) : State :=
  let s := { s with rcd := { s.rcd with ready := false } }
  let s := trialFallback cause (serviceEnd 2 s)
  let w := s.wdg
  let dog := decide (cause = 3) || decide (cause = 4)
  let s := resetState { s with wdg := { w with
    cause := cause, rstTs := now s, rstPend := w.rstPend + 1
    resetCnt := if dog then satInc w.resetCnt else w.resetCnt
    history := if dog then (now s :: w.history).take 3 else w.history } }
  { s with mode := { s.mode with skipStart := decide (cause = 5) } }

/-- MODULE_RESET: a reset with one of the causes 1 to 6 (R539). -/
def opModuleReset (cause : Nat) (s : State) : State :=
  if cause = 0 ∨ 6 < cause ∨ s.pwr.off ∨ s.mode.held then s else moduleReset cause s

/-- SAFE_RESET_DELAY: 500 ms after the reply SAFE_LATCHED is cleared and the module resets (R267, R448). -/
def opSafeResetDelay (s : State) : State := match s.mode.safeResetAt with
  | none => s
  | some t =>
    let s := reach t s
    moduleReset 5 { s with mode := { s.mode with safeLatched := false } }

/-! ### Power-up and the root PLL (R13, R268, R410, R546) -/

/-- The backup domain has lost its content: the RTC restarts, and what else lay there is as before the first power-up. -/
def backupLost (s : State) : State :=
  { s with
    rtc := { cellMv := s.rtc.cellMv, capMv := s.rtc.capMv, lost := true }
    kp := { s.kp with epoch := 0 }
    mode := { s.mode with safeLatched := false }
    wdg := { s.wdg with resetCnt := 0, history := [], monTrip := false }
    sec := { s.sec with canEpoch := 0, canLast := 0, canReply := 0 }
    rcd := { s.rcd with ll := {} }
    time := { s.time with utcOff := 37, utcPtp := false } }

/-- POWER_UP: the logic supply becomes valid after `off` ns. `lost` when the backup sources were exhausted, `brown` when the
supply had failed outside SAVING or the bank ran out during it, `supA` and `supB` the results of R546. -/
def opPowerUp (off : Nat) (lost brown supA supB : Bool) (s : State) : State :=
  let cause := if s.mode.held && s.mode.causeOpen then 6 else if brown then 1 else 0
  let gone := lost || s.rtc.stopped
  let s := advance off { s with rcd := stagedLost s.rcd }
  let s := if gone then backupLost s else s
  let s := serviceEnd 2 s
  let w := s.wdg
  let s := resetState { s with
    wdg := { w with cause := cause, rstTs := now s, pupPend := w.pupPend + 1, rstPend := w.rstPend + 1, supA := supA, supB := supB }
    rtc := { s.rtc with supply := 0, stopped := false }
    sec := { s.sec with claimFails := 0 }
    pwr := { a := { lostTs := now s }, b := { lostTs := now s } } }
  { s with
    mode := { s.mode with held := !(supA && supB) }
    nvm := { s.nvm with operAt := s.time.mono } }

/-- The module is on and not held in reset by its supervisor. -/
def clocksMay (s : State) : Bool := !s.pwr.off && !s.mode.held

/-- ROOT_PLL_LOCK: every clock of the clock tree starts (R11, R13, R530), and TS64 is seeded (R411). -/
def opPllLock (s : State) : State :=
  if clocksMay s ∧ !s.clk.root then
    { s with
      clk := { s.clk with root := true, periph := true, tcxo := true, rc := true, xtal := !s.rtc.stopped }
      wdg := { s.wdg with monOk := true }
      time := { s.time with
        ts := seedTs s, selected := 3, target := 3, switching := false, seeded := true, seedInvalid := !s.rtc.valid
        holdTs := seedTs s } }
  else s

/-- PLL_LOCK_TIMEOUT: no lock within 5 ms; the module stays in reset, and the start is retried 100 ms after the last one,
which is a reset of cause 6 (R13, R539). -/
def opPllTimeout (s : State) : State :=
  if clocksMay s ∧ !s.clk.root then
    let s := reach (s.clk.pllTs + 100000000) (reach (s.clk.pllTs + 5000000) s)
    { s with
      clk := { s.clk with pllTs := now s }
      wdg := { s.wdg with cause := 6, rstTs := now s, rstPend := s.wdg.rstPend + 1 } }
  else s

/-! ### The supervisor's safe state (R9, R12, R545) -/

/-- The keeper cannot serve: the supervisor holds the module in reset (R267, R545). -/
def superHold (s : State) : State :=
  { s with mode := { s.mode with held := true }, kp := { s.kp with ready := false, restart := none } }

/-- CLOCK_FAULT: clock `c` of the clock codes has stopped or is off frequency; without root, keeper, peripheral clock or TCXO
the keeper cannot serve (R12, R532). -/
def opClockFault (c : Nat) (s : State) : State :=
  if !s.clk.root ∨ 8 < c then s
  else
    let root := decide (c = 0) || decide (c = 8)
    let s := { s with clk := { s.clk with
      root := s.clk.root && !root, periph := s.clk.periph && !root && c != 3, tcxo := s.clk.tcxo && c != 8 } }
    let s := if c = 3 ∧ !s.wdg.clkRc then { s with wdg := { s.wdg with monTrip := true, monOk := false } } else s
    let s := enterSafe 0x02D0 12 true s
    if root ∨ c = 2 ∨ c = 3 then superHold s else s

/-- KEEPER_CORE_FAULT (R9). -/
def opKeeperCore (s : State) : State :=
  if !s.clk.root ∨ s.mode.held then s else superHold (enterSafe 0x02D0 9 true s)

/-- The keeper has been released and the watchdog supervises it. -/
def wdgRuns (s : State) : Bool := s.kp.ready || s.kp.restart.isSome

/-- The watchdog expires: the trap handler stages WDG_EXPIRED and commits the buffer, and the hard timer starts (R536). -/
def wdgExpire (s : State) : State :=
  if s.wdg.expired.isSome then s
  else
    let w := s.wdg
    let s := { s with wdg := { w with expired := some (now s) } }
    flushStaged 1 (record 0x0F12 0x02D0 (items [windowCode w.window, w.timeoutMs] ++ item64 w.lastKick) s)

/-- RC_FAULT: the RC oscillator fails the vote; its deviation in 0.01 %, and whether it has stopped (R532). -/
def opRcFault (dev : Int) (stopped : Bool) (s : State) : State :=
  if s.clk.root ∧ s.clk.rc then
    let d := max (-32768) (min 32767 dev)
    let s := { s with
      clk := { s.clk with rc := false, rcDev := BitVec.ofInt 16 d, rcFaultCnt := satInc s.clk.rcFaultCnt }
      wdg := { s.wdg with monOk := s.wdg.monOk && !stopped } }
    let s := record 0x0F10 0x02D0 (itemInt dev ++ items [b2n stopped]) s
    if s.wdg.clkRc && wdgRuns s then wdgExpire { s with wdg := { s.wdg with monTrip := true } } else s
  else s

/-- RTC_XTAL_STOPPED: no edge for 100 ms; the RTC stands still (R530). -/
def opXtalStopped (s : State) : State :=
  { s with clk := { s.clk with xtal := false }, rtc := { s.rtc with stopped := true } }

/-! ### The watchdog (R534 to R538) -/

/-- WDG_EXPIRED: the count has run out (R536). -/
def opWdgExpired (s : State) : State :=
  if wdgRuns s ∧ s.wdg.expired.isNone then wdgExpire (reach s.wdg.deadline s) else s

/-- WDG_KICK: the keeper writes a kick word (R535). -/
def opWdgKick (w : Word) (s : State) : State :=
  if !s.kp.ready ∨ s.wdg.expired.isSome then s
  else if w = (if s.wdg.second then 0x0000A5A5 else 0x00005A5A) then
    { s with wdg := { s.wdg with
      second := !s.wdg.second, kickCnt := satInc s.wdg.kickCnt, lastKick := now s, window := .timeout
      deadline := now s + s.wdg.timeoutMs * 1000000 } }
  else wdgExpire s

/-- WDG_HARD_RESET: 1.0 ms after the expiry the hard timer resets the module (R536, R537). -/
def opWdgHard (s : State) : State := match s.wdg.expired with
  | none => s
  | some t =>
    let s := reach (t + 1000000) s
    moduleReset (if s.wdg.monTrip then 4 else 3) s

/-- WDG_CLOCK_STOPPED: no edge of the watchdog clock for 50 µs; with the peripheral clock the reaction of R12 governs
(R537). -/
def opWdgClock (s : State) : State :=
  if !wdgRuns s then s
  else
    let s := { s with wdg := { s.wdg with monTrip := true, monOk := false } }
    if s.wdg.clkRc then wdgExpire s else s

/-! ### The frequency counter (R533) -/

/-- FREQ_GATE_COMPLETE: the running gate ends with its two counts. -/
def opFreqGate (cnt ref : Word) (s : State) : State := match s.clk.measSel with
  | none => s
  | some (_, _, g) =>
    let s := reach (s.clk.measTs + 1000 * g) s
    { s with clk := { s.clk with measCnt := cnt, measRef := ref, measSeq := satInc s.clk.measSeq, measTs := now s } }

/-! ### Power feeds (R540 to R544, R597) -/

/-- A feed: B when `b`. -/
def feedOf (b : Bool) (s : State) : Feed := if b then s.pwr.b else s.pwr.a

/-- Changes a feed. -/
def feedMod (b : Bool) (f : Feed → Feed) (s : State) : State :=
  { s with pwr := if b then { s.pwr with b := f s.pwr.b } else { s.pwr with a := f s.pwr.a } }

/-- RIDE_THROUGH begins with the loss of the second feed (R271, R543). -/
def rideStart (s : State) : State :=
  if s.mode.power ≠ .normal ∨ s.pwr.rideTs.isSome then s
  else
    let s := { s with pwr := { s.pwr with rideTs := some (now s) } }
    let s := modeChange 7 (fun s => { s with mode := { s.mode with power := .rideThrough } }) s
    let s := record 0x0F04 0x02D0 (items [s.pwr.a.mv, s.pwr.b.mv, b2n s.pwr.holdup]) s
    let s := if s.pwr.holdup then s else record 0x0F08 0x02D0 (items [s.pwr.bankMv]) s
    relinquish 3 (proofAbort 8 (counterInc 9 s))

/-- A feed is no longer OK; with the other OK the loss is only counted and recorded (R541). -/
def feedGone (b : Bool) (s : State) : State :=
  if (feedOf (!b) s).ok then
    record 0x0F01 0x02D0 (items [b2n b, (feedOf b s).mv]) { s with pwr := { s.pwr with lossCnt := satInc s.pwr.lossCnt } }
  else rideStart s

/-- FEED_LOST: below 50.4 V for 100 µs, with its voltage (R540). -/
def opFeedGone (b : Bool) (mv : Nat) (s : State) : State :=
  if (feedOf b s).ok then
    feedGone b (feedMod b (fun f => { f with mv := mv, ok := false, lostTs := now s }) s)
  else feedMod b (fun f => { f with mv := mv }) s

/-- RIDE_THROUGH ends in time (R543): a feed became OK before 10 ms had passed. -/
def rideEnd (s : State) : State := match s.pwr.rideTs with
  | none => s
  | some t =>
    if s.mode.power ≠ .saving ∧ now s < t + 10000000 then
      let s := { s with pwr := { s.pwr with rideTs := none } }
      let s := modeChange 8 (fun s => { s with mode := { s.mode with power := .normal } }) s
      record 0x0F05 0x02D0 (items [(now s - t) / 1000]) s
    else s

/-- FEED_RESTORED: in range for 1 ms (R540). With the module off the always-on domain resets it, cause 2 (R544). -/
def opFeedBack (b : Bool) (mv : Nat) (s : State) : State :=
  if (feedOf b s).ok then s
  else
    let f := feedOf b s
    let s := feedMod b (fun f => { f with mv := mv, ok := true, disc := false }) s
    let s := record 0x0F02 0x02D0 (items [b2n b, (now s - f.lostTs) / 1000000]) s
    if s.pwr.off then moduleReset 2 { s with pwr := { s.pwr with off := false } } else rideEnd s

/-- FEED_OVERVOLT: a feed exceeds 137.5 V, with its peak (R540). -/
def opOvervolt (b : Bool) (mv : Nat) (s : State) : State :=
  let s := feedMod b (fun f => { f with mv := mv }) { s with pwr := { s.pwr with overCnt := satInc s.pwr.overCnt } }
  record 0x0F03 0x02D0 (items [b2n b, mv, 0]) s

/-- FEED_OVERVOLT_DISCONNECT: the input is disconnected and counts as lost (R540). -/
def opOvervoltDisc (b : Bool) (mv : Nat) (s : State) : State :=
  if (feedOf b s).disc then s
  else
    let was := (feedOf b s).ok
    let s := { s with pwr := { s.pwr with discCnt := satInc s.pwr.discCnt } }
    let s := feedMod b (fun f => { f with
      mv := mv, ok := false, disc := true, lostTs := if was then now s else f.lostTs }) s
    let s := record 0x0F03 0x02D0 (items [b2n b, mv, 1]) s
    if was then feedGone b s else s

/-- HOLDUP_READY_CHANGE: the bank's voltage (R597). -/
def opHoldup (mv : Nat) (s : State) : State :=
  { s with pwr := { s.pwr with
    bankMv := mv, holdup := if 44000 ≤ mv then true else if mv < 43000 then false else s.pwr.holdup } }

/-- SAVING_START: 10 ms without a feed (R543). Ranges complete their rung groups and take no more, and every cycle is
abandoned without a strobe (R513). -/
def opSavingStart (s : State) : State := match s.pwr.rideTs with
  | none => s
  | some t =>
    if s.mode.power = .saving then s
    else
      let s := reach (t + 10000000) s
      let s := modeChange 9 (fun s => { s with mode := { s.mode with power := .saving } }) s
      let s := record 0x0F06 0x02D0 (items [s.pwr.bankMv]) s
      let s := (tasksUsed s).foldl (fun s k => cycleAbandon k .notScanning s) s
      savingTry { s with nvm := { s.nvm with saveStage := 1 } }

/-- Every staged record is in the ring (step 5 of R513). -/
def ringFlush (s : State) : State :=
  if s.rcd.degraded then s
  else
    let s := s.rcd.staged.foldl (fun s r => ringAdd r s) s
    { s with
      rcd := { s.rcd with staged := [], committing := 0, stagedTs := none }
      nvm := { s.nvm with jobs := s.nvm.jobs.filter fun j => match j.work with
        | .append _ => false
        | .counter _ _ => false
        | _ => true } }

/-- POWER_DOWN_DONE: the power-down sequence has completed (R513, R544). With a feed OK the module resets, cause 2; else it
is off. -/
def opPowerDownDone (s : State) : State :=
  let s := savingTry s
  if s.nvm.saveStage = 2 ∧ s.nvm.capture.isNone ∧ !s.pwr.off then
    let ms := (now s - (s.pwr.rideTs.getD (now s))) / 1000000
    let s := ringFlush (record 0x0F07 0x02D0 (items [ms, s.pwr.bankMv]) s)
    let s := { s with pwr := { s.pwr with rideTs := none } }
    if s.pwr.a.ok ∨ s.pwr.b.ok then moduleReset 2 s
    else
      let s := resetState { s with rcd := { s.rcd with ready := false } }
      { s with pwr := { s.pwr with off := true } }
  else s

/-! ### The commands (R531, R533, R534, R448) -/

/-- The watchdog's source with this code is READY. -/
def srcReady (s : State) (src : Nat) : Bool := if src = 0 then s.clk.periph else s.clk.rc

/-- CLOCK_SELECT (R531). -/
def opClockSelect (s : State) : State :=
  simple 0x0115 (fun q s =>
    if s.mode.exec ≠ .stop then some 0x0302
    else if arg q 0 ≠ 0 ∨ 1 < arg q 1 then some 0x0303
    else if !srcReady s (arg q 1) then some 0x0309
    else none)
    (fun q s =>
      let old := b2n s.wdg.clkRc
      let s := { s with wdg := { s.wdg with clkRc := arg q 1 == 1 } }
      (rcAns 0, if old = arg q 1 then s else record 0x0F16 0 (items [0, old, arg q 1] ++ item128 q.ident) s)) s

/-- Nominal frequencies of the clock codes in Hz (R533). -/
def clockHz : List Nat :=
  [2000000000, 500000000, 1000000000, 250000000, 125000000, 80000000, 50000000, 200000000, 25000000, 32000000, 32768]

/-- CLOCK_MEASURE (R533). -/
def opClockMeasure (s : State) : State :=
  simple 0x0116 (fun q _ =>
    if 10 < arg q 0 ∨ 10 < arg q 1 ∨ clockHz.getD (arg q 1) 0 * arg q 2 < 16000000 then some 0x0303 else none)
    (fun q s =>
      let sel := (arg q 0, arg q 1, arg q 2)
      if s.clk.measSel = some sel then
        (if s.clk.measSeq = 0 then rcAns 0x0201 else { rc := 0, data := [s.clk.measCnt, s.clk.measRef] }, s)
      else
        (rcAns 0x0201, { s with clk := { s.clk with measSel := some sel, measSeq := 0, measTs := now s } })) s

/-- WATCHDOG_SET (R534). -/
def opWatchdogSet (s : State) : State :=
  simple 0x0117 (fun q s =>
    if s.mode.exec ≠ .stop then some 0x0302 else if !srcReady s (arg q 1) then some 0x0309 else none)
    (fun q s =>
      let w := s.wdg
      let rc := arg q 1 == 1
      let s := { s with wdg := { w with
        timeoutMs := arg q 0, clkRc := rc, setRc := rc, deadline := now s + arg q 0 * 1000000 } }
      (rcAns 0, nvmJournal 3
        (record 0x0F17 0 (items [w.timeoutMs, b2n w.clkRc, arg q 0, arg q 1] ++ item128 q.ident) s))) s

/-! ### The meanings -/

/-- MODULE_RESET (R539). -/
def execModuleReset (cause : Nat) (s : State) : Out := .next (opModuleReset cause s)
/-- SAFE_RESET_DELAY (R448). -/
def execSafeResetDelay (s : State) : Out := .next (opSafeResetDelay s)
/-- POWER_UP (R268). -/
def execPowerUp (off : Nat) (lost brown supA supB : Bool) (s : State) : Out :=
  .next (opPowerUp off lost brown supA supB s)
/-- ROOT_PLL_LOCK (R13). -/
def execRootPllLock (s : State) : Out := .next (opPllLock s)
/-- PLL_LOCK_TIMEOUT (R13). -/
def execPllLockTimeout (s : State) : Out := .next (opPllTimeout s)
/-- CLOCK_FAULT (R12). -/
def execClockFault (c : Nat) (s : State) : Out := .next (opClockFault c s)
/-- KEEPER_CORE_FAULT (R9). -/
def execKeeperCoreFault (s : State) : Out := .next (opKeeperCore s)
/-- RC_FAULT (R532). -/
def execRcFault (dev : Int) (stopped : Bool) (s : State) : Out := .next (opRcFault dev stopped s)
/-- RTC_XTAL_STOPPED (R530). -/
def execRtcXtalStopped (s : State) : Out := .next (opXtalStopped s)
/-- WDG_KICK (R535). -/
def execWdgKick (w : Word) (s : State) : Out := .next (opWdgKick w s)
/-- WDG_EXPIRED (R536). -/
def execWdgExpired (s : State) : Out := .next (opWdgExpired s)
/-- WDG_HARD_RESET (R536). -/
def execWdgHardReset (s : State) : Out := .next (opWdgHard s)
/-- WDG_CLOCK_STOPPED (R537). -/
def execWdgClockStopped (s : State) : Out := .next (opWdgClock s)
/-- FREQ_GATE_COMPLETE (R533). -/
def execFreqGateComplete (cnt ref : Word) (s : State) : Out := .next (opFreqGate cnt ref s)
/-- FEED_LOST (R540). -/
def execFeedLost (b : Bool) (mv : Nat) (s : State) : Out := .next (opFeedGone b mv s)
/-- FEED_RESTORED (R540). -/
def execFeedRestored (b : Bool) (mv : Nat) (s : State) : Out := .next (opFeedBack b mv s)
/-- FEED_OVERVOLT (R540). -/
def execFeedOvervolt (b : Bool) (mv : Nat) (s : State) : Out := .next (opOvervolt b mv s)
/-- FEED_OVERVOLT_DISCONNECT (R540). -/
def execFeedOvervoltDisconnect (b : Bool) (mv : Nat) (s : State) : Out := .next (opOvervoltDisc b mv s)
/-- SAVING_START (R543). -/
def execSavingStart (s : State) : Out := .next (opSavingStart s)
/-- POWER_DOWN_DONE (R544). -/
def execPowerDownDone (s : State) : Out := .next (opPowerDownDone s)
/-- HOLDUP_READY_CHANGE (R597). -/
def execHoldupReadyChange (mv : Nat) (s : State) : Out := .next (opHoldup mv s)
/-- CLOCK_SELECT (R531). -/
def execClockSelect (s : State) : Out := .next (opClockSelect s)
/-- CLOCK_MEASURE (R533). -/
def execClockMeasure (s : State) : Out := .next (opClockMeasure s)
/-- WATCHDOG_SET (R534). -/
def execWatchdogSet (s : State) : Out := .next (opWatchdogSet s)

end Sys2Proof.Machine
end

