-- ==== Sys2Proof/Machine/Start.lean ====
section
/-!
DEFINITION. Start-up: recovery of the array (R507), verification of the firmware and the release of the keeper (R472, R550),
the start sequence (R268) and the end of the search for the partner (R231).
-/
namespace Sys2Proof.Machine

/-! ### Recovery of the array (R506 to R508) -/

/-- The kind of a commit set: 0 APPEND, 1 SHADOW, 2 JOURNAL. -/
def workKind : NvmWork → Nat
  | .append _ => 0
  | .counter _ _ => 0
  | .retain _ _ _ => 1
  | .journal _ => 2
  | .zero => 2

/-- A commit set is completed: a journal set always is (assumption log, entry 64), another by its own check. -/
def workKept (w : NvmWork) (fate : Option Bool) : Bool := workKind w == 2 || fate == some true

/-- What a set kept leads to. -/
def recoverKeep (w : NvmWork) (s : State) : State := match w with
  | .append n => appendDone n s
  | .retain _ a st => match s.nvm.capture with
    | some c => if st = 3 then retainDone c s else areaMod a (fun x => { x with writing := false }) s
    | none => s
  | _ => s

/-- What a set rolled back leads to: its records are lost with the buffer, or still wait in it (R518); its area stays
unused. -/
def recoverDrop (w : NvmWork) (s : State) : State := match w with
  | .append n =>
    if s.rcd.stagedTs.isSome then s else { s with rcd := { s.rcd with staged := s.rcd.staged.drop n, committing := 0 } }
  | .retain _ a _ => areaMod a (fun x => { x with writing := false }) s
  | _ => s

/-- A counter's last slots that do not hold are ignored: the value before the oldest of them counts, up to the newest slot
that holds. The sets are given newest first. -/
def counterBack (c : Nat) : List (NvmWork × Option Bool) → CounterRing → CounterRing
  | [], r => r
  | (.counter d old, fate) :: l, r =>
    if c ≠ d then counterBack c l r
    else if fate = some true then r
    else counterBack c l { r with value := old, gen := r.gen - 1, slot := (r.slot + 63) % 64 }
  | _ :: l, r => counterBack c l r

/-- Counters that a list of sets writes. -/
def countersIn (l : List (NvmWork × Option Bool)) : List Nat :=
  (l.filterMap fun x => match x.1 with
    | .counter c _ => some c
    | _ => none).eraseDups

/-- Sets completed and rolled back, by kind. A set not begun is neither. -/
def fateCounts (l : List (NvmWork × Option Bool)) : List Nat :=
  (List.range 3).flatMap fun k =>
    let b := l.filter fun x => workKind x.1 == k && x.2.isSome
    let d := (b.filter fun x => workKept x.1 x.2).length
    [d, b.length - d]

/-- NVM_RECOVERED: every interrupted commit set is completed or rolled back (R507). `fates` has one entry for each set of the
queue, oldest first: none when it had not begun, else whether its check holds. `bad` are counters without a valid slot. -/
def opNvmRecovered (fates : List (Option Bool)) (bad : List Nat) (s : State) : State :=
  if !s.clk.root ∨ s.nvm.ready then s
  else
    let l := (List.range s.nvm.jobs.length).zip s.nvm.jobs |>.map fun (i, j) => (j.work, fates.getD i none)
    let cs := (countersIn l).foldl (fun t c => tabMod {} t c (counterBack c l.reverse)) s.nvm.counters
    let cs := bad.foldl (fun t c => tabMod {} t c fun r => { r with value := 0, valid := false }) cs
    let k := fateCounts l
    let s := { s with nvm := { s.nvm with
      jobs := [], counters := cs, recKinds := k
      recDone := k.getD 0 0 + k.getD 2 0 + k.getD 4 0, recRoll := k.getD 1 0 + k.getD 3 0 + k.getD 5 0
      recovered := k.any (· != 0) } }
    let s := l.foldl (fun s x => if workKept x.1 x.2 then recoverKeep x.1 s else recoverDrop x.1 s) s
    let left := if s.rcd.stagedTs.isSome then s.rcd.staged else []
    let s := { s with
      rcd := { s.rcd with staged := left, committing := 0, stagedTs := if left = [] then none else s.rcd.stagedTs }
      nvm := { s.nvm with ready := true, jobs := [], capture := none, zeroing := false } }
    if recBytes left ≥ 256 ∨ left.any fun r => urgentCode r.code then flushStaged 1 s else s

/-! ### The recorder at the keeper's start (R519, R524, R550) -/

/-- Usable pages of the ring. -/
def ringUsable (s : State) : Nat := 8192 - s.rcd.badPages.eraseDups.length

/-- The scan of the ring sets the next SEQ; the events that arose before are staged in their order. -/
def recorderStart (ringOk : Bool) (s : State) : State :=
  let k := s.rcd
  let next := match k.staged.getLast?, (k.ring.filter RingRec.crcOk).getLast? with
    | some r, _ => (r.seq + 1) % 2 ^ 32
    | none, some r => (r.rcd.seq + 1) % 2 ^ 32
    | none, none => k.nextSeq
  let early := k.early
  let s := { s with rcd := { k with
    ready := true, nextSeq := next, degraded := decide (ringUsable s < 512), early := [] } }
  let s := if ringOk then s else recorderFail 2 0 s
  early.foldl (fun s r => stage r.code r.source 0 r.ts r.payload s) s

/-- A valid and uncopied last-light record is copied into the ring (R524). -/
def lastLightCopy (s : State) : State :=
  let l := s.rcd.ll
  if l.valid ∧ !l.copied ∧ !s.rcd.degraded then
    record 0x0E12 0x02C0 (items [l.seq, l.lost]) (stage 0x0E11 0x02C0 2 l.ts (llHead l ++ (llPending l).take 200) s)
  else s

/-- The RTC's records of what happened while the module was off (R407, R409, R410). -/
def rtcStart (s : State) : State :=
  let s := (List.range 2).foldl (fun s k =>
    match (tabGet ({} : Alarm) s.rtc.alms k).late with
    | some c => almMod k (fun a => { a with late := none }) (record 0x0B12 0x02B0 (items ([k] ++ calItems c ++ [1])) s)
    | none => s) s
  let s := if s.rtc.firstValid ∧ !s.rtc.firstTold then
      { (record 0x0B14 0x02B0 (items (calItems s.rtc.firstCal ++ [s.rtc.firstSub, s.rtc.bkpCnt])) s) with
        rtc := { s.rtc with firstTold := true } } else s
  if s.rtc.lost then
    { (record 0x0B16 0x02B0 (items [s.rtc.cellMv, s.rtc.capMv]) s) with rtc := { s.rtc with lost := false } }
  else s

/-- A refused slot: its part (1 lamp room, 2 keeper) and the check that failed: 1 signature, 2 hardware type code, 3 SVN. -/
def slotRefusal (f : FwSlot) (sig : Option (Nat × Nat)) (s : State) : Option (Nat × Nat) :=
  match sig with
  | some (part, c) =>
    if part = 2 ∧ f.svnL < s.sec.svnLroom then some (1, 3) else some (part, c)
  | none =>
    if f.svnL < s.sec.svnLroom then some (1, 3) else if f.svnK < s.sec.svnKeeper then some (2, 3) else none

/-- The events of the start (R472, R507, R508, R539, R537). `refused` are the slots that failed. -/
def startRecords (refused : List (Nat × Nat × Nat)) (s : State) : State :=
  let s := record 0x0F15 0x02D0 (items [s.wdg.cause] ++ item64 s.wdg.rstTs) s
  let s := if s.wdg.monTrip then
      { (record 0x0F13 0x02D0 (items [b2n s.wdg.clkRc]) s) with wdg := { s.wdg with monTrip := false } } else s
  let f := fwActive s
  let s := record 0x0D01 0 (items [b2n s.fw.active, f.keeperVer.toNat, f.lroomVer.toNat, f.svnK, f.svnL]) s
  let s := refused.foldl (fun s (x, part, c) => record 0x0D02 0 (items [x, part, c]) s) s
  let s := if s.nvm.recovered then record 0x0E01 0x02C0 (items s.nvm.recKinds) s else s
  let s := s.nvm.counters.foldl (fun s x => if x.2.valid then s else record 0x0E07 0x02C0 (items [x.1]) s) s
  lastLightCopy (rtcStart s)

/-! ### The keeper's start (R268, R434, R528, R535, R538) -/

/-- Step 3 of R268: the module enters RUN with the restart of START when the conditions of STOP to RUN hold. -/
def startRun (s : State) : State :=
  let kind := (s.img.map ProgImage.start).getD .stop
  let may := !s.mode.skipStart && !s.wdg.repeatHold && !s.mode.safeLatched && kind != .stop && runMode s && imageOk s &&
    !s.sec.margHold
  let s := { s with mode := { s.mode with skipStart := false } }
  if may then runDeclare (kind == .warm) true (runInstant s) s else s

/-- Counters 1 to 3 count power-ups, resets and watchdog resets (R509). -/
def startCounters (s : State) : State :=
  let add (c n : Nat) (s : State) : State := if n = 0 then s else counterPut c (counterGet s c + n) 1 s
  let s := add 2 s.wdg.rstPend (add 1 s.wdg.pupPend s)
  let s := if counterGet s 3 = s.wdg.resetCnt then s else counterPut 3 s.wdg.resetCnt 1 s
  { s with wdg := { s.wdg with pupPend := 0, rstPend := 0 } }

/-- The tag answers with its FORMAT; with another than 0x5A540001 it is written with empty regions (R589). -/
def tagStart (tag : Option Word) (s : State) : State := match tag with
  | none => { s with tag := { s.tag with present := false } }
  | some f =>
    if f = 0x5A540001 then { s with tag := { s.tag with present := true, format := f } }
    else record 0x0822 0 (items [f.toNat])
      { s with tag := { s.tag with present := true, format := 0x5A540001, regions := [] } }

/-- The stored image is taken; one that the current owner's certificate does not verify is recorded and not run (R480). -/
def imageStart (s : State) : State := match s.img with
  | none => s
  | some p =>
    let s := imageTake p s
    if imageOk s then s else record 0x0D0A 0 (items [1, 1] ++ item128 s.sec.imgSigner) s

/-- CLK_EN at keeper start: the twin link on ZC-5124-V, the Ethernet ports and the buoy interfaces (R528). -/
def enStart (s : State) : State :=
  let m : BitVec 15 := BitVec.ofNat 15 (0x7700 + 16 * b2n s.id.variantV)
  { s with clk := { s.clk with en := s.clk.en ||| m } }

/-- The watchdog supervises the keeper from its release: the boot window of 2,000 ms (R535). -/
def bootWindow (s : State) : State :=
  { s with wdg := { s.wdg with armed := true, window := .boot, deadline := now s + 2000000000, second := false } }

/-- After the third watchdog reset within 3,600 s the start-up run is skipped (R538). -/
def repeatCheck (s : State) : State :=
  if (s.wdg.cause = 3 ∨ s.wdg.cause = 4) ∧ 3 ≤ wdgRepeat s then
    record 0x0F14 0x02D0 ((s.wdg.history.take 3).reverse.flatMap item64) { s with wdg := { s.wdg with repeatHold := true } }
  else s

/-- The keeper is released and starts (R268, R472, R484, R550). -/
def keeperStart (refused : List (Nat × Nat × Nat)) (ringOk : Bool) (tag : Option Word) (s : State) : State :=
  let s := startRecords refused (recorderStart ringOk s)
  let s := enStart (bootWindow (settingsApply s))
  let s := { s with
    kp := { s.kp with ready := true, epoch := (s.kp.epoch + 1) % 2 ^ 32 }, fw := { s.fw with runSince := now s } }
  let s := repeatCheck (imageStart (epochBumps 2 (startCounters s)))
  let s := tagStart tag s
  let s := if s.mode.safeLatched then setExec 11 .safe s else s
  let s := { s with mode := { s.mode with startDone := true } }
  if s.twin.cfg.en then searchBegin s else startRun s

/-- BOOT_VERIFIED: the verdict on the active slot, then on the other; the keeper starts from the first that passes, and with
none the module stays in reset (R472). `sigA` and `sigB` name the part of a slot whose signature or hardware type fails. -/
def opBootVerified (sigA sigB : Option (Nat × Nat)) (ringOk : Bool) (tag : Option Word) (s : State) : State :=
  if !s.clk.root ∨ !s.nvm.ready ∨ s.kp.ready ∨ s.kp.restart.isSome ∨ !clocksMay s ∨ !s.wdg.supA ∨ !s.wdg.supB then s
  else
    let verdict (b : Bool) : Option (Nat × Nat) :=
      slotRefusal (if b then s.fw.slotB else s.fw.slotA) (if b then sigB else sigA) s
    let a := s.fw.active
    match verdict a, verdict (!a) with
    | none, _ => keeperStart [] ringOk tag s
    | some x, none => keeperStart [(b2n a, x)] ringOk tag { s with fw := { s.fw with active := !a } }
    | some _, some _ => { s with mode := { s.mode with held := true } }

/-! ### The search for the partner (R231) -/

/-- This module has the lower node number. -/
def lowerNode (s : State) : Bool := decide (s.id.node < s.twin.cfg.partnerNode)

/-- The role the search leads to; `out` when STARTUP_WAIT has passed. None while it goes on. -/
def searchRole (s : State) (out : Bool) : Option TwinRole :=
  let t := s.twin
  if t.locked then
    if t.partnerRole = .principal then
      (if t.partnerExec = .run ∨ t.partnerExec = .proof ∨ out then some .rejoining else none)
    else if t.partnerRole = .noRole then
      (if lowerNode s then some .principal else if out then some .principal else none)
    else if out then some .principal else none
  else if !out then none
  else if !t.visible then some .principal
  else if t.partnerRole = .principal then some .isolated
  else if t.partnerRole = .noRole then some (if lowerNode s then .principal else .isolated)
  else some .principal

/-- STARTUP_SEARCH_END: the search ends as soon as the link decides it, else at STARTUP_WAIT; the module takes its role, and a
principal or isolated module goes on with step 3 of R268. -/
def opSearchEnd (s : State) : State := match s.twin.searchEnd with
  | none => s
  | some t =>
    if !s.twin.search then s
    else
      let s := if (searchRole s (decide (t ≤ now s))).isSome then s else reach t s
      match searchRole s (decide (t ≤ now s)) with
      | none => s
      | some r =>
        let s := { s with twin := { s.twin with search := false, searchEnd := none } }
        let s := roleSet r 9 (now s) s
        if r = .rejoining then s else startRun s

/-! ### The meanings -/

/-- NVM_RECOVERED (R507). -/
def execNvmRecovered (fates : List (Option Bool)) (bad : List Nat) (s : State) : Out := .next (opNvmRecovered fates bad s)
/-- BOOT_VERIFIED (R472). -/
def execBootVerified (sigA sigB : Option (Nat × Nat)) (ringOk : Bool) (tag : Option Word) (s : State) : Out :=
  .next (opBootVerified sigA sigB ringOk tag s)
/-- STARTUP_SEARCH_END (R231). -/
def execStartupSearchEnd (s : State) : Out := .next (opSearchEnd s)

end Sys2Proof.Machine
end

