-- ==== Sys2Proof/Machine/Tag.lean ====
section
/-!
DEFINITION. The service tag (R589 to R593): what each region holds, writes by the keeper, and the priority of the RF side.
-/
namespace Sys2Proof.Machine

/-! ### Contents (R589; byte order in the assumption log, entry 65) -/

/-- A number in `k` bytes, least significant first. -/
def leBytes (k n : Nat) : List Byte := (List.range k).map fun i => BitVec.ofNat 8 (n / 256 ^ i)

/-- A word in four bytes. -/
def leW (w : Word) : List Byte := leBytes 4 w.toNat

/-- The first `k` bytes of a number of `n` bytes, most significant first. -/
def headBytes (n k x : Nat) : List Byte := (List.range k).map fun i => BitVec.ofNat 8 (x / 256 ^ (n - 1 - i))

/-- A list of bytes brought to a length. -/
def padTo (n : Nat) (l : List Byte) : List Byte := (l ++ List.replicate n 0).take n

/-- Region 0: the identity. -/
def tagIdentity (s : State) : List Byte :=
  leW (modType s) ++ leBytes 8 s.id.serial.toNat ++ leBytes 4 s.id.node ++ headBytes 6 6 s.net.mac.toNat ++
    leBytes 4 (b2n s.sec.owned) ++ headBytes 48 16 s.id.idevHash ++ headBytes 48 16 s.sec.ownerHash ++
    headBytes 16 16 s.sec.domainId

/-- Region 1: the firmware and the program. -/
def tagFirmware (s : State) : List Byte :=
  leW (fwActive s).keeperVer ++ leW (fwActive s).lroomVer ++ leW (modFwSlot s) ++ leBytes 4 s.sec.svnKeeper ++
    leBytes 4 s.sec.svnLroom ++ headBytes 16 16 ((s.img.map ProgImage.id).getD 0) ++ leW (regRfxHead s 4)

/-- An event summary: 48 bytes. -/
def tagSummary (r : Rec) : List Byte :=
  leBytes 4 r.seq ++ leBytes 8 r.ts ++ leBytes 2 r.code ++ leBytes 2 r.source ++ leBytes 2 r.flags ++ leBytes 2 (recLen r) ++
    padTo 28 r.payload

/-- Records of the ring and of the staging buffer that a summary may hold, newest first. -/
def tagRecords (s : State) : List Rec :=
  ((s.rcd.ring.map RingRec.rcd ++ s.rcd.staged).filter fun r =>
    r.flags / 4 % 2 == 0 && !limitedCodes.contains r.code).reverse

/-- Region 2: the last 32 event summaries, newest first. -/
def tagEvents (s : State) : List Byte := ((tagRecords s).take 32).flatMap tagSummary

/-- Region 3: the newest SAFE_ENTER or SECTOR_SAFE with the 8 summaries before it. -/
def tagFault (s : State) : List Byte :=
  match (tagRecords s).dropWhile fun r => r.code != 0x0114 && r.code != 0x010A with
  | [] => []
  | r :: before =>
    leBytes 8 r.ts ++ leBytes 2 r.code ++ leBytes 2 r.source ++ leW (modeWord s) ++ leW (modStatus s) ++ leW (modUnits s) ++
      leBytes 4 s.wdg.cause ++ (before.take 8).flatMap tagSummary

/-- A buoy life summary: 64 bytes. -/
def tagBuoy (s : State) (b : Nat) : List Byte :=
  let k := sockOf s b
  padTo 64 (leBytes 4 k.typ ++ leBytes 4 k.serial ++ (lifeVals k).flatMap (leBytes 4) ++ leBytes 4 (life s b).1 ++
    leBytes 4 (life s b).2 ++ leBytes 4 (sockCode k.st))

/-- The content of a region. -/
def tagContent (s : State) (r : Nat) : List Byte :=
  if r = 0 then tagIdentity s
  else if r = 1 then tagFirmware s
  else if r = 2 then tagEvents s
  else if r = 3 then tagFault s
  else (List.range 3).flatMap (tagBuoy s)

/-! ### Writes (R590) -/

/-- Changes a region. -/
def tagMod (r : Nat) (f : TagRegion → TagRegion) (s : State) : State :=
  { s with tag := { s.tag with regions := tabMod {} s.tag.regions r f } }

/-- Changes a copy of a region: its VERSION, data, validity and TS_S. -/
def tagCopy (r : Nat) (b : Bool) (ver : Nat) (data : List Byte) (ok : Bool) (ts : Nat) (s : State) : State :=
  tagMod r (fun x => if b then { x with verB := ver, dataB := data, okB := ok, tsB := ts }
    else { x with verA := ver, dataA := data, okA := ok, tsA := ts }) s

/-- The copy that a write takes: the one that does not hold the newer valid version, A when neither is valid. -/
def tagTarget (x : TagRegion) : Bool := (x.okA || x.okB) && !tagNewB x

/-- A write begins: the copy's VERSION becomes 0, then the content follows. -/
def tagBegin (r : Nat) (s : State) : State :=
  let b := tagTarget (tagReg s r)
  let d := tagContent s r
  let s := tagMod r (fun x => { x with isPending := false }) (tagCopy r b 0 d false 0 s)
  { s with tag := { s.tag with writing := some (r, b), writeTs := now s } }

/-- A write of a region is deferred at `t`. -/
def tagDefer (r t : Nat) (s : State) : State :=
  let x := tagReg s r
  let s := if x.deferTs.isSome then s
    else { s with tag := { s.tag with deferCnt := satInc s.tag.deferCnt } }
  tagMod r (fun x => { x with isPending := true, deferTs := some (x.deferTs.getD t) }) s

/-- The keeper can write the tag. -/
def tagWorks (s : State) : Bool := s.kp.ready && s.tag.present

/-- TAG_REGION_WRITE: a trigger of region r. -/
def opTagWrite (r : Nat) (s : State) : State :=
  if !tagWorks s ∨ 4 < r then s
  else if s.tag.rf then tagDefer r (now s) s
  else if s.tag.writing.isSome then tagMod r (fun x => { x with isPending := true }) s
  else tagBegin r s

/-- The next region whose write waits. -/
def tagNext (s : State) : State :=
  if s.tag.rf then s
  else match (List.range 5).find? fun r => (tagReg s r).isPending with
    | some r => tagBegin r s
    | none => s

/-- Blocks of 4 bytes of a copy with its header of 16 bytes. -/
def tagBlocks (d : List Byte) : Nat := 4 + (d.length + 3) / 4

/-- TAG_WRITE_COMPLETE: the last block of the running write is written, one block in 40 µs, and the copy is read back. -/
def opTagComplete (ok : Bool) (s : State) : State := match s.tag.writing with
  | none => s
  | some (r, b) =>
    let x := tagReg s r
    let d := if b then x.dataB else x.dataA
    let s := reach (s.tag.writeTs + 40000 * tagBlocks d) s
    let began := s.tag.writeTs
    let s := { s with tag := { s.tag with writing := none } }
    let other := if b then (if x.okA then x.verA else 0) else (if x.okB then x.verB else 0)
    let v := (other + 1) % 2 ^ 32
    if ok then
      let s := tagCopy r b v d true (now s / 1000000000 % 2 ^ 32) s
      let s := { s with tag := { s.tag with writeCnt := satInc s.tag.writeCnt } }
      let s := emit { kind := .tag, dest := r, args := [b2n b, v], data := d } s
      let s := match x.deferTs with
        | some t => record 0x0820 0 (items [r, (began - t) / 1000000]) s
        | none => s
      tagNext (tagMod r (fun x => { x with
        deferTs := if x.isPending then x.deferTs else none, retries := if x.isPending then x.retries else 0
        fails := 0 }) s)
    else
      let s := { s with tag := { s.tag with failCnt := satInc s.tag.failCnt } }
      if x.fails + 1 < 3 then tagBegin r (tagMod r (fun x => { x with fails := x.fails + 1 }) s)
      else
        let s := tagMod r (fun x => { x with fails := 0, deferTs := none, retries := 0 }) s
        tagNext (record 0x0821 0 (items [r, b2n b]) s)

/-! ### The RF side (R591) -/

/-- TAG_RF_FIELD: the block in progress completes, then the write stops and is deferred. -/
def opTagRf (s : State) : State :=
  if s.tag.rf then s
  else
    let s := { s with tag := { s.tag with rf := true, rfCnt := satInc s.tag.rfCnt } }
    let s := match s.tag.writing with
      | none => s
      | some (r, _) =>
        let n := (now s - s.tag.writeTs) / 40000
        let s := reach (s.tag.writeTs + 40000 * (n + 1)) s
        tagDefer r (now s) { s with tag := { s.tag with writing := none } }
    (List.range 5).foldl (fun s r =>
      if (tagReg s r).isPending ∧ (tagReg s r).deferTs = none then tagDefer r (now s) s else s) s

/-- TAG_RF_FIELD_LEAVES. -/
def opTagRfGone (s : State) : State := { s with tag := { s.tag with rf := false } }

/-- TAG_WRITE_RETRY: 250 ms after the deferral or the last retry of region r. -/
def opTagRetry (r : Nat) (s : State) : State :=
  let x := tagReg s r
  match x.deferTs with
  | none => s
  | some t =>
    if !tagWorks s ∨ !x.isPending then s
    else
      let s := reach (t + 250000000 * (x.retries + 1)) s
      let s := tagMod r (fun x => { x with retries := x.retries + 1 }) s
      if s.tag.rf ∨ s.tag.writing.isSome then s else tagBegin r s

/-! ### The meanings -/

/-- TAG_REGION_WRITE (R590). -/
def execTagRegionWrite (r : Nat) (s : State) : Out := .next (opTagWrite r s)
/-- TAG_WRITE_COMPLETE (R590). -/
def execTagWriteComplete (ok : Bool) (s : State) : Out := .next (opTagComplete ok s)
/-- TAG_RF_FIELD (R591). -/
def execTagRfField (s : State) : Out := .next (opTagRf s)
/-- TAG_RF_FIELD_LEAVES (R591). -/
def execTagRfFieldLeaves (s : State) : Out := .next (opTagRfGone s)
/-- TAG_WRITE_RETRY (R591). -/
def execTagWriteRetry (r : Nat) (s : State) : Out := .next (opTagRetry r s)

end Sys2Proof.Machine
end

