-- ==== Sys2Proof/Machine/Watch.lean ====
section
/-!
DEFINITION. The watch port (chapter 23): the commands of group 0x0B, the snapshot stall (R195, R196), LOSS entries, and the
sending of trace records.
-/
namespace Sys2Proof.Machine

/-! ### TRACE_SET (R562, R565) -/

/-- The service port's number. -/
def servicePort : Nat := 2

/-- The host mailbox of a request from a session on the service port. -/
def serviceBox (q : Req) (s : State) : Option Nat := match q.origin with
  | .host m => if (mbxOf s m).port = servicePort then some m else none
  | _ => none

/-- The stream takes the masks of a command; it opens where none is open and the source mask is not 0. -/
def watchSet (m : Nat) (q : Req) (s : State) : State :=
  let src := argW q 0
  let gal := argW q 1
  let tsk := argW q 2
  let w := s.watch
  if w.isOpen then
    if src = 0 ∧ gal = 0 ∧ tsk = 0 then watchClose 1 s
    else { s with watch := { w with srcMask := src, galMask := gal, taskMask := tsk } }
  else if src = 0 then s
  else
    let s := { s with
      watch := { w with
        isOpen := true, mailbox := m, srcMask := src, galMask := gal, taskMask := tsk, eseq := 0, openSent := 0
        openDropped := 0, lossPending := 0, lossMask := 0, buf := [], snapBuf := [] }
      clk := { s.clk with en := s.clk.en ||| 0x20#15 } }
    record 0x1101 0 (items [m, src.toNat, gal.toNat, tsk.toNat] ++ item128 q.ident) s

/-- TRACE_SET. -/
def opTraceSet (s : State) : State :=
  simple 0x0B01 (fun q s => match serviceBox q s with
    | none => some 0x0304
    | some m => if s.watch.isOpen ∧ s.watch.mailbox ≠ m then some 0x0202 else none)
    (fun q s => (rcAns 0, match serviceBox q s with
      | some m => watchSet m q s
      | none => s)) s

/-! ### COUNTER_SELECT (R569) -/

/-- Filters an event allows: TASK, GALLERY, RANGE. -/
def eventFilters (ev : Nat) : Bool × Bool × Bool :=
  if ev ≤ 1 then (false, false, false)
  else if ev = 12 then (false, true, true)
  else if ev ≤ 14 then (true, true, true)
  else if ev ≤ 16 then (true, false, false)
  else (false, false, false)

/-- A selection word names an event of the table and only filters that it allows. -/
def ctrSelOk (w : Word) : Bool :=
  let (t, g, r) := eventFilters (selEvent w)
  decide (selEvent w ≤ 22) && decide (w.toNat < 2 ^ 27) && (t || !w.getLsbD 24) && (g || !w.getLsbD 25) && (r || !w.getLsbD 26)

/-- COUNTER_SELECT: the counter restarts at 0. -/
def opCounterSelect (s : State) : State :=
  simple 0x0B02 (fun q _ => if ctrSelOk (argW q 1) then none else some 0x0303)
    (fun q s =>
      let k := arg q 0
      let v := argW q 1
      let s := { s with watch := { s.watch with
        sel := tabPut 0 s.watch.sel k v, ctr := tabPut 0 s.watch.ctr k (if selEvent v = 1 then s.time.mono else 0) } }
      (rcAns 0, record 0x1105 0 (items [k, v.toNat] ++ item128 q.ident) s)) s

/-! ### SNAPSHOT (R195, R196, R462) -/

/-- A vital task has a rung group on a range. -/
def rangeVital (s : State) (g r : Nat) : Bool :=
  (tasksUsed s).any fun k => (taskCfg s k).vital && (taskChart s k).any fun c => groupLamp s c / 2 == 16 * g + r

/-- A limit of R196, or a full snapshot buffer, excludes a snapshot of a range now. -/
def snapBusy (s : State) (g r : Nat) : Bool :=
  let x := rangeOf s g r
  x.snapSinceGend || decide (4 ≤ s.watch.snapBuf.length + s.watch.snapReq.length) ||
    (s.watch.snapReq.any fun y => y.1 == g && y.2.1 == r) ||
    (match x.snapTs with
     | some t => decide (s.time.mono < t + 4096)
     | none => false)

/-- The code SNAPSHOT is refused with (R462, R568). -/
def snapCheck (g r l : Nat) (s : State) : Option Nat :=
  if !s.watch.isOpen ∨ (l = 1 ∧ !(rangeOf s g r).split) ∨
      (rangeVital s g r ∧ !((s.img.map ProgImage.snapVital).getD false)) then some 0x0304
  else if snapBusy s g r then some 0x0202
  else none

/-- SNAPSHOT: the request goes to the range, and its number is answered. -/
def opSnapshot (s : State) : State :=
  command 0x0B03 (fun q s =>
    let g := arg q 0 / 256
    let r := arg q 0 / 16 % 16
    let l := arg q 0 % 2
    match snapCheck g r l s with
    | some c => (some (rcAns c), { s with watch := { s.watch with snapRefused := satInc s.watch.snapRefused } })
    | none =>
      let n := s.watch.snapNum + 1
      (some { rc := 0, data := [w32 n] },
        { s with watch := { s.watch with snapNum := n, snapReq := s.watch.snapReq ++ [(g, r, l, n)] } })) s

/-- The 36 words of R195 (layout of the last two in the assumption log, entry 66). -/
def snapWords (l : Lamp) : List Word :=
  l.regs.toList ++ [l.lk, w32 l.pc,
    bitF l.ba 31 ||| fldF l.bits.length 16 ||| fldF (maskN (fun j => l.bits.getD j false) 16) 0,
    fldF l.task 28 ||| fldF (bufUsed l) 16 ||| fldF l.group 0]

/-- OBSERVATION_STALL: the oldest request is served at its lamp's next instruction boundary, with a stall of 12 fc;
`bad` when a mismatch ends it. It is discarded when its stream has closed. -/
def opObsStall (bad : Bool) (s : State) : State := match s.watch.snapReq with
  | [] => s
  | (g, r, l, n) :: rest =>
    let i := 32 * g + 2 * r + l
    let lamp := if isShadowLamp s i then
        (match s.edit.shadow with
         | some f => tabGet ({} : Lamp) f.lamps i
         | none => {})
      else lampOf s i
    let e : TraceEnt :=
      { kind := 7, bit := none, source := rangeSrc g r, flags := b2n lamp.spec + 4 * b2n bad, ts := now s
        words := w32 n :: snapWords lamp }
    let s := { s with watch := { s.watch with snapReq := rest } }
    let s := if lamp.mode == .idle || isShadowLamp s i then s else lampMod i (fun x => { x with fc := x.fc + 12 }) s
    let s := rangeMod g r (fun x => { x with
      snapCnt := satInc x.snapCnt, snapStall := satAdd x.snapStall 12, snapSinceGend := true, snapTs := some s.time.mono }) s
    let s := ctrAdd 12 none (some g) (some r) 12 s
    if s.watch.isOpen then
      let s := { s with watch := { s.watch with
        snapBuf := s.watch.snapBuf ++ [e], snapCnt := satInc s.watch.snapCnt } }
      record 0x1103 0 (items [n, g, r, l, b2n bad]) s
    else s

/-! ### LOSS entries and sending (R564, R567) -/

/-- WATCH_LOSS_ENTRY: the buffer has room for the LOSS entry that is due. -/
def opLossEntry (s : State) : State :=
  let w := s.watch
  let n := if w.capTs = s.time.mono / 2 then w.capN else 0
  if w.isOpen ∧ 0 < w.lossPending ∧ n < 2 ∧ traceFill s + 32 ≤ traceRoom then
    { s with watch := { w with
      buf := w.buf ++ [lossEnt s], lossPending := 0, lossMask := 0, capTs := s.time.mono / 2, capN := n + 1 } }
  else s

/-- The words of an entry with its header (R564). -/
def entWords (eseq : Nat) (e : TraceEnt) : List Word :=
  [fldF e.kind 24 ||| fldF (4 + e.words.length) 16 ||| fldF e.source 0, fldF eseq 16 ||| fldF e.flags 0, w32 e.ts,
    w32 (e.ts / 2 ^ 32)] ++ e.words

/-- Sends an entry in a TRACE record. -/
def traceOut (e : TraceEnt) (s : State) : State :=
  let w := s.watch
  let s := emit { kind := .trace, dest := w.mailbox, data := (entWords w.eseq e).flatMap fun x => item32 x.toNat } s
  ctrAdd 21 none none none 1 { s with watch := { s.watch with
    eseq := (w.eseq + 1) % 65536, sentCnt := satInc w.sentCnt, openSent := w.openSent + 1 } }

/-- The trace engine sends one entry of an open stream, snapshots first (R564, R568; assumption log, entry 67). -/
def traceDrain (s : State) : State :=
  if !s.watch.isOpen then s
  else match s.watch.snapBuf, s.watch.buf with
    | e :: es, _ => traceOut e { s with watch := { s.watch with snapBuf := es } }
    | [], e :: es => traceOut e { s with watch := { s.watch with buf := es } }
    | [], [] => s

/-! ### The meanings -/

/-- TRACE_SET (R562). -/
def execTraceSet (s : State) : Out := .next (opTraceSet s)
/-- COUNTER_SELECT (R569). -/
def execCounterSelect (s : State) : Out := .next (opCounterSelect s)
/-- SNAPSHOT (R462). -/
def execSnapshot (s : State) : Out := .next (opSnapshot s)
/-- OBSERVATION_STALL (R195). -/
def execObservationStall (bad : Bool) (s : State) : Out := .next (opObsStall bad s)
/-- WATCH_LOSS_ENTRY (R567). -/
def execWatchLossEntry (s : State) : Out := .next (opLossEntry s)

end Sys2Proof.Machine
end

