-- ==== Sys2Proof/Machine/Dispatch.lean ====
section
/-!
DEFINITION. The effect of each command: one arm per constructor, one meaning per arm.
-/
namespace Sys2Proof.Machine

def exec (i : Instr) (s : State) : Host.Outcome State Fault Refusal :=
  match i with
  | .add o rd rs1 rs2 => Sys2Proof.Machine.execAdd o rd rs1 rs2 s
  | .sub o rd rs1 rs2 => Sys2Proof.Machine.execSub o rd rs1 rs2 s
  | .and o rd rs1 rs2 => Sys2Proof.Machine.execAnd o rd rs1 rs2 s
  | .or o rd rs1 rs2 => Sys2Proof.Machine.execOr o rd rs1 rs2 s
  | .xor o rd rs1 rs2 => Sys2Proof.Machine.execXor o rd rs1 rs2 s
  | .nor o rd rs1 rs2 => Sys2Proof.Machine.execNor o rd rs1 rs2 s
  | .slt o rd rs1 rs2 => Sys2Proof.Machine.execSlt o rd rs1 rs2 s
  | .sltu o rd rs1 rs2 => Sys2Proof.Machine.execSltu o rd rs1 rs2 s
  | .sll o rd rs1 rs2 => Sys2Proof.Machine.execSll o rd rs1 rs2 s
  | .srl o rd rs1 rs2 => Sys2Proof.Machine.execSrl o rd rs1 rs2 s
  | .sra o rd rs1 rs2 => Sys2Proof.Machine.execSra o rd rs1 rs2 s
  | .clz o rd rs1 => Sys2Proof.Machine.execClz o rd rs1 s
  | .mflk o rd => Sys2Proof.Machine.execMflk o rd s
  | .mtlk o rs1 => Sys2Proof.Machine.execMtlk o rs1 s
  | .addi o rd rs1 imm => Sys2Proof.Machine.execAddi o rd rs1 imm s
  | .andi o rd rs1 imm => Sys2Proof.Machine.execAndi o rd rs1 imm s
  | .ori o rd rs1 imm => Sys2Proof.Machine.execOri o rd rs1 imm s
  | .xori o rd rs1 imm => Sys2Proof.Machine.execXori o rd rs1 imm s
  | .slti o rd rs1 imm => Sys2Proof.Machine.execSlti o rd rs1 imm s
  | .sltiu o rd rs1 imm => Sys2Proof.Machine.execSltiu o rd rs1 imm s
  | .lui o rd imm => Sys2Proof.Machine.execLui o rd imm s
  | .slli o rd rs1 sh => Sys2Proof.Machine.execSlli o rd rs1 sh s
  | .srli o rd rs1 sh => Sys2Proof.Machine.execSrli o rd rs1 sh s
  | .srai o rd rs1 sh => Sys2Proof.Machine.execSrai o rd rs1 sh s
  | .mul o rd rs1 rs2 => Sys2Proof.Machine.execMul o rd rs1 rs2 s
  | .mulh o rd rs1 rs2 => Sys2Proof.Machine.execMulh o rd rs1 rs2 s
  | .mulhu o rd rs1 rs2 => Sys2Proof.Machine.execMulhu o rd rs1 rs2 s
  | .div o rd rs1 rs2 => Sys2Proof.Machine.execDiv o rd rs1 rs2 s
  | .divu o rd rs1 rs2 => Sys2Proof.Machine.execDivu o rd rs1 rs2 s
  | .rem o rd rs1 rs2 => Sys2Proof.Machine.execRem o rd rs1 rs2 s
  | .remu o rd rs1 rs2 => Sys2Proof.Machine.execRemu o rd rs1 rs2 s
  | .extr o rd rs1 pos lenm1 => Sys2Proof.Machine.execExtr o rd rs1 pos lenm1 s
  | .extrs o rd rs1 pos lenm1 => Sys2Proof.Machine.execExtrs o rd rs1 pos lenm1 s
  | .insr o rd rs1 pos lenm1 => Sys2Proof.Machine.execInsr o rd rs1 pos lenm1 s
  | .perm o rd rs1 sel => Sys2Proof.Machine.execPerm o rd rs1 sel s
  | .ldb o rd rs1 imm => Sys2Proof.Machine.execLdb o rd rs1 imm s
  | .ldh o rd rs1 imm => Sys2Proof.Machine.execLdh o rd rs1 imm s
  | .ldw o rd rs1 imm => Sys2Proof.Machine.execLdw o rd rs1 imm s
  | .stb o rs2 rs1 imm => Sys2Proof.Machine.execStb o rs2 rs1 imm s
  | .sth o rs2 rs1 imm => Sys2Proof.Machine.execSth o rs2 rs1 imm s
  | .stw o rs2 rs1 imm => Sys2Proof.Machine.execStw o rs2 rs1 imm s
  | .inb o rd rs1 imm => Sys2Proof.Machine.execInb o rd rs1 imm s
  | .inh o rd rs1 imm => Sys2Proof.Machine.execInh o rd rs1 imm s
  | .inw o rd rs1 imm => Sys2Proof.Machine.execInw o rd rs1 imm s
  | .outb o rs2 rs1 imm => Sys2Proof.Machine.execOutb o rs2 rs1 imm s
  | .outh o rs2 rs1 imm => Sys2Proof.Machine.execOuth o rs2 rs1 imm s
  | .outw o rs2 rs1 imm => Sys2Proof.Machine.execOutw o rs2 rs1 imm s
  | .inbit o rd rs1 bit off => Sys2Proof.Machine.execInbit o rd rs1 bit off s
  | .outbit o rs2 rs1 bit off => Sys2Proof.Machine.execOutbit o rs2 rs1 bit off s
  | .ld o b => Sys2Proof.Machine.execLd o b s
  | .ldn o b => Sys2Proof.Machine.execLdn o b s
  | .rungAnd o b => Sys2Proof.Machine.execRungAnd o b s
  | .andn o b => Sys2Proof.Machine.execAndn o b s
  | .rungOr o b => Sys2Proof.Machine.execRungOr o b s
  | .orn o b => Sys2Proof.Machine.execOrn o b s
  | .rungXor o b => Sys2Proof.Machine.execRungXor o b s
  | .coil o b => Sys2Proof.Machine.execCoil o b s
  | .set o b => Sys2Proof.Machine.execSet o b s
  | .rst o b => Sys2Proof.Machine.execRst o b s
  | .bpush o mode => Sys2Proof.Machine.execBpush o mode s
  | .bpop o mode => Sys2Proof.Machine.execBpop o mode s
  | .edgep o rs1 bit off => Sys2Proof.Machine.execEdgep o rs1 bit off s
  | .edgen o rs1 bit off => Sys2Proof.Machine.execEdgen o rs1 bit off s
  | .ton o rs1 blk => Sys2Proof.Machine.execTon o rs1 blk s
  | .tof o rs1 blk => Sys2Proof.Machine.execTof o rs1 blk s
  | .tp o rs1 blk => Sys2Proof.Machine.execTp o rs1 blk s
  | .ctu o rs1 blk => Sys2Proof.Machine.execCtu o rs1 blk s
  | .ctd o rs1 blk => Sys2Proof.Machine.execCtd o rs1 blk s
  | .swait o rd rs1 imm => Sys2Proof.Machine.execSwait o rd rs1 imm s
  | .spub o rs2 rs1 imm => Sys2Proof.Machine.execSpub o rs2 rs1 imm s
  | .j o off => Sys2Proof.Machine.execJ o off s
  | .jal o off => Sys2Proof.Machine.execJal o off s
  | .jr o rs1 => Sys2Proof.Machine.execJr o rs1 s
  | .jalr o rs1 => Sys2Proof.Machine.execJalr o rs1 s
  | .ret o => Sys2Proof.Machine.execRet o s
  | .jrThroughLkWithLink o => Sys2Proof.Machine.execJrThroughLkWithLink o s
  | .beq o rs1 rs2 off => Sys2Proof.Machine.execBeq o rs1 rs2 off s
  | .bne o rs1 rs2 off => Sys2Proof.Machine.execBne o rs1 rs2 off s
  | .blt o rs1 rs2 off => Sys2Proof.Machine.execBlt o rs1 rs2 off s
  | .bge o rs1 rs2 off => Sys2Proof.Machine.execBge o rs1 rs2 off s
  | .bltu o rs1 rs2 off => Sys2Proof.Machine.execBltu o rs1 rs2 off s
  | .bgeu o rs1 rs2 off => Sys2Proof.Machine.execBgeu o rs1 rs2 off s
  | .fence o => Sys2Proof.Machine.execFence o s
  | .yield o n => Sys2Proof.Machine.execYield o n s
  | .gend o => Sys2Proof.Machine.execGend o s
  | .trap o code => Sys2Proof.Machine.execTrap o code s
  | .slotReadResume k0 fc => Sys2Proof.Machine.execSlotReadResume k0 fc s
  | .spubIssue k0 fc => Sys2Proof.Machine.execSpubIssue k0 fc s
  | .fenceComplete k0 => Sys2Proof.Machine.execFenceComplete k0 s
  | .scheduledInstant k => Sys2Proof.Machine.execScheduledInstant k s
  | .eventTrigger k => Sys2Proof.Machine.execEventTrigger k s
  | .agreementDeadline k => Sys2Proof.Machine.execAgreementDeadline k s
  | .logicEnd k t => Sys2Proof.Machine.execLogicEnd k t s
  | .digestDeadline k => Sys2Proof.Machine.execDigestDeadline k s
  | .outputStrobe k line drv clamps bad => Sys2Proof.Machine.execOutputStrobe k line drv clamps bad s
  | .logicDeadline k => Sys2Proof.Machine.execLogicDeadline k s
  | .lateCycleStart k => Sys2Proof.Machine.execLateCycleStart k s
  | .taskWdgVital k => Sys2Proof.Machine.execTaskWdgVital k s
  | .taskWdgNonvital k => Sys2Proof.Machine.execTaskWdgNonvital k s
  | .speculativeStart k0 => Sys2Proof.Machine.execSpeculativeStart k0 s
  | .validateGroup k0 => Sys2Proof.Machine.execValidateGroup k0 s
  | .storeBufferDrain k0 => Sys2Proof.Machine.execStoreBufferDrain k0 s
  | .raSuspended k => Sys2Proof.Machine.execRaSuspended k s
  | .raResumed k => Sys2Proof.Machine.execRaResumed k s
  | .lockstepMismatch g r code main chk => Sys2Proof.Machine.execLockstepMismatch g r code main chk s
  | .lbistResult g r p0 p1 => Sys2Proof.Machine.execLbistResult g r p0 p1 s
  | .rangeSplit g r d => Sys2Proof.Machine.execRangeSplit g r d s
  | .rangeJoined g r d => Sys2Proof.Machine.execRangeJoined g r d s
  | .joinFailed g r code main chk fc => Sys2Proof.Machine.execJoinFailed g r code main chk fc s
  | .observationStall bad => Sys2Proof.Machine.execObservationStall bad s
  | .gallerySleep g => Sys2Proof.Machine.execGallerySleep g s
  | .galleryWake g us => Sys2Proof.Machine.execGalleryWake g us s
  | .memReady g => Sys2Proof.Machine.execMemReady g s
  | .galleryPowerFault g => Sys2Proof.Machine.execGalleryPowerFault g s
  | .interconnectFault data => Sys2Proof.Machine.execInterconnectFault data s
  | .scrubLine mem g off mark => Sys2Proof.Machine.execScrubLine mem g off mark s
  | .frtClear k => Sys2Proof.Machine.execFrtClear k s
  | .frtRun k run => Sys2Proof.Machine.execFrtRun k run s
  | .mbxWord0Write m tk ws => Sys2Proof.Machine.execMbxWord0Write m tk ws s
  | .mbxInAckWrite g w => Sys2Proof.Machine.execMbxInAckWrite g w s
  | .wdgKick w => Sys2Proof.Machine.execWdgKick w s
  | .latchedLowRead a => Sys2Proof.Machine.execLatchedLowRead a s
  | .registerWrite o a v => Sys2Proof.Machine.execRegisterWrite o a v s
  | .reflexSourceChange => Sys2Proof.Machine.execReflexSourceChange s
  | .reflexMismatch offB onB => Sys2Proof.Machine.execReflexMismatch offB onB s
  | .reflexLaneMismatch laneB => Sys2Proof.Machine.execReflexLaneMismatch laneB s
  | .reflexCfgCheckPass diff crcA crcB => Sys2Proof.Machine.execReflexCfgCheckPass diff crcA crcB s
  | .bypassDecisionChange n v => Sys2Proof.Machine.execBypassDecisionChange n v s
  | .debounceExpiry n => Sys2Proof.Machine.execDebounceExpiry n s
  | .diSupplyMissing g mv => Sys2Proof.Machine.execDiSupplyMissing g mv s
  | .diSupplyLow g mv => Sys2Proof.Machine.execDiSupplyLow g mv s
  | .diSupplyOk g mv => Sys2Proof.Machine.execDiSupplyOk g mv s
  | .testPulseStart k => Sys2Proof.Machine.execTestPulseStart k s
  | .testPulseEnd k samples => Sys2Proof.Machine.execTestPulseEnd k samples s
  | .testWindowEnd k => Sys2Proof.Machine.execTestWindowEnd k s
  | .diTpSourceFault k mv => Sys2Proof.Machine.execDiTpSourceFault k mv s
  | .diPairFault k => Sys2Proof.Machine.execDiPairFault k s
  | .doStuckOn n => Sys2Proof.Machine.execDoStuckOn n s
  | .doStuckOff n => Sys2Proof.Machine.execDoStuckOff n s
  | .doShort n temp => Sys2Proof.Machine.execDoShort n temp s
  | .doGroupOverload g ma => Sys2Proof.Machine.execDoGroupOverload g ma s
  | .doBuoyOverload ma mas => Sys2Proof.Machine.execDoBuoyOverload ma mas s
  | .doTestPulseStart n requested => Sys2Proof.Machine.execDoTestPulseStart n requested s
  | .doTestPulseEnd n ma drv => Sys2Proof.Machine.execDoTestPulseEnd n ma drv s
  | .doOnStateOpen n ma => Sys2Proof.Machine.execDoOnStateOpen n ma s
  | .xcutOpen n us => Sys2Proof.Machine.execXcutOpen n us s
  | .cutTestPeriodic => Sys2Proof.Machine.execCutTestPeriodic s
  | .cutTestElementEnd ua => Sys2Proof.Machine.execCutTestElementEnd ua s
  | .loopWindowEnd m => Sys2Proof.Machine.execLoopWindowEnd m s
  | .loopSupplyLimit n us => Sys2Proof.Machine.execLoopSupplyLimit n us s
  | .aoCompliance n hr => Sys2Proof.Machine.execAoCompliance n hr s
  | .aoComplianceCleared n hr => Sys2Proof.Machine.execAoComplianceCleared n hr s
  | .hartIdentifyPoll n => Sys2Proof.Machine.execHartIdentifyPoll n s
  | .hartCyclicPoll n => Sys2Proof.Machine.execHartCyclicPoll n s
  | .hartResponse n m => Sys2Proof.Machine.execHartResponse n m s
  | .hartResponseTimeout n => Sys2Proof.Machine.execHartResponseTimeout n s
  | .buoyInserted b => Sys2Proof.Machine.execBuoyInserted b s
  | .buoyAuthDone b step typ rev serial cnt => Sys2Proof.Machine.execBuoyAuthDone b step typ rev serial cnt s
  | .buoyAuthRetry b => Sys2Proof.Machine.execBuoyAuthRetry b s
  | .buoyCfgEcho b want echo => Sys2Proof.Machine.execBuoyCfgEcho b want echo s
  | .buoyRemoved b => Sys2Proof.Machine.execBuoyRemoved b s
  | .buoyFeedLost b fb mv => Sys2Proof.Machine.execBuoyFeedLost b fb mv s
  | .buoySurge b uj ch => Sys2Proof.Machine.execBuoySurge b uj ch s
  | .buoyThoursUpdate b t => Sys2Proof.Machine.execBuoyThoursUpdate b t s
  | .buoyCounterCommit b => Sys2Proof.Machine.execBuoyCounterCommit b s
  | .buoyMirrorUpdate => Sys2Proof.Machine.execBuoyMirrorUpdate s
  | .buoyExchangeEnd b => Sys2Proof.Machine.execBuoyExchangeEnd b s
  | .canFrameReceived n x remote => Sys2Proof.Machine.execCanFrameReceived n x remote s
  | .canTxComplete n b tdcv => Sys2Proof.Machine.execCanTxComplete n b tdcv s
  | .canArbLost n b => Sys2Proof.Machine.execCanArbLost n b s
  | .canBusError n lec inData tec rc tx => Sys2Proof.Machine.execCanBusError n lec inData tec rc tx s
  | .canBusOffDelay n => Sys2Proof.Machine.execCanBusOffDelay n s
  | .canBusOn n => Sys2Proof.Machine.execCanBusOn n s
  | .canRxStale n k0 => Sys2Proof.Machine.execCanRxStale n k0 s
  | .canCmdRequest p h args counter tagOk => Sys2Proof.Machine.execCanCmdRequest p h args counter tagOk s
  | .netLinkUp p => Sys2Proof.Machine.execNetLinkUp p s
  | .netLinkDown p => Sys2Proof.Machine.execNetLinkDown p s
  | .ethernetFrameReceived p f => Sys2Proof.Machine.execEthernetFrameReceived p f s
  | .prpSupervisionSend => Sys2Proof.Machine.execPrpSupervisionSend s
  | .beamReceive p f => Sys2Proof.Machine.execBeamReceive p f s
  | .beamRxTimeout c => Sys2Proof.Machine.execBeamRxTimeout c s
  | .beamTxLate => Sys2Proof.Machine.execBeamTxLate s
  | .diagFrameSend => Sys2Proof.Machine.execDiagFrameSend s
  | .partnerHeartbeatSend => Sys2Proof.Machine.execPartnerHeartbeatSend s
  | .partnerHeartbeatReceived h => Sys2Proof.Machine.execPartnerHeartbeatReceived h s
  | .kapSessionOpen id e => Sys2Proof.Machine.execKapSessionOpen id e s
  | .handshakeTimeout id => Sys2Proof.Machine.execHandshakeTimeout id s
  | .kapKeyUpdate id => Sys2Proof.Machine.execKapKeyUpdate id s
  | .kapSessionClose id cause => Sys2Proof.Machine.execKapSessionClose id cause s
  | .kapLockoutEnd peer => Sys2Proof.Machine.execKapLockoutEnd peer s
  | .mailboxRetentionExpiry m => Sys2Proof.Machine.execMailboxRetentionExpiry m s
  | .mbxWrite id no ws => Sys2Proof.Machine.execMbxWrite id no ws s
  | .mbxRead id no => Sys2Proof.Machine.execMbxRead id no s
  | .mbxAck id no w => Sys2Proof.Machine.execMbxAck id no w s
  | .ackRead id no => Sys2Proof.Machine.execAckRead id no s
  | .regRead id no a n => Sys2Proof.Machine.execRegRead id no a n s
  | .resume id no m => Sys2Proof.Machine.execResume id no m s
  | .keeperTakeMessage m => Sys2Proof.Machine.execKeeperTakeMessage m s
  | .viewCheck => Sys2Proof.Machine.execViewCheck s
  | .keeperResume digestOk => Sys2Proof.Machine.execKeeperResume digestOk s
  | .ptpMessage p m => Sys2Proof.Machine.execPtpMessage p m s
  | .timeRefQualified k => Sys2Proof.Machine.execTimeRefQualified k s
  | .timeRefLost k cause => Sys2Proof.Machine.execTimeRefLost k cause s
  | .timeSwitchDone off => Sys2Proof.Machine.execTimeSwitchDone off s
  | .timeOffsetHigh => Sys2Proof.Machine.execTimeOffsetHigh s
  | .scheduledAction => Sys2Proof.Machine.execScheduledAction s
  | .rtcAlarm k => Sys2Proof.Machine.execRtcAlarm k s
  | .rtcShiftApply => Sys2Proof.Machine.execRtcShiftApply s
  | .rtcKeeperCorrection => Sys2Proof.Machine.execRtcKeeperCorrection s
  | .rtcBackupSwitch sup => Sys2Proof.Machine.execRtcBackupSwitch sup s
  | .rtcCellLow mv => Sys2Proof.Machine.execRtcCellLow mv s
  | .twinLock ns rejects proto => Sys2Proof.Machine.execTwinLock ns rejects proto s
  | .twinLockLost => Sys2Proof.Machine.execTwinLockLost s
  | .twinSilence => Sys2Proof.Machine.execTwinSilence s
  | .partnerInvisible => Sys2Proof.Machine.execPartnerInvisible s
  | .snapshotFrame h k idx last cycle t0 data => Sys2Proof.Machine.execSnapshotFrame h k idx last cycle t0 data s
  | .digestFrame h k d => Sys2Proof.Machine.execDigestFrame h k d s
  | .relinquish h ts epoch => Sys2Proof.Machine.execRelinquish h ts epoch s
  | .sectorFail h sec cause => Sys2Proof.Machine.execSectorFail h sec cause s
  | .roleAck h ts epoch => Sys2Proof.Machine.execRoleAck h ts epoch s
  | .rejoinCtrl h m => Sys2Proof.Machine.execRejoinCtrl h m s
  | .mailbox h m => Sys2Proof.Machine.execMailbox h m s
  | .rejoinData h l => Sys2Proof.Machine.execRejoinData h l s
  | .proof h m => Sys2Proof.Machine.execProof h m s
  | .status h x => Sys2Proof.Machine.execStatus h x s
  | .startupSearchEnd => Sys2Proof.Machine.execStartupSearchEnd s
  | .roleChange => Sys2Proof.Machine.execRoleChange s
  | .rejoinStart x => Sys2Proof.Machine.execRejoinStart x s
  | .isolatedRejoinReady => Sys2Proof.Machine.execIsolatedRejoinReady s
  | .rejoinPassEnd last => Sys2Proof.Machine.execRejoinPassEnd last s
  | .tJoin => Sys2Proof.Machine.execTJoin s
  | .rejoinFailed => Sys2Proof.Machine.execRejoinFailed s
  | .rejoinRetry => Sys2Proof.Machine.execRejoinRetry s
  | .tAssist => Sys2Proof.Machine.execTAssist s
  | .proofStart => Sys2Proof.Machine.execProofStart s
  | .editExpired => Sys2Proof.Machine.execEditExpired s
  | .tCut => Sys2Proof.Machine.execTCut s
  | .editCommitted => Sys2Proof.Machine.execEditCommitted s
  | .tStopReached => Sys2Proof.Machine.execTStopReached s
  | .stopDone => Sys2Proof.Machine.execStopDone s
  | .forceAutoRelease k => Sys2Proof.Machine.execForceAutoRelease k s
  | .powerUp off lost brown supA supB => Sys2Proof.Machine.execPowerUp off lost brown supA supB s
  | .rootPllLock => Sys2Proof.Machine.execRootPllLock s
  | .pllLockTimeout => Sys2Proof.Machine.execPllLockTimeout s
  | .nvmRecovered fates bad => Sys2Proof.Machine.execNvmRecovered fates bad s
  | .bootVerified sigA sigB ringOk tag => Sys2Proof.Machine.execBootVerified sigA sigB ringOk tag s
  | .moduleReset cause => Sys2Proof.Machine.execModuleReset cause s
  | .safeResetDelay => Sys2Proof.Machine.execSafeResetDelay s
  | .clockFault c => Sys2Proof.Machine.execClockFault c s
  | .keeperCoreFault => Sys2Proof.Machine.execKeeperCoreFault s
  | .rcFault dev stopped => Sys2Proof.Machine.execRcFault dev stopped s
  | .wdgExpired => Sys2Proof.Machine.execWdgExpired s
  | .wdgHardReset => Sys2Proof.Machine.execWdgHardReset s
  | .wdgClockStopped => Sys2Proof.Machine.execWdgClockStopped s
  | .freqGateComplete cnt ref => Sys2Proof.Machine.execFreqGateComplete cnt ref s
  | .feedLost b mv => Sys2Proof.Machine.execFeedLost b mv s
  | .feedRestored b mv => Sys2Proof.Machine.execFeedRestored b mv s
  | .feedOvervolt b mv => Sys2Proof.Machine.execFeedOvervolt b mv s
  | .feedOvervoltDisconnect b mv => Sys2Proof.Machine.execFeedOvervoltDisconnect b mv s
  | .savingStart => Sys2Proof.Machine.execSavingStart s
  | .powerDownDone => Sys2Proof.Machine.execPowerDownDone s
  | .holdupReadyChange mv => Sys2Proof.Machine.execHoldupReadyChange mv s
  | .pageCommit p ok => Sys2Proof.Machine.execPageCommit p ok s
  | .recorderFlush => Sys2Proof.Machine.execRecorderFlush s
  | .evrSuppressed => Sys2Proof.Machine.execEvrSuppressed s
  | .periodicSnapshotDue => Sys2Proof.Machine.execPeriodicSnapshotDue s
  | .operatingSCommit => Sys2Proof.Machine.execOperatingSCommit s
  | .trngFail test => Sys2Proof.Machine.execTrngFail test s
  | .trngRestored => Sys2Proof.Machine.execTrngRestored s
  | .trngHoldExpiry => Sys2Proof.Machine.execTrngHoldExpiry s
  | .fuseRead ws temp => Sys2Proof.Machine.execFuseRead ws temp s
  | .rollbackAdvanced => Sys2Proof.Machine.execRollbackAdvanced s
  | .lampRoomRestart => Sys2Proof.Machine.execLampRoomRestart s
  | .watchLossEntry => Sys2Proof.Machine.execWatchLossEntry s
  | .tagRegionWrite r => Sys2Proof.Machine.execTagRegionWrite r s
  | .tagRfField => Sys2Proof.Machine.execTagRfField s
  | .tagWriteRetry r => Sys2Proof.Machine.execTagWriteRetry r s
  | .moduleStatus => Sys2Proof.Machine.execModuleStatus s
  | .modeRead => Sys2Proof.Machine.execModeRead s
  | .identityRead => Sys2Proof.Machine.execIdentityRead s
  | .registerRead => Sys2Proof.Machine.execRegisterRead s
  | .safe => Sys2Proof.Machine.execSafe s
  | .safeReset => Sys2Proof.Machine.execSafeReset s
  | .serviceEnter => Sys2Proof.Machine.execServiceEnter s
  | .serviceLeave => Sys2Proof.Machine.execServiceLeave s
  | .keeperRestart => Sys2Proof.Machine.execKeeperRestart s
  | .clockSelect => Sys2Proof.Machine.execClockSelect s
  | .clockMeasure => Sys2Proof.Machine.execClockMeasure s
  | .watchdogSet => Sys2Proof.Machine.execWatchdogSet s
  | .transferOpen => Sys2Proof.Machine.execTransferOpen s
  | .transferData => Sys2Proof.Machine.execTransferData s
  | .transferClose => Sys2Proof.Machine.execTransferClose s
  | .batchRead => Sys2Proof.Machine.execBatchRead s
  | .programLoad x => Sys2Proof.Machine.execProgramLoad x s
  | .programInfo => Sys2Proof.Machine.execProgramInfo s
  | .run => Sys2Proof.Machine.execRun s
  | .stop => Sys2Proof.Machine.execStop s
  | .taskStatus => Sys2Proof.Machine.execTaskStatus s
  | .taskRestart => Sys2Proof.Machine.execTaskRestart s
  | .sectorRestart => Sys2Proof.Machine.execSectorRestart s
  | .rangeRetest => Sys2Proof.Machine.execRangeRetest s
  | .imageRead => Sys2Proof.Machine.execImageRead s
  | .editLoad x => Sys2Proof.Machine.execEditLoad x s
  | .editStatus => Sys2Proof.Machine.execEditStatus s
  | .cutOver => Sys2Proof.Machine.execCutOver s
  | .proofAbort => Sys2Proof.Machine.execProofAbort s
  | .rollback => Sys2Proof.Machine.execRollback s
  | .editCommit => Sys2Proof.Machine.execEditCommit s
  | .force => Sys2Proof.Machine.execForce s
  | .release => Sys2Proof.Machine.execRelease s
  | .forceList => Sys2Proof.Machine.execForceList s
  | .pairClear => Sys2Proof.Machine.execPairClear s
  | .groupCutReset => Sys2Proof.Machine.execGroupCutReset s
  | .cutTest => Sys2Proof.Machine.execCutTest s
  | .aoChannelReset => Sys2Proof.Machine.execAoChannelReset s
  | .hartPassthrough => Sys2Proof.Machine.execHartPassthrough s
  | .reflexReset ok => Sys2Proof.Machine.execReflexReset ok s
  | .twinStatus => Sys2Proof.Machine.execTwinStatus s
  | .roleSwap => Sys2Proof.Machine.execRoleSwap s
  | .rejoin => Sys2Proof.Machine.execRejoin s
  | .timeRead => Sys2Proof.Machine.execTimeRead s
  | .timeSettings => Sys2Proof.Machine.execTimeSettings s
  | .timeStep => Sys2Proof.Machine.execTimeStep s
  | .schedule => Sys2Proof.Machine.execSchedule s
  | .scheduleCancel => Sys2Proof.Machine.execScheduleCancel s
  | .rtcRead ok => Sys2Proof.Machine.execRtcRead ok s
  | .rtcSet => Sys2Proof.Machine.execRtcSet s
  | .weekdaySet => Sys2Proof.Machine.execWeekdaySet s
  | .rtcShift => Sys2Proof.Machine.execRtcShift s
  | .alarmSet => Sys2Proof.Machine.execAlarmSet s
  | .alarmClear => Sys2Proof.Machine.execAlarmClear s
  | .backupRecordClear => Sys2Proof.Machine.execBackupRecordClear s
  | .recorderRead => Sys2Proof.Machine.execRecorderRead s
  | .clearPrepare => Sys2Proof.Machine.execClearPrepare s
  | .clearConfirm => Sys2Proof.Machine.execClearConfirm s
  | .counterRead => Sys2Proof.Machine.execCounterRead s
  | .retainSnapshot => Sys2Proof.Machine.execRetainSnapshot s
  | .lastLightRead => Sys2Proof.Machine.execLastLightRead s
  | .sessionInfo => Sys2Proof.Machine.execSessionInfo s
  | .enrollRequest csr key => Sys2Proof.Machine.execEnrollRequest csr key s
  | .enrollInstall chainOk key node env => Sys2Proof.Machine.execEnrollInstall chainOk key node env s
  | .ownerCertInstall hash proofOk lock => Sys2Proof.Machine.execOwnerCertInstall hash proofOk lock s
  | .keyRotate => Sys2Proof.Machine.execKeyRotate s
  | .fuseStatus => Sys2Proof.Machine.execFuseStatus s
  | .fwWrite sign sig signer writeOk => Sys2Proof.Machine.execFwWrite sign sig signer writeOk s
  | .activate => Sys2Proof.Machine.execActivate s
  | .fwStatus => Sys2Proof.Machine.execFwStatus s
  | .traceSet => Sys2Proof.Machine.execTraceSet s
  | .counterSelect => Sys2Proof.Machine.execCounterSelect s
  | .snapshot => Sys2Proof.Machine.execSnapshot s
  | .canStatus => Sys2Proof.Machine.execCanStatus s
  | .txCancel => Sys2Proof.Machine.execTxCancel s
  | .portRestart => Sys2Proof.Machine.execPortRestart s
  | .networkSet => Sys2Proof.Machine.execNetworkSet s
  | .firewallSet => Sys2Proof.Machine.execFirewallSet s
  | .beamRxStatus => Sys2Proof.Machine.execBeamRxStatus s
  | .buoyStatus => Sys2Proof.Machine.execBuoyStatus s
  | .buoyExchange => Sys2Proof.Machine.execBuoyExchange s
  | .tagRead => Sys2Proof.Machine.execTagRead s
  | .rtcHourRollover => Sys2Proof.Machine.execRtcHourRollover s
  | .rtcXtalStopped => Sys2Proof.Machine.execRtcXtalStopped s
  | .transferTimeout => Sys2Proof.Machine.execTransferTimeout s
  | .longCommandComplete op => Sys2Proof.Machine.execLongCommandComplete op s
  | .twinCommandTimeout => Sys2Proof.Machine.execTwinCommandTimeout s
  | .declaredInstant => Sys2Proof.Machine.execDeclaredInstant s
  | .keeperFirmwareFault => Sys2Proof.Machine.execKeeperFirmwareFault s
  | .mailboxPoll m => Sys2Proof.Machine.execMailboxPoll m s
  | .twinFrameSlot => Sys2Proof.Machine.execTwinFrameSlot s
  | .blockLockLost lane => Sys2Proof.Machine.execBlockLockLost lane s
  | .ptpSend p kind => Sys2Proof.Machine.execPtpSend p kind s
  | .xcutMaskExpiry n => Sys2Proof.Machine.execXcutMaskExpiry n s
  | .buoySupplyMissing b mv => Sys2Proof.Machine.execBuoySupplyMissing b mv s
  | .buoySupplyOk b mv => Sys2Proof.Machine.execBuoySupplyOk b mv s
  | .buoyFeedReturned b fb mv => Sys2Proof.Machine.execBuoyFeedReturned b fb mv s
  | .fieldConnectorMateChange b mated => Sys2Proof.Machine.execFieldConnectorMateChange b mated s
  | .tagRfFieldLeaves => Sys2Proof.Machine.execTagRfFieldLeaves s
  | .tagWriteComplete ok => Sys2Proof.Machine.execTagWriteComplete ok s
  | .undefinedKapRecord id no typ => Sys2Proof.Machine.execUndefinedKapRecord id no typ s

end Sys2Proof.Machine
end

