-- ==== Sys2Proof/Machine/Step.lean ====
section
/-!
DEFINITION. One step: the command at the front of the queue, or one tick of the fabric clock.
-/
namespace Sys2Proof.Machine

/-- One fabric clock of 2 ns passes with no command, and an open trace stream sends an entry (assumption log, entries 3
and 67). -/
def idleTick (s : State) : State := traceDrain (advance 2 s)

/-- One step of the module: the front command of the queue runs with the queue's rest; with none, the clock ticks. -/
def step (s : State) : Host.Outcome State Fault Refusal :=
  match s.pending with
  | [] => .next (idleTick s)
  | i :: rest => exec i { s with pending := rest }

/-- `s` with the command a table word spells at the front of its queue. -/
def State.withFetchWord (s : State) (nbits w : Nat) : State :=
  match decodeTableWord nbits w with
  | none => s
  | some i => { s with pending := i :: s.pending }

end Sys2Proof.Machine
end

