-- ==== Sys2Proof/Safety.lean ====
section
/-!
DEFINITION. The words the statements are written in: a command completes, what it leaves alone, a lamp that executes, a
keeper command that is served, and the invariants of the module.
-/
namespace Sys2Proof.Machine

/-! ### Completion and frames -/

/-- A command answers a next state, of which `p` holds. -/
def Completes (c : Instr) (s : State) (p : State → Prop) : Prop := ∃ t, exec c s = .next t ∧ p t

/-- The blocks of the state, by name. -/
inductive Block where
  | id | mode | img | imgAlt | fab | rfx | dio | loop | buoy | can | net | beam | kp | time | rtc | twin | edit | rcd
  | nvm | clk | wdg | pwr | sec | fw | watch | tag | latch | free | out | pending
  deriving DecidableEq, Repr

/-- Two states agree on a block. -/
def sameBlock (b : Block) (s t : State) : Prop :=
  match b with
  | .id => t.id = s.id
  | .mode => t.mode = s.mode
  | .img => t.img = s.img
  | .imgAlt => t.imgAlt = s.imgAlt
  | .fab => t.fab = s.fab
  | .rfx => t.rfx = s.rfx
  | .dio => t.dio = s.dio
  | .loop => t.loop = s.loop
  | .buoy => t.buoy = s.buoy
  | .can => t.can = s.can
  | .net => t.net = s.net
  | .beam => t.beam = s.beam
  | .kp => t.kp = s.kp
  | .time => t.time = s.time
  | .rtc => t.rtc = s.rtc
  | .twin => t.twin = s.twin
  | .edit => t.edit = s.edit
  | .rcd => t.rcd = s.rcd
  | .nvm => t.nvm = s.nvm
  | .clk => t.clk = s.clk
  | .wdg => t.wdg = s.wdg
  | .pwr => t.pwr = s.pwr
  | .sec => t.sec = s.sec
  | .fw => t.fw = s.fw
  | .watch => t.watch = s.watch
  | .tag => t.tag = s.tag
  | .latch => t.latch = s.latch
  | .free => t.free = s.free
  | .out => t.out = s.out
  | .pending => t.pending = s.pending

/-- Every block but those named is unchanged. -/
def OnlyIn (bs : List Block) (s t : State) : Prop := ∀ b, b ∉ bs → sameBlock b s t

/-- The blocks an event of the recorder reaches: its record, the NVM commit it may start, its trace entry. -/
def logBlocks : List Block := [.rcd, .nvm, .watch]

/-! ### Lamps -/

/-- What an instruction of a lamp carries; no other command has it. -/
def lampOpOf : Instr → Option LampOp
  | .add o _ _ _ => some o
  | .sub o _ _ _ => some o
  | .and o _ _ _ => some o
  | .or o _ _ _ => some o
  | .xor o _ _ _ => some o
  | .nor o _ _ _ => some o
  | .slt o _ _ _ => some o
  | .sltu o _ _ _ => some o
  | .sll o _ _ _ => some o
  | .srl o _ _ _ => some o
  | .sra o _ _ _ => some o
  | .clz o _ _ => some o
  | .mflk o _ => some o
  | .mtlk o _ => some o
  | .addi o _ _ _ => some o
  | .andi o _ _ _ => some o
  | .ori o _ _ _ => some o
  | .xori o _ _ _ => some o
  | .slti o _ _ _ => some o
  | .sltiu o _ _ _ => some o
  | .lui o _ _ => some o
  | .slli o _ _ _ => some o
  | .srli o _ _ _ => some o
  | .srai o _ _ _ => some o
  | .mul o _ _ _ => some o
  | .mulh o _ _ _ => some o
  | .mulhu o _ _ _ => some o
  | .div o _ _ _ => some o
  | .divu o _ _ _ => some o
  | .rem o _ _ _ => some o
  | .remu o _ _ _ => some o
  | .extr o _ _ _ _ => some o
  | .extrs o _ _ _ _ => some o
  | .insr o _ _ _ _ => some o
  | .perm o _ _ _ => some o
  | .ldb o _ _ _ => some o
  | .ldh o _ _ _ => some o
  | .ldw o _ _ _ => some o
  | .stb o _ _ _ => some o
  | .sth o _ _ _ => some o
  | .stw o _ _ _ => some o
  | .inb o _ _ _ => some o
  | .inh o _ _ _ => some o
  | .inw o _ _ _ => some o
  | .outb o _ _ _ => some o
  | .outh o _ _ _ => some o
  | .outw o _ _ _ => some o
  | .inbit o _ _ _ _ => some o
  | .outbit o _ _ _ _ => some o
  | .ld o _ => some o
  | .ldn o _ => some o
  | .rungAnd o _ => some o
  | .andn o _ => some o
  | .rungOr o _ => some o
  | .orn o _ => some o
  | .rungXor o _ => some o
  | .coil o _ => some o
  | .set o _ => some o
  | .rst o _ => some o
  | .bpush o _ => some o
  | .bpop o _ => some o
  | .edgep o _ _ _ => some o
  | .edgen o _ _ _ => some o
  | .ton o _ _ => some o
  | .tof o _ _ => some o
  | .tp o _ _ => some o
  | .ctu o _ _ => some o
  | .ctd o _ _ => some o
  | .swait o _ _ _ => some o
  | .spub o _ _ _ => some o
  | .j o _ => some o
  | .jal o _ => some o
  | .jr o _ => some o
  | .jalr o _ => some o
  | .ret o => some o
  | .jrThroughLkWithLink o => some o
  | .beq o _ _ _ => some o
  | .bne o _ _ _ => some o
  | .blt o _ _ _ => some o
  | .bge o _ _ _ => some o
  | .bltu o _ _ _ => some o
  | .bgeu o _ _ _ => some o
  | .fence o => some o
  | .yield o _ => some o
  | .gend o => some o
  | .trap o _ => some o
  | _ => none

/-- A lamp executes an instruction: it runs, not for a shadow; its pc lies in I-space and is aligned; the fetch meets no
error; the fields its format marks 0 are 0. -/
structure LampReady (o : LampOp) (s : State) : Prop where
  live  : isShadowLamp s o.lamp = false
  runs  : (lampOf s o.lamp).mode = .exec
  inI   : (lampOf s o.lamp).pc < 0x200000
  even  : (lampOf s o.lamp).pc % 4 = 0
  fetch : eccSeen s (eccKey 1 (lampGal o.lamp) (lampOf s o.lamp).pc) o.fetchErr = .ok
  zeros : o.z = 0

/-- Outside one lamp only the selected counters of the watch port may move: every other lamp and all memory is unchanged. -/
def LampOnly (i : Nat) (s t : State) : Prop :=
  (∀ j, j ≠ i → lampOf t j = lampOf s j) ∧
    t = { s with fab := { s.fab with lamps := t.fab.lamps }, watch := { s.watch with ctr := t.watch.ctr } }

/-- The lamp as it stands after an instruction of `cost` fc that goes on at `pc`, with `l` as the rest of it. -/
def Lamp.after (l : Lamp) (cost pc : Nat) : Lamp := { l with pc := pc, fc := l.fc + cost, instrs := l.instrs + 1 }

/-- An instruction that turns its lamp into `l`, takes `cost` fc and goes on behind itself. -/
def LampGoes (i cost : Nat) (l : Lamp) (s t : State) : Prop :=
  lampOf t i = l.after cost ((lampOf s i).pc + 4) ∧ LampOnly i s t

/-- An instruction that writes `v` to rd, g0 excepted, and no other register. -/
def LampResult (i cost : Nat) (rd : Reg) (v : Word) (s t : State) : Prop :=
  regGet (lampOf t i) rd = (if rd = 0 then 0 else v) ∧
    (∀ r, r ≠ rd → regGet (lampOf t i) r = regGet (lampOf s i) r) ∧
    lampOf t i = { (lampOf s i).after cost ((lampOf s i).pc + 4) with regs := (lampOf t i).regs } ∧ LampOnly i s t

/-- A lamp without speculative or buffered work. -/
def LampPlain (o : LampOp) (s : State) : Prop :=
  (lampOf s o.lamp).spec = false ∧ (lampOf s o.lamp).drain = [] ∧ (lampOf s o.lamp).specs = []

/-- Outside one lamp and the memories its stores reach, only the selected counters of the watch port may move. -/
def LampStores (i : Nat) (s t : State) : Prop :=
  (∀ j, j ≠ i → lampOf t j = lampOf s j) ∧
    (∀ g, galOf t g = { galOf s g with data := (galOf t g).data, scratch := (galOf t g).scratch }) ∧
    (∀ k, taskOf t k = { taskOf s k with work := (taskOf t k).work }) ∧
    t = { s with
      fab := { s.fab with lamps := t.fab.lamps, gal := t.fab.gal, gmem := t.fab.gmem, tasks := t.fab.tasks
                          blocks := t.fab.blocks, ecc := t.fab.ecc }
      watch := { s.watch with ctr := t.watch.ctr } }

/-- Every byte of D-space reads as before but the `n` bytes at place `p`, which read `v`, its low byte first. -/
def DspaceWritten (p : DPlace) (n : Nat) (v : Word) (s t : State) : Prop :=
  ∀ (j b : Nat) (q : DPlace), dPlace s j b = some q → byteAt (dMem t q) q.off =
    if q.mem = p.mem ∧ q.unit = p.unit ∧ p.off ≤ q.off ∧ q.off < p.off + n then (wordBytes v).getD (q.off - p.off) 0
    else byteAt (dMem s q) q.off

/-- No byte of D-space changes. -/
def DspaceKept (s t : State) : Prop :=
  ∀ (j b : Nat) (q : DPlace), dPlace s j b = some q → byteAt (dMem t q) q.off = byteAt (dMem s q) q.off

/-- No output byte of a task, no slot and no timer/counter block changes. -/
def IoKept (s t : State) : Prop :=
  (∀ k x, byteAt (taskOf t k).work x = byteAt (taskOf s k).work x) ∧ (∀ b, tcOf t b = tcOf s b)

/-- The word of a task's input view that a plain lamp reads (R33, R35). -/
def viewSeen (s : State) (i a : Nat) : Word :=
  if 0x700 ≤ a / 4 * 4 ∧ a / 4 * 4 < 0x1000 then 0 else wordAt (taskOf s (lampOf s i).task).view (a / 4 * 4)

/-- An address of the input view that a plain lamp may read, on a word without error. -/
def ViewReady (o : LampOp) (a : Nat) (s : State) : Prop :=
  LampPlain o s ∧ a < 0x10000 ∧ viewOk s (lampOf s o.lamp).task a = true ∧
    eccSeen s (eccKey 5 0 (eccView (lampOf s o.lamp).task a)) o.dataErr = .ok

/-- Masked bits of the output word at offset `off` that a plain lamp may write. -/
def OutReady (o : LampOp) (off : Nat) (m : Word) (s : State) : Prop :=
  LampPlain o s ∧ off % 4 = 0 ∧ off < 0x10000 ∧ foreignMask s (lampOf s o.lamp).task off &&& m = 0 ∧
    eccSeen s (eccKey 5 0 (eccOut off)) o.dataErr = .ok

/-- The masked bits of the output word at `off` that lie in bytes of the lamp's task take `v`; every other output bit of
every task, all of D-space and every block stays (R38, R139). -/
def OutputWritten (i off : Nat) (v m : Word) (s t : State) : Prop :=
  (∀ k x b, b < 8 → (byteAt (taskOf t k).work x).getLsbD b =
    if k = (lampOf s i).task ∧ x / 4 * 4 = off ∧ ownerOf s x = some k ∧ m.getLsbD (8 * (x % 4) + b) then
      v.getLsbD (8 * (x % 4) + b)
    else (byteAt (taskOf s k).work x).getLsbD b) ∧
  DspaceKept s t ∧ (∀ b, tcOf t b = tcOf s b) ∧ LampStores i s t

/-- The lamp went on behind an instruction of `cost` fc that wrote no register and no bit of its own. -/
def LampWent (i cost : Nat) (s t : State) : Prop :=
  lampOf t i = { (lampOf s i).after cost ((lampOf s i).pc + 4) with visAt := (lampOf t i).visAt }

/-- A timer/counter block that a plain lamp may evaluate: it exists, is its task's, and its words carry no error. -/
def BlockReady (o : LampOp) (b : Nat) (s : State) : Prop :=
  LampPlain o s ∧ b < 4096 ∧ pageOk (pageUse s (131072 + b / 16)) (lampOf s o.lamp).task true = true ∧
    eccSeen s (eccKey 7 0 (16 * b)) o.dataErr = .ok ∧ (∀ j, j < 4 → eccSeen s (eccKey 7 0 (16 * b + 4 * j)) .ok = .ok)

/-- Block `b` becomes `x`, its lamp's ba takes Q, and no other block, output byte or byte of D-space changes. -/
def BlockEvaluated (o : LampOp) (b cost : Nat) (bits : List Bool) (x : TcBlock) (s t : State) : Prop :=
  tcOf t b = x ∧ (∀ c, c ≠ b → tcOf t c = tcOf s c) ∧
    lampOf t o.lamp = { (lampOf s o.lamp).after (cost + min o.wait 16) ((lampOf s o.lamp).pc + 4) with
      ba := x.q, bits := bits, visAt := (lampOf t o.lamp).visAt } ∧
    (∀ k y, byteAt (taskOf t k).work y = byteAt (taskOf s k).work y) ∧ DspaceKept s t ∧ LampStores o.lamp s t

/-- Slot n shows group i's declared read `r` the version it requires, not provisional, and the group has neither read nor
published it (R71). -/
def SlotReadable (s : State) (i n : Nat) : Prop :=
  ∃ r c, (lampGroup s i).reads.find? (fun r => r.slot == n) = some r ∧ slotCfg s n = some c ∧
    c.owner = (lampOf s i).task ∧ (lampOf s i).pubSlots.find? (fun p => p.1 == n) = none ∧
    (lampOf s i).readSlots.contains n = false ∧ (slotOf s n).prov = false ∧
    ((slotOf s n).epoch, (slotOf s n).ord) = reqVer (lampOf s i).cycle r

/-- The version that a declared read of slot n requires is still to come (R71). -/
def SlotAwaited (s : State) (i n : Nat) : Prop :=
  ∃ r c, (lampGroup s i).reads.find? (fun r => r.slot == n) = some r ∧ slotCfg s n = some c ∧
    c.owner = (lampOf s i).task ∧ (lampOf s i).pubSlots.find? (fun p => p.1 == n) = none ∧
    verPrec (slotOf s n).epoch (slotOf s n).ord (reqVer (lampOf s i).cycle r).1 (reqVer (lampOf s i).cycle r).2 = true

/-- Group i may publish slot n as its declared publish `p` of a slot with `c`: it has not, its predecessor's version stands
and nobody has still to read that (R72). -/
def SlotPublishable (s : State) (i n : Nat) (p : SlotPub) (c : SlotCfg) : Prop :=
  (lampGroup s i).pubs.find? (fun p => p.slot == n) = some p ∧ slotCfg s n = some c ∧ c.owner = (lampOf s i).task ∧
    (lampOf s i).pubSlots.any (fun q => q.1 == n) = false ∧
    (slotOf s n).quota ≤ b2n ((lampGroup s i).reads.any (fun r => r.slot == n) && !(lampOf s i).readSlots.contains n) ∧
    ((slotOf s n).epoch, (slotOf s n).ord) = predVer (lampOf s i).cycle c.width p.ord

/-- The gallery host of a shadow, if there is one, is apart from a sector (R248). -/
def HostApart (s : State) (sec : Nat) : Prop :=
  s.edit.host = 2 → ∀ p, shadowPlace s = some p → ∀ g ∈ p.gals, g ∉ sectorGals s sec

/-- A sector is in the safe state: every gallery of it shows so and none of its tasks runs (R52). -/
def SectorFell (sec : Nat) (s t : State) : Prop :=
  (∀ g ∈ sectorGals s sec, (galOf t g).sstate = .safe) ∧
    ∀ k ∈ sectorTasks s sec, (taskOf t k).mode = .sectorSafe ∧ (taskOf t k).phase = .idle

/-- A trap that ends a task: its lamp is idle, and the task is stopped, or its sector is safe (R52, R53, R115). -/
def TaskEnded (i : Nat) (s t : State) : Prop :=
  let k := (lampOf s i).task
  (lampOf t i).mode = .idle ∧ (taskOf t k).phase = .idle ∧
    if (taskCfg s k).vital then
      (∀ g ∈ sectorGals s (taskCfg s k).sector, (galOf t g).sstate = .safe) ∧ (taskOf t k).mode = .sectorSafe
    else (taskOf t k).mode = .stopped

/-! ### Keeper commands -/

/-- The opcode of a keeper command; no other command has one (R438). -/
def cmdOpOf : Instr → Option Nat
  | .moduleStatus => some 0x0101
  | .modeRead => some 0x0102
  | .identityRead => some 0x0103
  | .registerRead => some 0x0104
  | .safe => some 0x0110
  | .safeReset => some 0x0111
  | .serviceEnter => some 0x0112
  | .serviceLeave => some 0x0113
  | .keeperRestart => some 0x0114
  | .clockSelect => some 0x0115
  | .clockMeasure => some 0x0116
  | .watchdogSet => some 0x0117
  | .transferOpen => some 0x0120
  | .transferData => some 0x0121
  | .transferClose => some 0x0122
  | .batchRead => some 0x0124
  | .programLoad _ => some 0x0201
  | .programInfo => some 0x0202
  | .run => some 0x0210
  | .stop => some 0x0211
  | .taskStatus => some 0x0212
  | .taskRestart => some 0x0213
  | .sectorRestart => some 0x0214
  | .rangeRetest => some 0x0215
  | .imageRead => some 0x0216
  | .editLoad _ => some 0x0301
  | .editStatus => some 0x0302
  | .cutOver => some 0x0303
  | .proofAbort => some 0x0304
  | .rollback => some 0x0305
  | .editCommit => some 0x0306
  | .force => some 0x0401
  | .release => some 0x0402
  | .forceList => some 0x0403
  | .pairClear => some 0x0404
  | .groupCutReset => some 0x0405
  | .cutTest => some 0x0406
  | .aoChannelReset => some 0x0407
  | .hartPassthrough => some 0x0408
  | .reflexReset _ => some 0x0409
  | .twinStatus => some 0x0501
  | .roleSwap => some 0x0502
  | .rejoin => some 0x0503
  | .timeRead => some 0x0601
  | .timeSettings => some 0x0602
  | .timeStep => some 0x0603
  | .schedule => some 0x0604
  | .scheduleCancel => some 0x0605
  | .rtcRead _ => some 0x0606
  | .rtcSet => some 0x0607
  | .weekdaySet => some 0x0608
  | .rtcShift => some 0x0609
  | .alarmSet => some 0x060A
  | .alarmClear => some 0x060B
  | .backupRecordClear => some 0x060C
  | .recorderRead => some 0x0701
  | .clearPrepare => some 0x0702
  | .clearConfirm => some 0x0703
  | .counterRead => some 0x0801
  | .retainSnapshot => some 0x0802
  | .lastLightRead => some 0x0803
  | .sessionInfo => some 0x0901
  | .enrollRequest _ _ => some 0x0902
  | .enrollInstall _ _ _ _ => some 0x0903
  | .ownerCertInstall _ _ _ => some 0x0904
  | .keyRotate => some 0x0905
  | .fuseStatus => some 0x0906
  | .fwWrite _ _ _ _ => some 0x0A01
  | .activate => some 0x0A02
  | .fwStatus => some 0x0A03
  | .traceSet => some 0x0B01
  | .counterSelect => some 0x0B02
  | .snapshot => some 0x0B03
  | .canStatus => some 0x0C01
  | .txCancel => some 0x0C02
  | .portRestart => some 0x0C03
  | .networkSet => some 0x0D01
  | .firewallSet => some 0x0D02
  | .beamRxStatus => some 0x0D03
  | .buoyStatus => some 0x0E01
  | .buoyExchange => some 0x0E02
  | .tagRead => some 0x0E03
  | _ => none

/-- The queue of requests without its front. -/
def taken (rest : List Req) (s : State) : State := { s with kp := { s.kp with queue := rest } }

/-- The keeper serves request `q` of opcode `op` next, and no mode refuses it (R439, R441, R443). -/
structure Served (op : Nat) (q : Req) (rest : List Req) (s : State) : Prop where
  ready   : s.kp.ready = true
  front   : s.kp.queue = q :: rest
  opcode  : q.opcode = op
  allowed : modeRefused q (taken rest s) = false

/-- The command leaves a state and reply data of which `p` holds, and then answers its request with code `rc`. -/
def Replies (c : Instr) (q : Req) (rc : Nat) (s : State) (p : List Word → State → Prop) : Prop :=
  ∃ d u, exec c s = .next (finish q { rc := rc, data := d } u) ∧ p d u

/-- The command leaves a state of which `p` holds; its reply comes later (R443, R444). -/
def Waits (c : Instr) (s : State) (p : State → Prop) : Prop := Completes c s p

/-- A twin-wide command is executed here: the partner takes no part (R442). -/
def Alone (q : Req) (s : State) : Prop := (partnerThere s && passesTwin q s) = false

/-- The one transfer of the session: closed, of a kind, with these words (R445). -/
def Transferred (kind : Nat) (q : Req) (ws : List Word) (s : State) : Prop :=
  ∃ t, ownTransfer q s = some t ∧ t.kind = kind ∧ t.closed = true ∧ t.data = ws

/-- Gallery data, range scratch and global memory are in their one canonical form. -/
def MemoriesWf (s : State) : Prop :=
  Memory.wf s.fab.gmem = true ∧ ∀ g, Memory.wf (galOf s g).data = true ∧ Memory.wf (galOf s g).scratch = true

end Sys2Proof.Machine
end

