-- ==== Sys2Proof/Certificates/Slice0/Obligations.lean ====
section
/-!
DEFINITION. The statements about the module, for the provers.
-/
open Sys2Proof Sys2Proof.Machine

/-- For every command, every queue and every state, a step with that command at the front of the queue is exec of it on
the state with the queue's rest. On an empty queue one fabric clock of 2 ns passes, no mode, task, image or register
of a unit changes but time, and an open trace stream sends an entry. The queue and its tick are the model's choice
(log entries 1, 3 and 67). -/
def Obligations.StepRunsFrontCommand : Prop :=
  (∀ (c : Instr) (rest : List Instr) (s : State),
    step { s with pending := c :: rest } = exec c { s with pending := rest }) ∧
  (∀ s : State, s.pending = [] → ∃ t, step s = .next t ∧ now t = now s + 2 ∧ t.time.mono = s.time.mono + 2 ∧
    OnlyIn [.time, .rtc, .watch, .out] s t ∧ (s.watch.isOpen = false → OnlyIn [.time, .rtc] s t))

/-- After reset the module is in STOP with power mode NORMAL and MAINT NONE, has no program, no session, no request and no
driver on; every lamp is idle; memory lists nothing and is canonical; and the registers whose tables give a reset
value other than 0 read it. The unit is taken as a ZC-5124-V (log entry 6), and the next record takes SEQ 1 (log entry
164). -/
def Obligations.ResetState : Prop :=
  State.reset.pending = [] ∧ State.reset.mode.exec = .stop ∧ State.reset.mode.power = .normal ∧
  State.reset.mode.maint = false ∧ State.reset.mode.safeLatched = false ∧ scanning State.reset = false ∧
  State.reset.img = none ∧ State.reset.kp.queue = [] ∧ State.reset.kp.ready = false ∧ State.reset.kp.sessions = [] ∧
  State.reset.dio.drv = 0 ∧ State.reset.rcd.ring = [] ∧ State.reset.nvm.jobs = [] ∧ State.reset.edit.st = .none ∧
  (∀ i, lampOf State.reset i = {}) ∧ (∀ k, taskOf State.reset k = {}) ∧ (∀ r, r < 32 → regGet (lampOf State.reset 0) r = 0) ∧
  State.reset.fab.gmem = [] ∧ MemoriesWf State.reset ∧ (∀ g a, byteAt (galOf State.reset g).data a = 0) ∧
  (∀ x ∈ [((0x00100000 : Nat), (0x00010000 : Word)), (0x00100008, 0x80000000), (0x00100010, 0x76543210), (0x00100014, 0xFEDCBA98),
      (0x00100200, 0x00000001), (0x0010F010, 0x76543210), (0x00080028, 0x00080064), (0x00090120, 0x00000064),
      (0x0009013C, 0x00000064), (0x000C0014, 0x00000025), (0x000C0018, 0x00000064), (0x000C001C, 1000),
      (0x000C0020, 0xF8F80001), (0x0004000C, 0x00000101), (0x0006001C, 0x0014000A), (0x00030000, 0x00000003),
      (0x00030008, 2000000), (0x000C0000, 0x00000433), (0x000D0004, 0x00000064), (0x000D0024, 0xFFFFFFFF), (0x000D0084, 0xFFFFFFFF),
      (0x000B0100, 0), (0x00060004, 0)], regValue State.reset x.1 = x.2)

/-- From every state, a step that answers a next state leaves exactly the rest of the queue, and the module's serial
number, variant, hardware revision and device certificate. So no command can send commands on its own or turn one
module into another. -/
def Obligations.QueueAndIdentityKept : Prop :=
  ∀ s t : State, step s = .next t → t.pending = s.pending.tail ∧ t.id.serial = s.id.serial ∧
    t.id.variantV = s.id.variantV ∧ t.id.hwRev = s.id.hwRev ∧ t.id.idevHash = s.id.idevHash

/-- The lamp room's effective locks and anti-rollback counters, and its record of a marginal identity or trim word, lie in
its store: from every state, over every command, the debug lock, the vital-signature lock and the record stay once
set, and neither counter falls. No clean fuse read, no reset and no command relaxes one. -/
def Obligations.SecurityFieldsOnlyTighten : Prop :=
  ∀ s t : State, step s = .next t → (s.sec.debugLock = true → t.sec.debugLock = true) ∧
    (s.sec.vsLock = true → t.sec.vsLock = true) ∧ (s.sec.margHold = true → t.sec.margHold = true) ∧
    s.sec.svnKeeper ≤ t.sec.svnKeeper ∧ s.sec.svnLroom ≤ t.sec.svnLroom

/-- MAINT SERVICE with EXEC RUN or PROOF is a combination that cannot exist: from every state without it, every step of
every command leads to a state without it. That it does not hold at reset is part of the statement on the reset state. -/
def Obligations.ServiceNeverMeetsScanning : Prop :=
  ∀ s t : State, ¬ (s.mode.maint = true ∧ scanning s = true) → step s = .next t →
    ¬ (t.mode.maint = true ∧ scanning t = true)

/-- On a lamp that executes, ADD, SUB, AND, OR, XOR, NOR, SLT, SLTU, SLL, SRL, SRA, CLZ and MFLK write the result of
R132's table to rd in 1 fc, MUL, MULH and MULHU that of R133's table in 3 fc, MTLK writes lk, and ADDI, ANDI, ORI,
XORI, SLTI, SLTIU, LUI, SLLI, SRLI and SRAI write theirs in 1 fc; g0 stays 0. No other register, no other lamp and no
memory changes. -/
def Obligations.AluFormsWriteResult : Prop :=
  ∀ (o : LampOp) (s : State) (rd rs1 rs2 : Reg) (a b : Word), LampReady o s →
    a = regGet (lampOf s o.lamp) rs1 → b = regGet (lampOf s o.lamp) rs2 →
    Completes (.add o rd rs1 rs2) s (LampResult o.lamp 1 rd (a + b) s) ∧
    Completes (.sub o rd rs1 rs2) s (LampResult o.lamp 1 rd (a - b) s) ∧
    Completes (.and o rd rs1 rs2) s (LampResult o.lamp 1 rd (a &&& b) s) ∧
    Completes (.or o rd rs1 rs2) s (LampResult o.lamp 1 rd (a ||| b) s) ∧
    Completes (.xor o rd rs1 rs2) s (LampResult o.lamp 1 rd (a ^^^ b) s) ∧
    Completes (.nor o rd rs1 rs2) s (LampResult o.lamp 1 rd (~~~(a ||| b)) s) ∧
    Completes (.slt o rd rs1 rs2) s (LampResult o.lamp 1 rd (if a.toInt < b.toInt then 1 else 0) s) ∧
    Completes (.sltu o rd rs1 rs2) s (LampResult o.lamp 1 rd (if a.toNat < b.toNat then 1 else 0) s) ∧
    Completes (.sll o rd rs1 rs2) s (LampResult o.lamp 1 rd (a <<< (b.toNat % 32)) s) ∧
    Completes (.srl o rd rs1 rs2) s (LampResult o.lamp 1 rd (a >>> (b.toNat % 32)) s) ∧
    Completes (.sra o rd rs1 rs2) s (LampResult o.lamp 1 rd (a.sshiftRight (b.toNat % 32)) s) ∧
    Completes (.clz o rd rs1) s (fun t => ∃ n : Nat, LampResult o.lamp 1 rd (BitVec.ofNat 32 n) s t ∧ n ≤ 32 ∧
      (∀ k, 32 - n ≤ k → a.getLsbD k = false) ∧ (n < 32 → a.getLsbD (31 - n) = true)) ∧
    Completes (.mflk o rd) s (LampResult o.lamp 1 rd (lampOf s o.lamp).lk s) ∧
    Completes (.mtlk o rs1) s (LampGoes o.lamp 1 { lampOf s o.lamp with lk := a } s) ∧
    Completes (.mul o rd rs1 rs2) s (LampResult o.lamp 3 rd (a * b) s) ∧
    Completes (.mulh o rd rs1 rs2) s (LampResult o.lamp 3 rd (BitVec.ofInt 32 (a.toInt * b.toInt / 2 ^ 32)) s) ∧
    Completes (.mulhu o rd rs1 rs2) s (LampResult o.lamp 3 rd (BitVec.ofNat 32 (a.toNat * b.toNat / 2 ^ 32)) s) ∧
    ∀ (imm : BitVec 16) (sh : BitVec 5),
      Completes (.addi o rd rs1 imm) s (LampResult o.lamp 1 rd (a + imm.signExtend 32) s) ∧
      Completes (.andi o rd rs1 imm) s (LampResult o.lamp 1 rd (a &&& imm.zeroExtend 32) s) ∧
      Completes (.ori o rd rs1 imm) s (LampResult o.lamp 1 rd (a ||| imm.zeroExtend 32) s) ∧
      Completes (.xori o rd rs1 imm) s (LampResult o.lamp 1 rd (a ^^^ imm.zeroExtend 32) s) ∧
      Completes (.slti o rd rs1 imm) s
        (LampResult o.lamp 1 rd (if a.toInt < (imm.signExtend 32).toInt then 1 else 0) s) ∧
      Completes (.sltiu o rd rs1 imm) s
        (LampResult o.lamp 1 rd (if a.toNat < (imm.signExtend 32).toNat then 1 else 0) s) ∧
      Completes (.lui o rd imm) s (LampResult o.lamp 1 rd (imm.zeroExtend 32 <<< 16) s) ∧
      Completes (.slli o rd rs1 sh) s (LampResult o.lamp 1 rd (a <<< sh.toNat) s) ∧
      Completes (.srli o rd rs1 sh) s (LampResult o.lamp 1 rd (a >>> sh.toNat) s) ∧
      Completes (.srai o rd rs1 sh) s (LampResult o.lamp 1 rd (a.sshiftRight sh.toNat) s)

/-- On a lamp that executes: MUL, MULH and MULHU write the low word, the signed high word and the unsigned high word of
the product in 3 fc. With a divisor other than 0, DIV, DIVU, REM and REMU write the quotient rounded toward zero and
the remainder of the dividend's sign in 18 + ⌊q/2⌋ fc, where q is the number of significant bits of the quotient's
magnitude and the time lies between 18 and 34 fc; −2^31 by −1 gives −2^31 and 0. With divisor 0 each of the four
raises DIV_ZERO and no register is written by it. -/
def Obligations.DividesRoundTowardZero : Prop :=
  ∀ (o : LampOp) (s : State) (rd rs1 rs2 : Reg) (a b : Word), LampReady o s →
    a = regGet (lampOf s o.lamp) rs1 → b = regGet (lampOf s o.lamp) rs2 →
    Completes (.mul o rd rs1 rs2) s (LampResult o.lamp 3 rd (BitVec.ofInt 32 (a.toInt * b.toInt)) s) ∧
    Completes (.mulh o rd rs1 rs2) s (LampResult o.lamp 3 rd (BitVec.ofInt 32 (a.toInt * b.toInt / 2 ^ 32)) s) ∧
    Completes (.mulhu o rd rs1 rs2) s (LampResult o.lamp 3 rd (BitVec.ofNat 32 (a.toNat * b.toNat / 2 ^ 32)) s) ∧
    (b ≠ 0 → ∃ qs qu : Nat,
      (2 ^ qs ≤ 2 * (a.toInt.tdiv b.toInt).natAbs ∨ qs = 0) ∧ (a.toInt.tdiv b.toInt).natAbs < 2 ^ qs ∧
      (2 ^ qu ≤ 2 * (a.toNat / b.toNat) ∨ qu = 0) ∧ a.toNat / b.toNat < 2 ^ qu ∧ qs / 2 ≤ 16 ∧ qu / 2 ≤ 16 ∧
      Completes (.div o rd rs1 rs2) s
        (LampResult o.lamp (18 + qs / 2) rd (BitVec.ofInt 32 (a.toInt.tdiv b.toInt)) s) ∧
      Completes (.rem o rd rs1 rs2) s
        (LampResult o.lamp (18 + qs / 2) rd (BitVec.ofInt 32 (a.toInt.tmod b.toInt)) s) ∧
      Completes (.divu o rd rs1 rs2) s (LampResult o.lamp (18 + qu / 2) rd (BitVec.ofNat 32 (a.toNat / b.toNat)) s) ∧
      Completes (.remu o rd rs1 rs2) s (LampResult o.lamp (18 + qu / 2) rd (BitVec.ofNat 32 (a.toNat % b.toNat)) s)) ∧
    (a = 0x80000000 → b = 0xFFFFFFFF →
      (∃ n, Completes (.div o rd rs1 rs2) s (LampResult o.lamp n rd 0x80000000 s)) ∧
      (∃ n, Completes (.rem o rd rs1 rs2) s (LampResult o.lamp n rd 0 s))) ∧
    (b = 0 → ∀ c ∈ ([.div o rd rs1 rs2, .divu o rd rs1 rs2, .rem o rd rs1 rs2, .remu o rd rs1 rs2] : List Instr),
      exec c s = .next (raiseTrap o.lamp .divZero 0 s))

/-- On a lamp that executes, a bit-field instruction with pos + lenm1 + 1 at most 32 takes 1 fc: EXTR and EXTRS give the
field with zero or sign extension, INSR replaces the field of rd and keeps its other bits. A field past bit 31 raises
ILLEGAL_OP. PERM takes 1 fc and builds each byte of rd from its selector nibble; a nibble 0xE or 0xF raises
ILLEGAL_OP. -/
def Obligations.FieldsAndPermute : Prop :=
  ∀ (o : LampOp) (s : State) (rd rs1 : Reg) (pos lenm1 : BitVec 5) (sel : BitVec 16) (a d : Word), LampReady o s →
    a = regGet (lampOf s o.lamp) rs1 → d = regGet (lampOf s o.lamp) rd →
    (pos.toNat + lenm1.toNat + 1 ≤ 32 →
      Completes (.extr o rd rs1 pos lenm1) s (fun t => ∃ v : Word, LampResult o.lamp 1 rd v s t ∧
        ∀ k, k < 32 → v.getLsbD k = (decide (k ≤ lenm1.toNat) && a.getLsbD (pos.toNat + k))) ∧
      Completes (.extrs o rd rs1 pos lenm1) s (fun t => ∃ v : Word, LampResult o.lamp 1 rd v s t ∧
        ∀ k, k < 32 → v.getLsbD k = a.getLsbD (pos.toNat + min k lenm1.toNat)) ∧
      Completes (.insr o rd rs1 pos lenm1) s (fun t => ∃ v : Word, LampResult o.lamp 1 rd v s t ∧
        ∀ k, k < 32 → v.getLsbD k =
          if pos.toNat ≤ k ∧ k ≤ pos.toNat + lenm1.toNat then a.getLsbD (k - pos.toNat) else d.getLsbD k)) ∧
    (32 < pos.toNat + lenm1.toNat + 1 →
      ∀ c ∈ ([.extr o rd rs1 pos lenm1, .extrs o rd rs1 pos lenm1, .insr o rd rs1 pos lenm1] : List Instr),
        exec c s = .next (raiseTrap o.lamp .illegalOp 0 s)) ∧
    ((∀ i, i < 4 → nib sel i < 14) →
      Completes (.perm o rd rs1 sel) s (fun t => ∃ v : Word, LampResult o.lamp 1 rd v s t ∧
        ∀ i, i < 4 → byteOf v i =
          let n := nib sel i
          if n < 4 then byteOf a n else if n < 8 then byteOf d (n - 4) else if n = 8 then 0x00 else if n = 9 then 0xFF
          else if (byteOf a (n - 10)).getLsbD 7 then 0xFF else 0x00)) ∧
    ((∃ i, i < 4 ∧ 14 ≤ nib sel i) → exec (.perm o rd rs1 sel) s = .next (raiseTrap o.lamp .illegalOp 0 s))

/-- On a lamp that executes, LDB, LDH and LDW at an aligned, mapped D-space address of a page the task may read, on a word
without error, write the 1, 2 or 4 addressed bytes to rd in 2 + W fc, W only in global memory; rd takes the lamp's own
buffered stores over memory. A misaligned address raises MISALIGNED, an unmapped one D_UNMAPPED, and a page the task
may not read CHART_VIOLATION cause 6. The lamp's read of another task's exchange page in speculative work is left to
the statement on speculation. -/
def Obligations.LoadsReadDspace : Prop :=
  ∀ (o : LampOp) (s : State) (rd rs1 : Reg) (imm : BitVec 16) (a : Nat), LampReady o s →
    a = (regGet (lampOf s o.lamp) rs1 + imm.signExtend 32).toNat →
    (∀ p : DPlace, dPlace s o.lamp a = some p → p.mem = 3 ∨ pageOk (pageUse s (dPage p)) (lampOf s o.lamp).task false →
      ((lampOf s o.lamp).spec = false ∨ foreignExchange s o.lamp p = false) →
      eccSeen s (eccKey p.mem p.unit (p.off / 4 * 4)) o.dataErr = .ok →
      let w := overlay (lampOf s o.lamp) .dspace (a / 4 * 4) (dWord s o.lamp { p with off := p.off / 4 * 4 })
      let n := 2 + if p.mem = 4 then min o.wait 16 else 0
      Completes (.ldb o rd rs1 imm) s (LampResult o.lamp n rd ((w >>> (8 * (a % 4))) &&& 0xFF) s) ∧
      (a % 2 = 0 → Completes (.ldh o rd rs1 imm) s (LampResult o.lamp n rd ((w >>> (8 * (a % 4))) &&& 0xFFFF) s)) ∧
      (a % 4 = 0 → Completes (.ldw o rd rs1 imm) s (LampResult o.lamp n rd w s))) ∧
    (a % 2 ≠ 0 → exec (.ldh o rd rs1 imm) s = .next (raiseTrap o.lamp .misaligned a s)) ∧
    (a % 4 ≠ 0 → exec (.ldw o rd rs1 imm) s = .next (raiseTrap o.lamp .misaligned a s)) ∧
    (dPlace s o.lamp a = none → exec (.ldb o rd rs1 imm) s = .next (raiseTrap o.lamp .dUnmapped a s)) ∧
    (∀ p, dPlace s o.lamp a = some p → p.mem ≠ 3 → pageOk (pageUse s (dPage p)) (lampOf s o.lamp).task false = false →
      exec (.ldb o rd rs1 imm) s = .next (raiseTrap o.lamp (.chart 6 0 0 0) a s))

/-- On a lamp that executes without speculative or buffered work, STB, STH and STW at an aligned, mapped address of a page
the task may write store the low 1, 2 or 4 bytes of rs2 there in 1 + W fc. Every other byte of D-space, every other
lamp, output byte and timer/counter block stays. STB and STH need a word without error; STW replaces the word whatever
it carries. The address is the one the load of the same operands reads. A misaligned STW raises MISALIGNED, and any
store outside every region D_UNMAPPED. -/
def Obligations.StoresWriteDspace : Prop :=
  ∀ (o : LampOp) (s : State) (rs2 rs1 : Reg) (imm : BitVec 16) (a : Nat) (v : Word), LampReady o s → LampPlain o s →
    a = (regGet (lampOf s o.lamp) rs1 + imm.signExtend 32).toNat → v = regGet (lampOf s o.lamp) rs2 →
    (∀ p : DPlace, dPlace s o.lamp a = some p → p.mem = 3 ∨ pageOk (pageUse s (dPage p)) (lampOf s o.lamp).task true →
      let n := 1 + if p.mem = 4 then min o.wait 16 else 0
      (eccSeen s (eccKey p.mem p.unit (p.off / 4 * 4)) o.dataErr = .ok →
        Completes (.stb o rs2 rs1 imm) s (fun t => DspaceWritten p 1 v s t ∧ IoKept s t ∧ LampWent o.lamp n s t ∧
          LampStores o.lamp s t) ∧
        (a % 2 = 0 → Completes (.sth o rs2 rs1 imm) s (fun t => DspaceWritten p 2 v s t ∧ IoKept s t ∧
          LampWent o.lamp n s t ∧ LampStores o.lamp s t))) ∧
      (a % 4 = 0 → Completes (.stw o rs2 rs1 imm) s (fun t => DspaceWritten p 4 v s t ∧ IoKept s t ∧
        LampWent o.lamp n s t ∧ LampStores o.lamp s t))) ∧
    (a % 4 ≠ 0 → exec (.stw o rs2 rs1 imm) s = .next (raiseTrap o.lamp .misaligned a s)) ∧
    (dPlace s o.lamp a = none → exec (.stb o rs2 rs1 imm) s = .next (raiseTrap o.lamp .dUnmapped a s))

/-- On a plain lamp that executes, INB, INH and INW at an aligned address of a page of the view that the task declares
write the addressed bytes of the view to rd in 2 + W fc, and INBIT the addressed bit. INW reads a word of a
timer/counter block of the task in 2 + W fc, and a register of range control in 2 fc. An undeclared page raises
IMAGE_PAGE, a register of class LOCAL that the task may not use LOCAL_DENIED. -/
def Obligations.InputReadsShowTheView : Prop :=
  ∀ (o : LampOp) (s : State) (rd rs1 : Reg) (imm : BitVec 16) (off : BitVec 12) (bit : BitVec 4) (a c : Nat),
    LampReady o s → LampPlain o s → a = (regGet (lampOf s o.lamp) rs1 + imm.signExtend 32).toNat →
    c = (regGet (lampOf s o.lamp) rs1 + off.signExtend 32).toNat →
    (ViewReady o a s →
      let w := viewSeen s o.lamp a
      Completes (.inb o rd rs1 imm) s
        (LampResult o.lamp (2 + min o.wait 16) rd ((w >>> (8 * (a % 4))) &&& 0xFF) s) ∧
      (a % 2 = 0 → Completes (.inh o rd rs1 imm) s
        (LampResult o.lamp (2 + min o.wait 16) rd ((w >>> (8 * (a % 4))) &&& 0xFFFF) s)) ∧
      (a % 4 = 0 → Completes (.inw o rd rs1 imm) s (LampResult o.lamp (2 + min o.wait 16) rd w s))) ∧
    (ViewReady o c s → bit.toNat < 8 → Completes (.inbit o rd rs1 bit off) s (LampResult o.lamp (2 + min o.wait 16) rd
      (if (viewSeen s o.lamp c).getLsbD (8 * (c % 4) + bit.toNat) then 1 else 0) s)) ∧
    (a < 0x10000 → viewOk s (lampOf s o.lamp).task a = false →
      exec (.inb o rd rs1 imm) s = .next (raiseTrap o.lamp .imagePage a s)) ∧
    (∀ b j, j < 4 → a = 0x60000 + 16 * b + 4 * j → b < 4096 →
      pageOk (pageUse s (131072 + b / 16)) (lampOf s o.lamp).task true = true →
      eccSeen s (eccKey 7 0 (16 * b + 4 * j)) o.dataErr = .ok →
      Completes (.inw o rd rs1 imm) s (LampResult o.lamp (2 + min o.wait 16) rd (tcWord (tcOf s b) j) s)) ∧
    (0x70000 ≤ a → a < 0x71000 → a % 4 = 0 → rctlDenied s o.lamp a = false →
      Completes (.inw o rd rs1 imm) s (LampResult o.lamp 2 rd (rctlRead s o.lamp a) s)) ∧
    (0x70000 ≤ a → a < 0x71000 → a % 4 = 0 → rctlDenied s o.lamp a = true →
      exec (.inw o rd rs1 imm) s = .next (raiseTrap o.lamp .localDenied a s))

/-- On a plain lamp that executes, OUTB, OUTH and OUTW at an aligned address of the output image write the low bytes of
rs2, and OUTBIT rs2[0], in 2 + W fc, wherever the byte is the task's own; a byte no task owns takes nothing (model's
reading, log entry 32); every other output bit, D-space, blocks and lamps stay. OUTW sets PRESET or ELAPSED of the
task's own block. A byte of another task raises IMAGE_PAGE, the input image IO_ACCESS, slot space CHART_VIOLATION
cause 5. -/
def Obligations.OutputWritesReachOwnBytes : Prop :=
  ∀ (o : LampOp) (s : State) (rs2 rs1 : Reg) (imm : BitVec 16) (off : BitVec 12) (bit : BitVec 4) (a c : Nat) (v : Word),
    LampReady o s → LampPlain o s → a = (regGet (lampOf s o.lamp) rs1 + imm.signExtend 32).toNat →
    c = (regGet (lampOf s o.lamp) rs1 + off.signExtend 32).toNat → v = regGet (lampOf s o.lamp) rs2 →
    (0x10000 ≤ a → a < 0x20000 →
      let x := (a - 0x10000) / 4 * 4
      (OutReady o x (byteMask a 1) s → Completes (.outb o rs2 rs1 imm) s (fun t =>
        OutputWritten o.lamp x (v <<< (8 * (a % 4))) (byteMask a 1) s t ∧ LampWent o.lamp (2 + min o.wait 16) s t)) ∧
      (a % 2 = 0 → OutReady o x (byteMask a 2) s → Completes (.outh o rs2 rs1 imm) s (fun t =>
        OutputWritten o.lamp x (v <<< (8 * (a % 4))) (byteMask a 2) s t ∧ LampWent o.lamp (2 + min o.wait 16) s t)) ∧
      (a % 4 = 0 → OutReady o x 0xFFFFFFFF s → Completes (.outw o rs2 rs1 imm) s (fun t =>
        OutputWritten o.lamp x v 0xFFFFFFFF s t ∧ LampWent o.lamp (2 + min o.wait 16) s t)) ∧
      (foreignMask s (lampOf s o.lamp).task x &&& byteMask a 1 ≠ 0 →
        exec (.outb o rs2 rs1 imm) s = .next (raiseTrap o.lamp .imagePage a s))) ∧
    (0x10000 ≤ c → c < 0x20000 → bit.toNat < 8 →
      let x := (c - 0x10000) / 4 * 4
      let m : Word := BitVec.ofNat 32 (2 ^ (8 * (c % 4) + bit.toNat))
      OutReady o x m s → Completes (.outbit o rs2 rs1 bit off) s (fun t =>
        OutputWritten o.lamp x (if v.getLsbD 0 then m else 0) m s t ∧ LampWent o.lamp (2 + min o.wait 16) s t)) ∧
    (∀ b j, j < 2 → a = 0x60000 + 16 * b + 4 * j → b < 4096 →
      pageOk (pageUse s (131072 + b / 16)) (lampOf s o.lamp).task true = true →
      Completes (.outw o rs2 rs1 imm) s (fun t =>
        tcOf t b = (if j = 0 then { tcOf s b with preset := v } else { tcOf s b with elapsed := v }) ∧
        (∀ d, d ≠ b → tcOf t d = tcOf s d) ∧ LampWent o.lamp (2 + min o.wait 16) s t ∧ LampStores o.lamp s t)) ∧
    (a < 0x10000 → exec (.outb o rs2 rs1 imm) s = .next (raiseTrap o.lamp .ioAccess a s)) ∧
    (0x20000 ≤ a → a < 0x60000 →
      exec (.outb o rs2 rs1 imm) s = .next (raiseTrap o.lamp (.chart 5 ((a - 0x20000) / 4) 0 0) a s))

/-- On a lamp that executes, LD, LDN, AND, ANDN, OR, ORN and XOR combine the operand bit x with ba by R140's table and
change nothing else: x is a register's bit in 1 fc, or, on a plain lamp, a bit of the task's view in 2 + W fc,
addressed as R141 says. A bit read of slot space, blocks or range control raises IO_ACCESS. -/
def Obligations.RungReadsCombineIntoBa : Prop :=
  ∀ (o : LampOp) (s : State) (b : RungBit) (x : Bool) (n : Nat), LampReady o s →
    ((∃ (r : Reg) (k : BitVec 5), b = .reg r k ∧ x = (regGet (lampOf s o.lamp) r).getLsbD k.toNat ∧ n = 1) ∨
      (∃ (a : BitVec 20) (k : BitVec 3), b = .io a k ∧ ViewReady o a.toNat s ∧ n = 2 + min o.wait 16 ∧
        x = (viewSeen s o.lamp a.toNat).getLsbD (8 * (a.toNat % 4) + k.toNat))) →
    let l := lampOf s o.lamp
    Completes (.ld o b) s (LampGoes o.lamp n { l with ba := x } s) ∧
    Completes (.ldn o b) s (LampGoes o.lamp n { l with ba := !x } s) ∧
    Completes (.rungAnd o b) s (LampGoes o.lamp n { l with ba := l.ba && x } s) ∧
    Completes (.andn o b) s (LampGoes o.lamp n { l with ba := l.ba && !x } s) ∧
    Completes (.rungOr o b) s (LampGoes o.lamp n { l with ba := l.ba || x } s) ∧
    Completes (.orn o b) s (LampGoes o.lamp n { l with ba := l.ba || !x } s) ∧
    Completes (.rungXor o b) s (LampGoes o.lamp n { l with ba := l.ba ^^ x } s) ∧
    ∀ (a : BitVec 20) (k : BitVec 3), 0x20000 ≤ a.toNat → a.toNat < 0x80000 →
      exec (.ld o (.io a k)) s = .next (raiseTrap o.lamp .ioAccess a.toNat s)

/-- On a lamp that executes, LDN of bit 0 of g0 sets ba, and LD of it clears ba, in 1 fc. -/
def Obligations.RungConstantsLoad : Prop :=
  ∀ (o : LampOp) (s : State), LampReady o s →
    Completes (.ldn o (.reg 0 0)) s (LampGoes o.lamp 1 { lampOf s o.lamp with ba := true } s) ∧
    Completes (.ld o (.reg 0 0)) s (LampGoes o.lamp 1 { lampOf s o.lamp with ba := false } s)

/-- On a lamp that executes, COIL writes ba, and SET with ba = 1 writes 1 and RST with ba = 1 writes 0, to one bit: of a
register in 1 fc (nothing for g0), or, on a plain lamp, of the task's own output bytes in 2 + W fc. SET and RST with
ba = 0 only take 1 fc, at any address, with no access and no trap. A performed write to slot space raises
CHART_VIOLATION cause 5. On a lamp that executes, BPUSH of mode 0 pushes ba and keeps it; BPOP removes the top entry t
and sets ba to t, t AND ba, or t OR ba by its mode 0, 1 or 2, each in 1 fc. A push onto 16 entries and a pop from none
raise BIT_STACK; BPUSH of another mode and BPOP of mode 3 raise ILLEGAL_OP. -/
def Obligations.RungWritesAndBitStack : Prop :=
  ∀ (o : LampOp) (s : State), LampReady o s →
    let l := lampOf s o.lamp
    (∀ b, l.ba = false → Completes (.set o b) s (LampGoes o.lamp 1 l s) ∧ Completes (.rst o b) s (LampGoes o.lamp 1 l s)) ∧
    (∀ (c : RungBit → Instr) (y : Bool), (c = Instr.coil o ∧ y = l.ba) ∨ (c = Instr.set o ∧ l.ba = true ∧ y = true) ∨
        (c = Instr.rst o ∧ l.ba = true ∧ y = false) →
      (∀ (r : Reg) (k : BitVec 5), Completes (c (.reg r k)) s (fun t => ∃ v : Word, LampResult o.lamp 1 r v s t ∧
        ∀ j, j < 32 → v.getLsbD j = if j = k.toNat then y else (regGet l r).getLsbD j)) ∧
      (∀ (a : BitVec 20) (k : BitVec 3), 0x10000 ≤ a.toNat → a.toNat < 0x20000 →
        let x := (a.toNat - 0x10000) / 4 * 4
        let m : Word := BitVec.ofNat 32 (2 ^ (8 * (a.toNat % 4) + k.toNat))
        OutReady o x m s → Completes (c (.io a k)) s (fun t => OutputWritten o.lamp x (if y then m else 0) m s t ∧
          LampWent o.lamp (2 + min o.wait 16) s t)) ∧
      (∀ (a : BitVec 20) (k : BitVec 3), 0x20000 ≤ a.toNat → a.toNat < 0x60000 →
        exec (c (.io a k)) s = .next (raiseTrap o.lamp (.chart 5 ((a.toNat - 0x20000) / 4) 0 0) a.toNat s))) ∧
    (l.bits.length < 16 → Completes (.bpush o 0) s (LampGoes o.lamp 1 { l with bits := l.ba :: l.bits } s)) ∧
    (16 ≤ l.bits.length → exec (.bpush o 0) s = .next (raiseTrap o.lamp .bitStack 0 s)) ∧
    (∀ mode : BitVec 2, mode ≠ 0 → exec (.bpush o mode) s = .next (raiseTrap o.lamp .illegalOp 0 s)) ∧
    (∀ (t : Bool) (rest : List Bool), l.bits = t :: rest →
      Completes (.bpop o 0) s (LampGoes o.lamp 1 { l with bits := rest, ba := t } s) ∧
      Completes (.bpop o 1) s (LampGoes o.lamp 1 { l with bits := rest, ba := t && l.ba } s) ∧
      Completes (.bpop o 2) s (LampGoes o.lamp 1 { l with bits := rest, ba := t || l.ba } s)) ∧
    (l.bits = [] → ∀ mode : BitVec 2, mode ≠ 3 → exec (.bpop o mode) s = .next (raiseTrap o.lamp .bitStack 0 s)) ∧
    exec (.bpop o 3) s = .next (raiseTrap o.lamp .illegalOp 0 s)

/-- On a plain lamp that executes, at an aligned address of a D-space word without error that the task may write, EDGEP
sets ba to c AND NOT p and EDGEN to NOT c AND p, with c the old ba and p the addressed bit; both then write c into p
in 3 + W fc. No other bit of D-space, output byte, block or lamp changes. A misaligned address raises MISALIGNED. -/
def Obligations.EdgesReportAndRecord : Prop :=
  ∀ (o : LampOp) (s : State) (rs1 : Reg) (bit : BitVec 5) (off : BitVec 16) (a : Nat), LampReady o s → LampPlain o s →
    a = (regGet (lampOf s o.lamp) rs1 + off.signExtend 32).toNat →
    let c := (lampOf s o.lamp).ba
    (∀ p : DPlace, a % 4 = 0 → dPlace s o.lamp a = some p →
      p.mem = 3 ∨ pageOk (pageUse s (dPage p)) (lampOf s o.lamp).task true →
      eccSeen s (eccKey p.mem p.unit p.off) o.dataErr = .ok →
      let old := (wordAt (dMem s p) p.off).getLsbD bit.toNat
      ∀ (i : Instr) (ba : Bool), (i = .edgep o rs1 bit off ∧ ba = (c && !old)) ∨ (i = .edgen o rs1 bit off ∧ ba = (!c && old)) →
        Completes i s (fun t =>
          lampOf t o.lamp = { (lampOf s o.lamp).after (3 + if p.mem = 4 then min o.wait 16 else 0)
            ((lampOf s o.lamp).pc + 4) with ba := ba, visAt := (lampOf t o.lamp).visAt } ∧
          (∀ (j b : Nat) (q : DPlace), dPlace s j b = some q → ∀ k, k < 8 → (byteAt (dMem t q) q.off).getLsbD k =
            if q.mem = p.mem ∧ q.unit = p.unit ∧ q.off = p.off + bit.toNat / 8 ∧ k = bit.toNat % 8 then c
            else (byteAt (dMem s q) q.off).getLsbD k) ∧ IoKept s t ∧ LampStores o.lamp s t)) ∧
    (a % 4 ≠ 0 → exec (.edgep o rs1 bit off) s = .next (raiseTrap o.lamp .misaligned a s))

/-- On a plain lamp that executes, with block b of its task without error, cycle-start s48 and IN = ba: TON, TOF and TP
take the time step d of R148 (0 when NEW or IN rises, else the whole µs since the stored time modulo 2^48 ns), advance
the stored time by exactly what is added, clear NEW, and leave ELAPSED, Q, INP and PULSE as R150, R151 and R152 state,
with ba = Q, in 6 + W fc. No other block, output byte, D-space byte or lamp changes. -/
def Obligations.TimersFollowTheCycleStart : Prop :=
  ∀ (o : LampOp) (s : State) (rs1 : Reg) (blk : BitVec 12) (b : Nat) (x : TcBlock) (inp : Bool) (s48 : Nat),
    LampReady o s → b = (regGet (lampOf s o.lamp) rs1 + blk.zeroExtend 32).toNat → BlockReady o b s → x = tcOf s b →
    inp = (lampOf s o.lamp).ba → s48 = (taskOf s (lampOf s o.lamp).task).start % 2 ^ 48 →
    let zero := x.new || (inp && !x.inp)
    let d := if zero then 0 else (s48 + 2 ^ 48 - x.last.toNat) % 2 ^ 48 / 1000
    let e := min (x.elapsed.toNat + d) x.preset.toNat
    let y := { x with
      last := if zero then BitVec.ofNat 48 s48 else BitVec.ofNat 48 (x.last.toNat + d * 1000), new := false }
    let bits := (lampOf s o.lamp).bits
    Completes (.ton o rs1 blk) s (BlockEvaluated o b 6 bits
      { y with kind := .ton, elapsed := if inp then BitVec.ofNat 32 e else 0
               q := inp && decide (x.preset.toNat ≤ e), inp := inp } s) ∧
    Completes (.tof o rs1 blk) s (BlockEvaluated o b 6 bits
      { y with kind := .tof, elapsed := if inp then 0 else BitVec.ofNat 32 e
               q := inp || (x.q && decide (e < x.preset.toNat)), inp := inp } s) ∧
    Completes (.tp o rs1 blk) s (BlockEvaluated o b 6 bits
      (if x.pulse then
        (if x.preset.toNat ≤ e then
          { y with kind := .tp, elapsed := BitVec.ofNat 32 e, pulse := false, q := false, inp := inp }
         else { y with kind := .tp, elapsed := BitVec.ofNat 32 e, q := true })
       else if inp && !x.inp then
        { y with kind := .tp, elapsed := 0, pulse := x.preset != 0, q := x.preset != 0, inp := true }
       else { y with kind := .tp, elapsed := if inp then BitVec.ofNat 32 e else 0, q := false, inp := inp }) s)

/-- On a plain lamp that executes, with block b of its task without error and top entry r of the bit stack: CTU clears CV
when r is 1, else counts a rising ba up to 2147483647, with Q = CV ≥ PV; CTD loads PV when r is 1, else counts a
rising ba down to −2147483648, with Q = CV ≤ 0. Both pop r, set INP and ba, leave the stored time 0, and take 5 + W
fc. A block after a cold restart has INP 0. An empty bit stack raises BIT_STACK. -/
def Obligations.CountersCountEdges : Prop :=
  (∀ (o : LampOp) (s : State) (rs1 : Reg) (blk : BitVec 12) (b : Nat) (x : TcBlock) (r : Bool) (rest : List Bool) (ba : Bool),
    LampReady o s → b = (regGet (lampOf s o.lamp) rs1 + blk.zeroExtend 32).toNat → BlockReady o b s → x = tcOf s b →
    ba = (lampOf s o.lamp).ba → (lampOf s o.lamp).bits = r :: rest →
    let up := if r then (0 : Word) else if ba && !x.inp && decide (x.elapsed.toInt < 2147483647) then x.elapsed + 1
      else x.elapsed
    let dn := if r then x.preset else if ba && !x.inp && decide (-2147483648 < x.elapsed.toInt) then x.elapsed - 1
      else x.elapsed
    Completes (.ctu o rs1 blk) s (BlockEvaluated o b 5 rest
      { x with kind := .ctu, elapsed := up, last := 0, q := decide (x.preset.toInt ≤ up.toInt), inp := ba } s) ∧
    Completes (.ctd o rs1 blk) s (BlockEvaluated o b 5 rest
      { x with kind := .ctd, elapsed := dn, last := 0, q := decide (dn.toInt ≤ 0), inp := ba } s)) ∧
  (∀ c : TimerCfg, (tcCold c).inp = false) ∧
  (∀ (o : LampOp) (s : State) (rs1 : Reg) (blk : BitVec 12) (b : Nat), LampReady o s →
    b = (regGet (lampOf s o.lamp) rs1 + blk.zeroExtend 32).toNat → BlockReady o b s → (lampOf s o.lamp).bits = [] →
    exec (.ctu o rs1 blk) s = .next (raiseTrap o.lamp .bitStack 0 s) ∧
    exec (.ctd o rs1 blk) s = .next (raiseTrap o.lamp .bitStack 0 s))

/-- On a plain lamp that executes: SWAIT of a slot whose required version stands writes the value to rd in 2 + W fc and
takes one from QUOTA; SWAIT of a version to come stalls the lamp. SPUB over its predecessor's version that no one else
still has to read, with all stores visible, writes value, version and QUOTA in 2 fc. SLOT_READ_RESUME ends a stalled
read whose version stands and counts its wait; SPUB_ISSUE issues a pending publish whose conditions hold. No other
slot changes. An undeclared read raises CHART_VIOLATION cause 1, a slot number of 65,536 or more IO_ACCESS. -/
def Obligations.SlotsHandOverOneVersion : Prop :=
  ∀ (o : LampOp) (s : State) (r1 rs1 : Reg) (imm : BitVec 16) (n : Nat), LampReady o s → LampPlain o s →
    n = (regGet (lampOf s o.lamp) rs1 + imm.zeroExtend 32).toNat →
    let i := o.lamp
    let w := min o.wait 16
    (n < 65536 → SlotReadable s i n → eccSeen s (eccKey 6 0 (4 * n)) o.dataErr = .ok →
      Completes (.swait o r1 rs1 imm) s (fun t =>
        (r1 ≠ 0 → regGet (lampOf t i) r1 = (slotOf s n).value) ∧ (∀ q, q ≠ r1 → regGet (lampOf t i) q = regGet (lampOf s i) q) ∧
        lampOf t i = { (lampOf s i).after (2 + w) ((lampOf s i).pc + 4) with
          regs := (lampOf t i).regs, readSlots := (lampOf s i).readSlots ++ [n] } ∧
        slotOf t n = { slotOf s n with quota := (slotOf s n).quota - 1 } ∧ (∀ m, m ≠ n → slotOf t m = slotOf s m) ∧
        (∀ j, j ≠ i → lampOf t j = lampOf s j) ∧ OnlyIn [.fab, .watch] s t)) ∧
    (n < 65536 → SlotAwaited s i n → eccSeen s (eccKey 6 0 (4 * n)) o.dataErr = .ok →
      Completes (.swait o r1 rs1 imm) s (fun t => lampOf t i = { lampOf s i with mode := .slotWait n r1 } ∧ LampOnly i s t)) ∧
    (∀ (p : SlotPub) (c : SlotCfg), n < 65536 → SlotPublishable s i n p c → (lampOf s i).visAt ≤ (lampOf s i).fc →
      Completes (.spub o r1 rs1 imm) s (fun t =>
        slotOf t n = { slotOf s n with
          value := regGet (lampOf s i) r1, epoch := (lampOf s i).cycle % 256, ord := p.ord, prov := false, depth := 0
          quota := chartQuota (taskChart s (lampOf s i).task) n c.width p.ord } ∧
        (∀ m, m ≠ n → slotOf t m = slotOf s m) ∧ (lampOf t i).pc = (lampOf s i).pc + 4 ∧
        (lampOf t i).fc = (lampOf s i).fc + 2 ∧ (lampOf t i).regs = (lampOf s i).regs ∧
        OnlyIn [.fab, .watch, .free] s t)) ∧
    (65536 ≤ n → exec (.swait o r1 rs1 imm) s = .next (raiseTrap i .ioAccess (0x20000 + 4 * n) s) ∧
      exec (.spub o r1 rs1 imm) s = .next (raiseTrap i .ioAccess (0x20000 + 4 * n) s)) ∧
    (n < 65536 → (lampGroup s i).reads.find? (fun r => r.slot == n) = none →
      eccSeen s (eccKey 6 0 (4 * n)) o.dataErr = .ok →
      exec (.swait o r1 rs1 imm) s =
        .next (raiseTrap i (.chart 1 n (verNum (slotOf s n).epoch (slotOf s n).ord) 0) (0x20000 + 4 * n) s)) ∧
    (∀ (u : State) (fc : Nat), isShadowLamp u i = false → (lampOf u i).spec = false →
      u.nvm.saveStage ≠ 1 → (lampOf u i).mode = .slotWait n r1 → SlotReadable u i n →
      Completes (.slotReadResume i fc) u (fun t =>
        (lampOf t i).mode = .exec ∧ (r1 ≠ 0 → regGet (lampOf t i) r1 = (slotOf u n).value) ∧
        (lampOf t i).pc = (lampOf u i).pc + 4 ∧ (lampOf t i).fc = (lampOf u i).fc + fc ∧
        (slotOf t n).quota = (slotOf u n).quota - 1 ∧
        (galOf t (lampGal i)).slotWaitFc = satAdd (galOf u (lampGal i)).slotWaitFc fc ∧ OnlyIn [.fab, .watch, .nvm] u t)) ∧
    (∀ (u : State) (fc : Nat) (v : Word) (p : SlotPub) (c : SlotCfg), isShadowLamp u i = false → (lampOf u i).spec = false →
      (lampOf u i).mode = .pubWait n v → (lampOf u i).drain = [] → SlotPublishable u i n p c →
      Completes (.spubIssue i fc) u (fun t =>
        (slotOf t n).value = v ∧ (slotOf t n).epoch = (lampOf u i).cycle % 256 ∧ (slotOf t n).ord = p.ord ∧
        (lampOf t i).mode = .exec ∧ (lampOf t i).pc = (lampOf u i).pc + 4 ∧ (lampOf t i).fc = (lampOf u i).fc + fc + 2 ∧
        (∀ m, m ≠ n → slotOf t m = slotOf u m) ∧ OnlyIn [.fab, .watch, .free] u t))

/-- On a lamp that executes at address A: BEQ, BNE, BLT, BGE, BLTU and BGEU go to A + 4 × sext(off) in 2 fc when their
condition holds and on in 1 fc otherwise; J, JAL, JR, JALR, RET and JR through lk with link go to their target in 2
fc, the target read before lk = A + 4 is written. No register, no memory and no other lamp changes. A pc outside
instruction memory or not aligned raises FETCH_FAULT at the next instruction. -/
def Obligations.BranchesReachTheirTargets : Prop :=
  (∀ (o : LampOp) (s : State) (rs1 rs2 : Reg) (off : BitVec 16) (j : BitVec 26) (a b : Word), LampReady o s →
    a = regGet (lampOf s o.lamp) rs1 → b = regGet (lampOf s o.lamp) rs2 →
    let l := lampOf s o.lamp
    let goes (c : Bool) (t : State) : Prop := LampOnly o.lamp s t ∧ lampOf t o.lamp =
      if c then l.after 2 (BitVec.ofNat 32 l.pc + (off.signExtend 32 <<< 2)).toNat else l.after 1 (l.pc + 4)
    let jumps (target : Word) (link : Bool) (t : State) : Prop := LampOnly o.lamp s t ∧ lampOf t o.lamp =
      { l.after 2 target.toNat with lk := if link then BitVec.ofNat 32 (l.pc + 4) else l.lk }
    Completes (.beq o rs1 rs2 off) s (goes (decide (a = b))) ∧
    Completes (.bne o rs1 rs2 off) s (goes (decide (a ≠ b))) ∧
    Completes (.blt o rs1 rs2 off) s (goes (decide (a.toInt < b.toInt))) ∧
    Completes (.bge o rs1 rs2 off) s (goes (decide (b.toInt ≤ a.toInt))) ∧
    Completes (.bltu o rs1 rs2 off) s (goes (decide (a.toNat < b.toNat))) ∧
    Completes (.bgeu o rs1 rs2 off) s (goes (decide (b.toNat ≤ a.toNat))) ∧
    Completes (.j o j) s (jumps (BitVec.ofNat 32 l.pc + (j.signExtend 32 <<< 2)) false) ∧
    Completes (.jal o j) s (jumps (BitVec.ofNat 32 l.pc + (j.signExtend 32 <<< 2)) true) ∧
    Completes (.jr o rs1) s (jumps a false) ∧
    Completes (.jalr o rs1) s (jumps a true) ∧
    Completes (.ret o) s (jumps l.lk false) ∧
    Completes (.jrThroughLkWithLink o) s (jumps l.lk true)) ∧
  (∀ (o : LampOp) (s : State) (off : BitVec 26), isShadowLamp s o.lamp = false → (lampOf s o.lamp).mode = .exec →
    (0x200000 ≤ (lampOf s o.lamp).pc ∨ (lampOf s o.lamp).pc % 4 ≠ 0) →
    exec (.j o off) s = .next (raiseTrap o.lamp .fetchFault 0 s))

/-- On a lamp that executes: FENCE goes on in 1 fc once the lamp's stores are visible and else waits, and FENCE_COMPLETE
ends the wait when its stores have drained, after the remaining visibility. YIELD n takes n + 2 fc. GEND of a plain
lamp whose declared reads and publishes are all done ends the group: it joins its task's finished groups, the
gallery's GROUP_CNT rises, and the lamp leaves it (outside a power-down sequence, whose capture may follow it). TRAP
raises USER with its code, and in speculative work stops for validation. -/
def Obligations.SystemInstructionsAct : Prop :=
  ∀ (o : LampOp) (s : State), LampReady o s →
    let i := o.lamp
    let l := lampOf s i
    (storesVisible l = true → Completes (.fence o) s (LampGoes i 1 l s)) ∧
    (storesVisible l = false →
      Completes (.fence o) s (fun t => lampOf t i = { l with mode := .fenceWait } ∧ LampOnly i s t)) ∧
    (∀ u : State, isShadowLamp u i = false → (lampOf u i).mode = .fenceWait → (lampOf u i).drain = [] →
      Completes (.fenceComplete i) u
        (LampGoes i ((lampOf u i).visAt - (lampOf u i).fc + 1) { lampOf u i with mode := .exec } u)) ∧
    (∀ n : BitVec 8, Completes (.yield o n) s (LampGoes i (n.toNat + 2) l s)) ∧
    ((lampOf s i).spec = false → s.nvm.saveStage ≠ 1 →
      (∀ r ∈ (lampGroup s i).reads, l.readSlots.contains r.slot || l.pubSlots.any (fun p => p.1 == r.slot)) →
      (∀ p ∈ (lampGroup s i).pubs, l.pubSlots.any (fun x => x.1 == p.slot)) →
      Completes (.gend o) s (fun t =>
        (taskOf t l.task).doneG = (taskOf s l.task).doneG ++ [l.group] ∧
        (galOf t (lampGal i)).groupCnt = satInc (galOf s (lampGal i)).groupCnt ∧
        ((lampOf t i).mode = .idle ∨ ((lampOf t i).mode = .exec ∧ (lampOf t i).instrs = 0)) ∧
        OnlyIn (logBlocks ++ [.fab, .free]) s t)) ∧
    (∀ code : BitVec 16, l.spec = false → exec (.trap o code) s = .next (raiseTrap i (.user code.toNat) 0 s)) ∧
    (∀ code : BitVec 16, l.spec = true →
      Completes (.trap o code) s (fun t => lampOf t i = { l with mode := .specWait } ∧ LampOnly i s t))

/-- A trap condition on a live lamp in non-speculative work leaves the lamp idle and ends its task's cycle: a non-vital
task is stopped, and a vital one takes its whole sector to the safe state. In speculative work it is held in the group
with its address, and the lamp waits for validation. Premises rule out what no run reaches: a table of lamps outside
its canonical form, and a shadow hosted in the task's own sector. When WATCHDOG of a cycle passes with LOGIC still
running, outside the first cycle of a rejoin, TASK_WDG_VITAL takes the vital task's sector to the safe state with
every task of it halted, and TASK_WDG_NONVITAL stops the non-vital task alone, at start + WATCHDOG. A shadow hosted in
the sector itself, which no run reaches, is ruled out. -/
def Obligations.TrapsAndWatchdogsEndTasks : Prop :=
  (∀ (i : Nat) (c : TrapCause) (a : Nat) (s : State), tabWf {} s.fab.lamps = true → s.fab.isShadow = false →
    let l := lampOf s i
    (l.spec = true → l.specs ≠ [] →
      (lampOf (raiseTrap i c a s) i).mode = .specWait ∧
      ((lampOf (raiseTrap i c a s) i).specs.getLast?.bind SpecGroup.trap) = some { cause := c, pc := l.pc, addr := a } ∧
      LampOnly i s (raiseTrap i c a s)) ∧
    (l.spec = false → l.mode = .exec → (taskCfg s l.task).used = true → l.task < 16 →
      ((taskCfg s l.task).vital = true →
        sectorState s (taskCfg s l.task).sector ≠ .safe ∧ HostApart s (taskCfg s l.task).sector) →
      TaskEnded i s (raiseTrap i c a s))) ∧
  (∀ (k : Nat) (s : State), (taskCfg s k).used = true → k < 16 →
    ((taskOf s k).phase = .logic ∨ (taskOf s k).phase = .agree) → (twOf s k).firstJoin = false →
    ((taskCfg s k).vital = true → sectorState s (taskCfg s k).sector ≠ .safe → HostApart s (taskCfg s k).sector →
      Completes (.taskWdgVital k) s (fun t => SectorFell (taskCfg s k).sector s t ∧
        now t = max ((taskOf s k).start + (taskCfg s k).watchdog * 1000) (now s))) ∧
    ((taskCfg s k).vital = false →
      Completes (.taskWdgNonvital k) s (fun t => (taskOf t k).mode = .stopped ∧ (taskOf t k).phase = .idle ∧
        (∀ j, j ≠ k → taskOf t j = taskOf s j) ∧
        now t = max ((taskOf s k).start + (taskCfg s k).watchdog * 1000) (now s))))

/-- For every lamp instruction: on a live lamp that is not executing it changes nothing; from a pc outside I-space or not
aligned it raises FETCH_FAULT; from an uncorrectable word it raises ECC_UNCORRECTABLE; with a field its format marks 0
not 0 it raises ILLEGAL_OP. After a GEND the capture of a waiting snapshot or power-down save may follow. For a lamp
that runs shadow work of a proof, no instruction but GEND changes the live tasks, slots, blocks, output image or
global memory; only a proof that fails by it lets go of its hosts, its mode and its image. -/
def Obligations.LampCommandsAreGated : Prop :=
  ∀ (i : Instr) (o : LampOp) (s : State) (fin : State → State), lampOpOf i = some o →
    (i = .gend o ∧ fin = (fun t => savingTry (snapTry t))) ∨ (i ≠ .gend o ∧ fin = id) →
    (isShadowLamp s o.lamp = false →
      ((lampOf s o.lamp).mode ≠ .exec → exec i s = .next (fin s)) ∧
      ((lampOf s o.lamp).mode = .exec → (0x200000 ≤ (lampOf s o.lamp).pc ∨ (lampOf s o.lamp).pc % 4 ≠ 0) →
        exec i s = .next (fin (raiseTrap o.lamp .fetchFault 0 s))) ∧
      ((lampOf s o.lamp).mode = .exec → (lampOf s o.lamp).pc < 0x200000 → (lampOf s o.lamp).pc % 4 = 0 →
        (eccSeen s (eccKey 1 (lampGal o.lamp) (lampOf s o.lamp).pc) o.fetchErr = .double →
          exec i s = .next (fin (raiseTrap o.lamp (.ecc 1 (lampOf s o.lamp).pc) (lampOf s o.lamp).pc
            (eccLeave 1 (lampGal o.lamp) (lampOf s o.lamp).pc .double s)))) ∧
        (eccSeen s (eccKey 1 (lampGal o.lamp) (lampOf s o.lamp).pc) o.fetchErr = .ok → o.z ≠ 0 →
          exec i s = .next (fin (raiseTrap o.lamp .illegalOp 0 s))))) ∧
    (isShadowLamp s o.lamp = true → i ≠ .gend o → Completes i s (fun t =>
      t.fab.tasks = s.fab.tasks ∧ t.fab.slots = s.fab.slots ∧ t.fab.blocks = s.fab.blocks ∧ t.fab.outImg = s.fab.outImg ∧
      t.fab.gmem = s.fab.gmem ∧ OnlyIn (logBlocks ++ [.edit, .free, .fab, .rfx, .twin, .mode, .img]) s t))

/-- SPECULATIVE_START places the next admissible group of a run-ahead task on an idle lamp as speculative work.
VALIDATE_GROUP commits a lamp's first group when its read set holds, queueing its stores behind the earlier ones, and
else squashes it with nothing of it in D-space. STORE_BUFFER_DRAIN applies one committed entry, in order. RA_SUSPENDED
after 64 cycles with more squashes than commits suspends run-ahead of the task for 256 cycles (kept as a count from
257) and RA_RESUMED ends that. -/
def Obligations.SpeculationCommitsOrVanishes : Prop :=
  (∀ (i k j : Nat) (s : State), i < 512 → (lampOf s i).mode = .idle → lampServes s i = true → nextGroup s i = none →
    s.fab.isShadow = false → nextSpec s i = some (k, j) →
    Completes (.speculativeStart i) s (fun t =>
      (lampOf t i).mode = .exec ∧ (lampOf t i).spec = true ∧ (lampOf t i).task = k ∧ (lampOf t i).group = j ∧
      (lampOf t i).cycle = specCycle s k ∧ (lampOf t i).pc = ((taskChart s k).getD j ⟨0, 0, 0, 0, [], [], 0⟩).entry ∧
      (lampOf t i).specs.length = (lampOf s i).specs.length + 1 ∧ (∀ m, m ≠ i → lampOf t m = lampOf s m) ∧
      OnlyIn [.fab, .free] s t)) ∧
  (∀ (i : Nat) (g : SpecGroup) (gs : List SpecGroup) (s : State), (lampOf s i).specs = g :: gs →
    g.cycle = (taskOf s g.task).cycle → (taskOf s g.task).phase = .logic →
    (∀ u ∈ g.used, (slotOf s u.1).prov = true → verNum (slotOf s u.1).epoch (slotOf s u.1).ord ≠ u.2) →
    ((∀ r ∈ g.reads, readHolds s g.task r = true) → g.trap = none →
      Completes (.validateGroup i) s (fun t =>
        (lampOf t i).specs = gs ∧ (lampOf t i).drain = (lampOf s i).drain ++ g.stores ∧
        (galOf t (lampGal i)).raCommit = satInc (galOf s (lampGal i)).raCommit ∧ DspaceKept s t ∧
        OnlyIn (logBlocks ++ [.fab, .free]) s t)) ∧
    ((∃ r ∈ g.reads, readHolds s g.task r = false) →
      Completes (.validateGroup i) s (fun t =>
        (lampOf t i).specs = [] ∧ (lampOf t i).drain = (lampOf s i).drain ∧ DspaceKept s t ∧
        (∀ b, tcOf t b = tcOf s b) ∧ OnlyIn (logBlocks ++ [.fab, .free]) s t))) ∧
  (∀ (i : Nat) (e : BufStore) (es : List BufStore) (s : State), (lampOf s i).drain = e :: es →
    Completes (.storeBufferDrain i) s (fun t =>
      (lampOf t i).drain = es ∧
      (∀ p, e.space = .dspace → dPlace s i e.addr = some p → e.addr % 4 = 0 →
        wordAt (dMem t p) p.off = (wordAt (dMem s p) p.off &&& ~~~e.mask) ||| (e.value &&& e.mask)) ∧
      (e.space = .io → e.addr < 0x20000 → ∀ b, tcOf t b = tcOf s b) ∧
      (e.space = .slot → slotOf t e.addr = { slotOf s e.addr with prov := false, depth := 0 }) ∧
      OnlyIn (logBlocks ++ [.fab, .free]) s t)) ∧
  (∀ (k : Nat) (s : State), k < 8 → 64 ≤ (taskOf s k).raCycles → (taskOf s k).raCommitted < (taskOf s k).raSquashed →
    (taskOf s k).raSuspended = 0 →
    Completes (.raSuspended k) s (fun t => (taskOf t k).raSuspended = 257 ∧ (taskOf t k).raCycles = 0 ∧
      (∀ g ∈ sectorGals s (taskCfg s k).sector, (galOf t g).raSuspend.getLsbD k = true) ∧
      OnlyIn (logBlocks ++ [.fab]) s t)) ∧
  (∀ (k : Nat) (s : State), k < 8 → (taskOf s k).raSuspended = 1 →
    Completes (.raResumed k) s (fun t => (taskOf t k).raSuspended = 0 ∧
      (∀ g ∈ sectorGals s (taskCfg s k).sector, (galOf t g).raSuspend.getLsbD k = false) ∧
      OnlyIn (logBlocks ++ [.fab]) s t))

/-- When gallery data, range scratch and global memory are in canonical form (addresses rising, no listed byte 0: the
model's form, log entry 9), STB, STH, STW, EDGEP and EDGEN of a plain lamp that executes leave them in canonical form,
whatever they store and wherever, and so does the drain of a store buffer. -/
def Obligations.StoresKeepMemoryCanonical : Prop :=
  ∀ (s t : State), MemoriesWf s →
    (∀ (o : LampOp) (i : Instr), LampReady o s → LampPlain o s →
      ((∃ r2 r1 imm, i = .stb o r2 r1 imm ∨ i = .sth o r2 r1 imm ∨ i = .stw o r2 r1 imm) ∨
        (∃ r1 bit off, i = .edgep o r1 bit off ∨ i = .edgen o r1 bit off)) →
      exec i s = .next t → MemoriesWf t) ∧
    (∀ i, exec (.storeBufferDrain i) s = .next t → MemoriesWf t)

/-- In a solo module with no cut-over pending, for a task that may start: SCHEDULED_INSTANT begins the cycle at the due
grid instant, with CYCLE 0 for the first and one more for each later one, and sets the next grid instant and the
strobe instant; LATE_CYCLE_START after a stretched cycle begins it late for the latest grid instant; EVENT_TRIGGER
begins a cycle of an idle event task now, is held once while a cycle runs, and is counted lost after that. -/
def Obligations.CyclesBeginAtTheirInstants : Prop :=
  ∀ (k : Nat) (s : State), twinOn s = false → s.edit.toSwitch = [] →
    let x := taskOf s k
    let begins (start sched : Nat) (t : State) : Prop :=
      (taskOf t k).cycle = (if x.started then (x.cycle + 1) % 2 ^ 32 else 0) ∧ (taskOf t k).start = start ∧
      (taskOf t k).sched = sched ∧ (taskOf t k).phase = .logic ∧ (taskOf t k).started = true ∧
      (taskOf t k).stretched = false ∧ (taskOf t k).strobeAt = sched + (taskCfg s k).strobeOffset * 1000
    (∀ d, k < 8 → mayStart s k = true → x.nextAt = some d → x.lateNext = false →
      Completes (.scheduledInstant k) s (fun t => begins d d t ∧ now t = max d (now s) ∧
        (taskOf t k).nextAt = some (gridAt (taskCfg s k) (d + 1)) ∧ (taskOf t k).late = false)) ∧
    (∀ d, k < 8 → mayStart s k = true → x.nextAt = some d → x.lateNext = true →
      Completes (.lateCycleStart k) s (fun t => begins d (gridBefore s k d) t ∧
        (taskOf t k).lateUs = (d - gridBefore s k d) / 1000 ∧ (taskOf t k).late = decide (gridBefore s k d < d))) ∧
    (8 ≤ k → k < 16 → (taskCfg s k).trigger ≠ .none → mayStart s k = true →
      Completes (.eventTrigger k) s (fun t => begins (now s) (now s) t ∧ (taskOf t k).nextAt = none)) ∧
    (8 ≤ k → k < 16 → (taskCfg s k).trigger ≠ .none → x.mode = .running → x.phase ≠ .idle → scanning s = true →
      (x.held = none → Completes (.eventTrigger k) s (fun t =>
        taskOf t k = { x with held := some (now s) } ∧ OnlyIn [.fab] s t)) ∧
      (x.held ≠ none → Completes (.eventTrigger k) s (fun t =>
        taskOf t k = { x with lostCnt := satInc x.lostCnt } ∧ OnlyIn (logBlocks ++ [.fab]) s t)))

/-- In a solo module: LOGIC_END of a task whose groups have ended and whose stores have landed, before its watchdog,
stages its output bytes and arms the strobe, OUT ending 2 × T_OUT later. OUTPUT_STROBE of an armed task commits its
staged bytes, and no other output byte, at the armed instant and ends the cycle; a cyclic task that was not stretched
is due at its next grid instant. LOGIC_DEADLINE of a non-vital cyclic task still in LOGIC stretches its cycle and
counts the overrun. -/
def Obligations.LogicEndsAndStrobes : Prop :=
  ∀ (k : Nat) (s : State), twinOn s = false → s.mode.role = .solo → s.edit.toSwitch = [] →
    let x := taskOf s k
    (∀ n, x.phase = .logic → logicDone s k = true → max n (now s) ≤ x.start + (taskCfg s k).watchdog * 1000 →
      Completes (.logicEnd k n) s (fun t =>
        (taskOf t k).staged = x.work ∧ (taskOf t k).phase = .armed ∧ now t = max n (now s) ∧
        (taskOf t k).outAt = max n (now s) + 2 * (taskCfg s k).tOut)) ∧
    (∀ (line drv : Word) (clamps : List (Nat × Nat)) (bad : List Nat) (p : ProgImage), s.img = some p →
      x.phase = .armed → x.mode = .running → (twOf s k).adopt = false →
      Completes (.outputStrobe k line drv clamps bad) s (fun t =>
        (∀ a, byteAt t.fab.outImg a = if a ∈ taskOuts p k then byteAt x.staged a else byteAt s.fab.outImg a) ∧
        now t = max x.strobeAt (now s) ∧
        (k < 8 → (taskOf t k).phase = .idle ∧ (taskOf t k).strobed = true ∧ (taskOf t k).commit = x.staged ∧
          (x.stretched = false → (∀ d, stopAt s = some d → max x.strobeAt (now s) < d) → (twOf s k).takeOver = false →
            (taskOf t k).nextAt = some (gridAt (taskCfg s k) (x.sched + 1)))))) ∧
    (k < 8 → (taskCfg s k).vital = false → (x.phase = .logic ∨ x.phase = .agree) → x.stretched = false →
      Completes (.logicDeadline k) s (fun t => (taskOf t k).stretched = true ∧
        (taskOf t k).overrunCnt = satInc x.overrunCnt ∧ (taskOf t k).phase = x.phase ∧
        now t = max (x.strobeAt - 2 * (taskCfg s k).tOut) (now s) ∧ OnlyIn [.fab, .time, .rtc] s t))

/-- For a gallery and range of the module: LOCKSTEP_MISMATCH of a locked, working range counts it, keeps its signature,
makes a running sector safe and starts LBIST. LBIST_RESULT with both lamps passing begins the join; with one failing
the range is HALF, with both RETIRED, and persistently so; an early run of a retest asks for the next. RANGE_SPLIT and
RANGE_JOINED end a change of a quiet range, and JOIN_FAILED sends it to LBIST again. -/
def Obligations.RangesFailAndRecover : Prop :=
  ∀ (g r : Nat) (s : State), g < 16 → r < 16 →
    let x := rangeOf s g r
    (∀ (code : Nat) (m c : Word), x.split = false → (x.st = .inService ∨ x.st = .spare ∨ x.st = .lent) →
      HostApart s (galOf s g).sector →
      Completes (.lockstepMismatch g r code m c) s (fun t =>
        (rangeOf t g r).st = .lbist ∧ (rangeOf t g r).mismatchCnt = satInc x.mismatchCnt ∧ (rangeOf t g r).sig = code ∧
        (rangeOf t g r).lastMain = m ∧ (rangeOf t g r).lastChk = c ∧ (rangeOf t g r).outcome = .running ∧
        (rangeOf t g r).lbCause = .mismatch ∧
        (x.st = .inService → (galOf s g).sstate = .run → sectorState s (galOf s g).sector ≠ .safe →
          SectorFell (galOf s g).sector s t))) ∧
    (∀ p0 p1 : Bool, x.st = .lbist → x.changing = false →
      Completes (.lbistResult g r p0 p1) s (fun t =>
        (rangeOf t g r).lbistCnt = satInc x.lbistCnt ∧ (rangeOf t g r).lb0Pass = p0 ∧ (rangeOf t g r).lb1Pass = p1 ∧
        now t = max (x.lbTs + 2000000) (now s) ∧
        (x.lbCause ≠ .retest → p0 = true → p1 = true → (rangeOf t g r).changing = true ∧ (rangeOf t g r).st = .lbist ∧
          (rangeOf t g r).chgSplit = false) ∧
        (x.lbCause ≠ .retest → (p0 && p1) = false → (rangeOf t g r).st = (if p0 || p1 then .half else .retired) ∧
          (rangeOf t g r).persist = true ∧ (rangeOf t g r).lamp0Ok = p0 ∧ (rangeOf t g r).lamp1Ok = p1) ∧
        (x.lbCause = .retest → 1 < x.retest → (rangeOf t g r).retest = x.retest - 1 ∧ (rangeOf t g r).st = .lbist))) ∧
    (∀ d : Nat, x.changing = true → rangeQuiet s g r = true →
      (x.chgSplit = true → Completes (.rangeSplit g r d) s (fun t =>
        (rangeOf t g r).split = true ∧ (rangeOf t g r).compare = false ∧ (rangeOf t g r).changing = false ∧
        (rangeOf t g r).splitCnt = satInc x.splitCnt ∧ OnlyIn (logBlocks ++ [.fab, .free]) s t)) ∧
      (x.chgSplit = false → Completes (.rangeJoined g r d) s (fun t =>
        (rangeOf t g r).split = false ∧ (rangeOf t g r).compare = true ∧ (rangeOf t g r).joinCnt = satInc x.joinCnt ∧
        (rangeOf t g r).st = (if x.st = .lbist then x.was else x.st) ∧ OnlyIn (logBlocks ++ [.fab, .free]) s t)) ∧
      (∀ (code fc : Nat) (m c : Word), x.chgSplit = false → Completes (.joinFailed g r code m c fc) s (fun t =>
        (rangeOf t g r).st = .lbist ∧ (rangeOf t g r).lbCause = .warm ∧ (rangeOf t g r).sigWarm = true ∧
        (rangeOf t g r).sig = code ∧ (rangeOf t g r).mismatchCnt = satInc x.mismatchCnt ∧
        OnlyIn (logBlocks ++ [.fab]) s t)))

/-- GALLERY_WAKE of a gallery that is off and asked for powers it on with its memories zero, counted, at most 40 µs later;
MEM_READY loads what the image gives it; GALLERY_SLEEP of one that nothing needs powers it off and empties it;
GALLERY_POWER_FAULT powers it off with the fault shown and makes a running sector safe. OBSERVATION_STALL takes the
oldest snapshot request, counts it and stalls a live busy lamp 12 fc. INTERCONNECT_FAULT, once, takes the module to
SAFE with its cause open. SCRUB_LINE of a ready gallery memory goes on to the next line, and counts a single error and
an uncorrectable one, which it leaves marked. FRT_CLEAR zeroes a free-running timer and FRT_RUN starts or holds it at
its count, and neither touches anything else. -/
def Obligations.GalleriesAndFabricFaults : Prop :=
  ((∀ (g : Nat) (s : State), g < 16 →
    let x := galOf s g
    (∀ us, x.power = .off → x.wakePending = true → Completes (.galleryWake g us) s (fun t =>
      (galOf t g).power = .on ∧ (galOf t g).wakePending = false ∧ (galOf t g).memReady = false ∧ (galOf t g).data = [] ∧
      (galOf t g).imem = [] ∧ (galOf t g).scratch = [] ∧ (galOf t g).wakeCnt = satInc x.wakeCnt ∧
      now t = now s + 1000 * min us 40)) ∧
    (x.power = .on → x.memReady = false → Completes (.memReady g) s (fun t =>
      (galOf t g).memReady = true ∧ OnlyIn [.fab, .free] s t ∧
      (∀ p, s.img = some p → (tabGet ({} : GalleryCfg) p.gal g).sector.isSome = true →
        (galOf t g).data = (tabGet ({} : GalleryCfg) p.gal g).data))) ∧
    (x.power = .on → galNeeded s g = false → Completes (.gallerySleep g) s (fun t =>
      (galOf t g).power = .off ∧ (galOf t g).data = [] ∧ (galOf t g).imem = [] ∧ (galOf t g).scratch = [] ∧
      (∀ i, lampGal i = g → lampOf t i = {}) ∧ OnlyIn (logBlocks ++ [.fab]) s t)) ∧
    (x.power ≠ .off → x.powerFault = false → HostApart s x.sector → Completes (.galleryPowerFault g) s (fun t =>
      (galOf t g).power = .off ∧ (galOf t g).powerFault = true ∧ (galOf t g).data = [] ∧
      (x.sstate = .run → sectorState s x.sector ≠ .safe → SectorFell x.sector s t)))) ∧
  (∀ (bad : Bool) (g r l n : Nat) (rest : List (Nat × Nat × Nat × Nat)) (s : State),
    s.watch.snapReq = (g, r, l, n) :: rest → isShadowLamp s (32 * g + 2 * r + l) = false →
    Completes (.observationStall bad) s (fun t =>
      t.watch.snapReq = rest ∧ (rangeOf t g r).snapCnt = satInc (rangeOf s g r).snapCnt ∧
      (rangeOf t g r).snapStall = satAdd (rangeOf s g r).snapStall 12 ∧
      ((lampOf s (32 * g + 2 * r + l)).mode ≠ .idle →
        (lampOf t (32 * g + 2 * r + l)).fc = (lampOf s (32 * g + 2 * r + l)).fc + 12) ∧
      (s.watch.isOpen = true → t.watch.snapBuf.length = s.watch.snapBuf.length + 1) ∧
      OnlyIn (logBlocks ++ [.fab]) s t))) ∧
  ((∀ (d : Bool) (s : State), s.fab.icxFail = false → Completes (.interconnectFault d) s (fun t =>
    t.fab.icxFail = true ∧ t.mode.exec = .safe ∧ t.mode.causeOpen = true)) ∧
  (∀ (mem g off : Nat) (mark : EccMark) (s : State), 1 ≤ mem → mem ≤ 3 → g < 16 → (galOf s g).memReady = true →
    Completes (.scrubLine mem g off mark) s (fun t =>
      (galOf t g).scrubLine = ((galOf s g).scrubLine + 1) % 49152 ∧
      (galOf t g).eccCorr = (if mark = .single then satInc (galOf s g).eccCorr else (galOf s g).eccCorr) ∧
      (galOf t g).eccUncorr = (if mark = .double then satInc (galOf s g).eccUncorr else (galOf s g).eccUncorr) ∧
      (mark = .double → tabGet .ok t.fab.ecc (eccKey mem g off) = .double) ∧ OnlyIn (logBlocks ++ [.fab]) s t)) ∧
  (∀ (k : Nat) (s : State), k < 64 →
    Completes (.frtClear k) s (fun t => frtCount t k = 0 ∧ (frtOf t k).run = (frtOf s k).run ∧
      (∀ j, j ≠ k → frtOf t j = frtOf s j) ∧ OnlyIn [.fab] s t) ∧
    ∀ b : Bool, Completes (.frtRun k b) s (fun t => frtCount t k = frtCount s k ∧ (frtOf t k).run = b ∧
      (∀ j, j ≠ k → frtOf t j = frtOf s j) ∧ OnlyIn [.fab] s t)))

/-- REFLEX_SOURCE_CHANGE brings the terms on their way to the latches at their instant. REFLEX_MISMATCH and
REFLEX_LANE_MISMATCH hold every channel that changes from equal to different, count each onset once and keep the mask;
REFLEX_CFG_CHECK_PASS that fails holds every channel that has a cell and sets CFG_FAULT; a held channel is off
whatever commands it. -/
def Obligations.ReflexHoldsDisagreement : Prop :=
  (∀ (p : RfxPath) (ps : List RfxPath) (s : State), s.rfx.path = p :: ps → (∀ q ∈ ps, max p.due (now s) < q.due) →
    Completes .reflexSourceChange s (fun t => now t = max p.due (now s) ∧ t.rfx.latOff = p.off ∧ t.rfx.latOn = p.on ∧
      t.rfx.path = ps ∧ OnlyIn (logBlocks ++ [.rfx, .dio, .time, .rtc]) s t)) ∧
  (∀ (offB onB : Word) (s : State),
    let d := (s.rfx.off ^^^ offB) ||| (s.rfx.on ^^^ onB)
    let new := d &&& ~~~s.rfx.termDiff
    Completes (.reflexMismatch offB onB) s (fun t => t.rfx.termDiff = d ∧ t.rfx.held = s.rfx.held ||| new ∧
      (new ≠ 0 → t.rfx.mismatchCnt = satAdd s.rfx.mismatchCnt (pop new) ∧ t.rfx.lastTs = now s ∧ t.rfx.lastMask = new) ∧
      (∀ n, t.rfx.held.getLsbD n = true → doLatch t true n = false) ∧ OnlyIn (logBlocks ++ [.rfx, .dio]) s t)) ∧
  (∀ (laneB : Word) (s : State),
    let d := maskW (doLatch s true) ^^^ laneB
    let new := d &&& ~~~s.rfx.laneDiff
    Completes (.reflexLaneMismatch laneB) s (fun t => t.rfx.laneDiff = d ∧ t.rfx.held = s.rfx.held ||| new ∧
      (new ≠ 0 → t.rfx.laneCnt = satAdd s.rfx.laneCnt (pop new) ∧ t.rfx.lastTs = now s ∧ t.rfx.lastMask = new) ∧
      (∀ n, t.rfx.held.getLsbD n = true → doLatch t true n = false) ∧ OnlyIn (logBlocks ++ [.rfx, .dio]) s t)) ∧
  (∀ (diff : Option Nat) (a b : Word) (c : RfxCfg) (s : State), s.rfx.act = some c →
    Completes (.reflexCfgCheckPass diff a b) s (fun t =>
      (diff = none → a = c.id → b = c.id → t = s) ∧
      ((diff ≠ none ∨ a ≠ c.id ∨ b ≠ c.id) → t.rfx.held = s.rfx.held ||| rfxChannels (some c) ∧ t.rfx.cfgFault = true ∧
        t.rfx.cfgFaultCnt = satInc s.rfx.cfgFaultCnt ∧ OnlyIn (logBlocks ++ [.rfx, .dio]) s t)))

/-- BYPASS_DECISION_CHANGE sets the terminal and, outside a test window on an enabled buoy, the bypass decision; the
debounced one follows at once without a count, else a count starts. DEBOUNCE_EXPIRY lets it follow. The supply rows
set and clear LOW and MISSING, which forces decisions to 0. DI_PAIR_FAULT faults a pair whose count reaches T_DISC.
Only the named channel, group or pair changes. -/
def Obligations.InputDecisionsFollowTerminals : Prop :=
  (∀ (n : Nat) (v : Bool) (s : State), n < 64 → Completes (.bypassDecisionChange n v) s (fun t =>
    diOf t n = (if (diOf s n).inWin = true ∨ fieldOn s 0 = false then { diOf s n with term := v }
      else diTake (now s) (diCfg s n).deb v { diOf s n with term := v }) ∧
    (∀ m, m ≠ n → diOf t m = diOf s m) ∧ (s.rfx.proof = false → OnlyIn (logBlocks ++ [.dio, .rfx]) s t))) ∧
  (∀ (n d : Nat) (s : State), n < 64 → (diOf s n).due = some d → (diOf s n).inWin = false →
    Completes (.debounceExpiry n) s (fun t => diOf t n = { diOf s n with deb := (diOf s n).byp, due := none } ∧
      (∀ m, m ≠ n → diOf t m = diOf s m) ∧
      (s.rfx.proof = false → now t = max d (now s) ∧ OnlyIn (logBlocks ++ [.dio, .rfx, .time, .rtc]) s t))) ∧
  (∀ (g mv : Nat) (s : State), g < 4 →
    let x := tabGet ({} : DiGroup) s.dio.groups g
    (mv < 15000 → x.missing = false → Completes (.diSupplyMissing g mv) s (fun t =>
      tabGet {} t.dio.groups g =
        { x with mv := mv, missing := true, low := true, since := if x.low then x.since else now s } ∧
      t.dio.missingCnt = satInc s.dio.missingCnt ∧ (∀ n, n / 16 = g → diDeb t n = false ∧ diInvalid t n = true) ∧
      (s.rfx.proof = false → OnlyIn (logBlocks ++ [.dio, .rfx]) s t))) ∧
    (15000 ≤ mv → mv < 19200 → x.low = false → Completes (.diSupplyLow g mv) s (fun t =>
      tabGet {} t.dio.groups g = { x with mv := mv, low := true, since := now s } ∧ OnlyIn (logBlocks ++ [.dio]) s t)) ∧
    (15500 ≤ mv → x.low = true → Completes (.diSupplyOk g mv) s (fun t =>
      tabGet {} t.dio.groups g = { x with mv := mv, missing := false, low := decide (mv < 19700) } ∧
      (s.rfx.proof = false → OnlyIn (logBlocks ++ [.dio, .rfx]) s t)))) ∧
  (∀ (k t0 : Nat) (s : State), k < 32 → (pairOf s k).since = some t0 → (pairCfg s k).en = true →
    (pairOf s k).fault = false → (pairOf s k).disc = true → Completes (.diPairFault k) s (fun t =>
      pairOf t k = { pairOf s k with fault := true, value := false } ∧ (∀ j, j ≠ k → pairOf t j = pairOf s j) ∧
      now t = max (usCeil (t0 + ((pairCfg s k).tDisc * 1000 - (pairOf s k).acc))) (now s) ∧
      t.dio.pairFaultCnt = satInc s.dio.pairFaultCnt ∧ OnlyIn (logBlocks ++ [.dio, .time, .rtc]) s t))

/-- TEST_PULSE_START of an enabled source begins its pulse at the next instant its PERIOD gives and opens the window of
every channel on it, whose decisions hold. TEST_PULSE_END faults each judged channel that samples 1 and lets a faulted
one go after the third good pulse. TEST_WINDOW_END lets decisions follow the terminals again. DI_TP_SOURCE_FAULT makes
every channel of the source 0. -/
def Obligations.InputTestPulsesJudge : Prop :=
  ∀ (k : Nat) (s : State), k < 8 →
    ((tpCfg s k).en = true → (tpCfg s k).period ≠ 0 → fieldOn s 0 = true → (srcOf s k).start = none →
      Completes (.testPulseStart k) s (fun t => now t = pulseAt (tpCfg s k) k (now s) ∧
        srcOf t k = { srcOf s k with start := some (now t), pulsing := true, bad := false } ∧
        (∀ n, n < 64 → diOn s k n = true → (diOf t n).inWin = true ∧ (diOf t n).winByp = (diOf s n).byp ∧
          (diOf t n).byp = (diOf s n).byp ∧ (diOf t n).deb = (diOf s n).deb ∧ (diOf t n).due = none) ∧
        (∀ n, diOn s k n = false → diOf t n = diOf s n) ∧ OnlyIn (logBlocks ++ [.dio, .time, .rtc]) s t)) ∧
    (∀ (v : BitVec 64) (t0 : Nat), (srcOf s k).start = some t0 → (srcOf s k).pulsing = true →
      Completes (.testPulseEnd k v) s (fun t => (srcOf t k).pulsing = false ∧ (srcOf t k).start = some t0 ∧
        (∀ n, n < 64 → (diOf t n).tpFault =
          if diOn s k n = true ∧ ((diOf s n).winByp = true ∨ (diOf s n).tpFault = true) then
            v.getLsbD n || ((diOf s n).tpFault && decide ((diOf s n).good + 1 < 3))
          else (diOf s n).tpFault) ∧
        (s.rfx.proof = false → now t = max (t0 + 1000 * (tpCfg s k).width) (now s) ∧
          OnlyIn (logBlocks ++ [.dio, .rfx, .time, .rtc]) s t))) ∧
    (∀ t0 : Nat, (srcOf s k).start = some t0 → (srcOf s k).pulsing = false →
      Completes (.testWindowEnd k) s (fun t => (srcOf t k).start = none ∧
        (∀ n, n < 64 → diOn s k n = true → (diOf t n).inWin = false ∧ (diOf t n).byp = (diOf s n).term) ∧
        (∀ n, diOn s k n = false → diOf t n = diOf s n) ∧
        (s.rfx.proof = false → now t = max (t0 + 1000 * (tpCfg s k).width + 100000) (now s) ∧
          OnlyIn (logBlocks ++ [.dio, .rfx, .time, .rtc]) s t))) ∧
    (∀ mv : Nat, (srcOf s k).pulsing = true → 5000 ≤ mv → Completes (.diTpSourceFault k mv) s (fun t =>
      srcOf t k = { srcOf s k with srcFault := true, bad := true, good := 0 } ∧
      (∀ n, diOn s k n = true → diDeb t n = false ∧ diInvalid t n = true) ∧
      (s.rfx.proof = false → OnlyIn (logBlocks ++ [.dio, .rfx]) s t)))

/-- DO_STUCK_ON in a solo module opens the group cut and shows STUCK_ON; DO_STUCK_OFF shows STUCK_OFF; DO_SHORT switches
its channel off; DO_GROUP_OVERLOAD switches its group off; DO_BUOY_OVERLOAD latches an unlatched group with the
highest current; XCUT_OPEN of a channel that is not withdrawn opens its cut and XCUT_MASK_EXPIRY ends a mask at its
instant. -/
def Obligations.OutputFaultsLatchAndCut : Prop :=
  (∀ (n : Nat) (s : State), n < 32 →
    (twinOn s = false → fieldOn s 1 = true → doCmd s n = false → Completes (.doStuckOn n) s (fun t =>
      (dchOf t n).stuckOn = true ∧ cutIsOpen t (n / 8) = true ∧ (∀ m, m ≠ n → dchOf t m = dchOf s m) ∧
      ((dchOf s n).stuckOn = false → t.dio.stuckCnt = satInc s.dio.stuckCnt) ∧ OnlyIn (logBlocks ++ [.dio]) s t)) ∧
    (stuckOffOk s n = true → Completes (.doStuckOff n) s (fun t =>
      (dchOf t n).stuckOff = true ∧ t.dio.drv.getLsbD n = false ∧ (∀ m, m ≠ n → dchOf t m = dchOf s m) ∧
      ((dchOf s n).stuckOff = false → t.dio.stuckCnt = satInc s.dio.stuckCnt) ∧ OnlyIn (logBlocks ++ [.dio]) s t)) ∧
    (∀ temp : Bool, doDrive s n = true → Completes (.doShort n temp) s (fun t =>
      (dchOf t n).short = true ∧ doDrive t n = false ∧ t.dio.drv.getLsbD n = false ∧
      t.dio.shortCnt = satInc s.dio.shortCnt ∧ OnlyIn (logBlocks ++ [.dio]) s t)) ∧
    (∀ us : Nat, withdrawn s n = false → doCmd s n = false → s.twin.cfg.xcutFilter ≤ us →
      Completes (.xcutOpen n us) s (fun t => cutIsOpen t (n / 8) = true ∧
        t.twin = { s.twin with xcutCnt := satInc s.twin.xcutCnt } ∧ OnlyIn (logBlocks ++ [.dio, .twin]) s t)) ∧
    (∀ m t0 : Nat, s.twin.masked.find? (fun m => m.1 == n) = some (m, t0) → Completes (.xcutMaskExpiry n) s (fun t =>
      now t = max t0 (now s) ∧ t.twin = { s.twin with masked := s.twin.masked.filter fun m => m.1 != n } ∧
      OnlyIn [.twin, .time, .rtc] s t))) ∧
  (∀ (g ma : Nat) (s : State), g < 4 → 4000 < ma → Completes (.doGroupOverload g ma) s (fun t =>
    (dgrpOf t g).overload = true ∧ (dgrpOf t g).ma = ma ∧
    (∀ n, n / 8 = g → (dchOf t n).overload = true ∧ doDrive t n = false ∧ t.dio.drv.getLsbD n = false) ∧
    OnlyIn (logBlocks ++ [.dio]) s t)) ∧
  (∀ (ma : Nat) (mas : List Nat) (s : State), 12000 < ma → (∃ g, g < 4 ∧ (dgrpOf s g).overload = false) →
    Completes (.doBuoyOverload ma mas) s (fun t => t.dio.buoyMa = ma ∧ t.dio.buoyOver = true ∧ t.dio.buoyOverTs = now s ∧
      (∃ g, g < 4 ∧ (dgrpOf s g).overload = false ∧
        (∀ h, h < 4 → (dgrpOf s h).overload = false → mas.getD h 0 ≤ mas.getD g 0) ∧ (dgrpOf t g).overload = true ∧
        ∀ n, n / 8 = g → (dchOf t n).overload = true ∧ doDrive t n = false) ∧ OnlyIn (logBlocks ++ [.dio]) s t))

/-- DO_TEST_PULSE_START of a due and allowed test begins a dark pulse on a channel commanded 1 and an energizing one on a
channel commanded 0, which a twin announces 10 µs ahead. DO_TEST_PULSE_END judges it after PULSE_US by DRV or the
current; DO_ON_STATE_OPEN judges the on-state current. CUT_TEST_PERIODIC begins with the first closed cut and
CUT_TEST_ELEMENT_END judges element A, then B, and makes the owners of a cut with no working element safe. -/
def Obligations.OutputTestsJudge : Prop :=
  (∀ (n : Nat) (requested : Bool) (s : State), n < 32 →
    let dark := doCmd s n
    let base := if requested then now s else max (if dark then (dchOf s n).darkNext else (dchOf s n).olNext) (now s)
    (if requested then (dchOf s n).reqDue.isSome else if dark then (doCfg s n).darkEn else (doCfg s n).olEn) = true →
    (dchOf s n).test = none → s.dio.configured = true → buoyServes s 1 = true → testBar s n dark = none →
    Completes (.doTestPulseStart n requested) s (fun t =>
      (dchOf t n).test = some { dark := dark, requested := requested, start := now t } ∧
      now t = base + (if dark = false ∧ twinOn s = true then 10000 else 0) ∧
      (dark = false → twinOn s = true → t.twin = { s.twin with announce := s.twin.announce ++ [(n, base)] }) ∧
      (∀ m, m ≠ n → dchOf t m = dchOf s m) ∧ OnlyIn [.dio, .twin, .time, .rtc] s t)) ∧
  (∀ (n ma : Nat) (drv : Bool) (x : DoTest) (s : State), n < 32 → (dchOf s n).test = some x →
    Completes (.doTestPulseEnd n ma drv) s (fun t => (dchOf t n).test = none ∧ (dchOf t n).ma = ma ∧
      now t = max (x.start + 1000 * (doCfg s n).pulseUs) (now s) ∧ t.dio.testCnt = satInc s.dio.testCnt ∧
      (dchOf t n).stuckOn = ((dchOf s n).stuckOn || (x.dark && drv)) ∧
      (dchOf t n).isOpen = (if x.dark then (dchOf s n).isOpen else decide (ma < 2)) ∧
      (x.dark = true → drv = true → twinOn s = false → cutIsOpen t (n / 8) = true) ∧
      OnlyIn (logBlocks ++ [.dio, .time, .rtc]) s t)) ∧
  (∀ (n ma : Nat) (s : State), n < 32 → doCmd s n = true → doDrive s n = true →
    Completes (.doOnStateOpen n ma) s (fun t => dchOf t n = { dchOf s n with ma := ma, isOpen := decide (ma < 2) } ∧
      (∀ m, m ≠ n → dchOf t m = dchOf s m) ∧ OnlyIn (logBlocks ++ [.dio]) s t)) ∧
  (∀ (g : Nat) (s : State), s.mode.exec = .run → s.dio.cfg.cutPeriod ≠ 0 → s.dio.configured = true →
    s.dio.cutTest = none → fieldOn s 1 = true → g < 4 → (∀ h, h < g → cutIsOpen s h = true) → cutIsOpen s g = false →
    Completes .cutTestPeriodic s (fun t => now t = max s.dio.cutNext (now s) ∧
      t.dio.cutNext = now t + s.dio.cfg.cutPeriod * 3600000000000 ∧
      (∃ c, t.dio.cutTest = some c ∧ c.group = g ∧ c.elemB = false ∧ c.endTs = now t + 100000 ∧ c.forCmd = false) ∧
      OnlyIn [.dio, .time, .rtc] s t)) ∧
  (∀ (ua : Nat) (c : CutTest) (s : State), s.dio.cutTest = some c → c.group < 4 →
    Completes (.cutTestElementEnd ua) s (fun t =>
      (c.elemB = false → (dgrpOf t c.group).aFail = decide (1000 ≤ ua) ∧ (dgrpOf t c.group).bFail = (dgrpOf s c.group).bFail ∧
        now t = max c.endTs (now s) ∧ (∃ d, t.dio.cutTest = some d ∧ d.group = c.group ∧ d.elemB = true ∧
          d.endTs = now t + 1100000) ∧ OnlyIn (logBlocks ++ [.dio, .time, .rtc]) s t) ∧
      (c.elemB = true → (dgrpOf t c.group).bFail = decide (1000 ≤ ua) ∧ (dgrpOf t c.group).aFail = (dgrpOf s c.group).aFail ∧
        t.dio.cutCnt = satInc s.dio.cutCnt ∧
        ((dgrpOf s c.group).aFail = true → 1000 ≤ ua → ∀ sec ∈ groupSectors s c.group, sectorState s sec ≠ .safe →
          HostApart s sec → SectorFell sec s t))))

/-- LOOP_WINDOW_END closes the windows at the next millisecond, keeps the last five readings of each input, sets its
value, and shows a NAMUR fault once it has lasted its filter. LOOP_SUPPLY_LIMIT shows the current limit. AO_COMPLIANCE
shows an output whose headroom is too low, with fail-on-compliance also latched at its safe current;
AO_COMPLIANCE_CLEARED ends it. -/
def Obligations.LoopWindowsMeasure : Prop :=
  (∀ (m : LoopSample) (s : State), Completes (.loopWindowEnd m) s (fun t => now t = windowAt s ∧ t.loop.winTs = now t ∧
    (∀ n, n < 16 →
      let wins := (min (m.cur.getD n 0) 25000000 :: (liOf s n).wins).take 5
      let v := liValue (liCfg s n) wins
      (liOf t n).wins = wins ∧ (liOf t n).val = v ∧
      ((liCfg s n).namurEn = false → (liOf t n).faultLow = false ∧ (liOf t n).faultHigh = false) ∧
      ((liCfg s n).namurEn = true → v < 3600000 → max 1 (liCfg s n).namurFilter ≤ (liOf s n).lowN + 1 →
        (liOf t n).faultLow = true ∧ liInvalid t n = true) ∧
      ((liCfg s n).namurEn = true → 21000000 < v → max 1 (liCfg s n).namurFilter ≤ (liOf s n).highN + 1 →
        (liOf t n).faultHigh = true ∧ liInvalid t n = true)) ∧ OnlyIn (logBlocks ++ [.loop, .time, .rtc]) s t)) ∧
  (∀ (n us : Nat) (s : State), n < 16 → (liCfg s n).supplyEn = true → (liOf s n).supLimit = false →
    Completes (.loopSupplyLimit n us) s (fun t => liOf t n = { liOf s n with supLimit := true, usMv := us } ∧
      (∀ m, m ≠ n → liOf t m = liOf s m) ∧ OnlyIn (logBlocks ++ [.loop]) s t)) ∧
  (∀ (n hr : Nat) (s : State), n < 8 →
    (hr < 1500 → 100000 ≤ (loOf s n).delivered → (loOf s n).comp = false → Completes (.aoCompliance n hr) s (fun t =>
      (loOf t n).comp = true ∧ (loOf t n).compTs = now s ∧ (loOf t n).hrMv = hr ∧
      t.loop.compCnt = satInc s.loop.compCnt ∧
      (loOf t n).latchedSafe = ((loOf s n).latchedSafe || (loCfg s n).failOnComp) ∧ OnlyIn (logBlocks ++ [.loop]) s t)) ∧
    (2000 ≤ hr → (loOf s n).comp = true → Completes (.aoComplianceCleared n hr) s (fun t =>
      loOf t n = { loOf s n with comp := false, hrMv := hr } ∧ (∀ m, m ≠ n → loOf t m = loOf s m) ∧
      OnlyIn (logBlocks ++ [.loop]) s t)))

/-- HART_IDENTIFY_POLL and HART_CYCLIC_POLL of an idle master whose state asks for them send the pending pass-through,
else command 0 or 3, at their instant. HART_RESPONSE to command 0 begins the cyclic state with the identifier, to
command 3 takes the variables, to a pass-through ends it; a module that only listens takes the variables of what it
hears. HART_RESPONSE_TIMEOUT retries up to twice, then the transaction fails, the third time in the cyclic state as no
response. -/
def Obligations.HartMastersPoll : Prop :=
  ∀ (n : Nat) (s : State), n < 16 →
    let h := hartOf s n
    let v (m : HartMsg) (t : State) : Prop := (hartOf t n).pv = (m.vars.getD 0 (0x7FC00000, 250)).1 ∧
      (hartOf t n).sv = (m.vars.getD 1 (0x7FC00000, 250)).1 ∧ (hartOf t n).tv = (m.vars.getD 2 (0x7FC00000, 250)).1 ∧
      (hartOf t n).qv = (m.vars.getD 3 (0x7FC00000, 250)).1 ∧ (hartOf t n).cnt = (h.cnt + 1) % 256 ∧
      (hartOf t n).lastTs = some (now s) ∧ (hartOf t n).fds = m.fds % 256
    let sent (cmd : Nat) (tx : HartTx) (t : State) : Prop :=
      (hartOf t n).tx = (if h.pass.isSome then .pass else tx) ∧ (hartOf t n).retries = 0 ∧
      t.out = s.out ++ [{ kind := .hart, dest := n, args := [(h.pass.map (·.cmd)).getD cmd]
                          data := (h.pass.map (·.data)).getD [] }] ∧
      t.loop.hartTx = satInc s.loop.hartTx ∧ now t = max h.nextTs (now s) ∧
      (∀ m, m ≠ n → hartOf t m = hartOf s m) ∧ OnlyIn [.loop, .out, .time, .rtc] s t
    (hartRuns s n = true → h.tx = .none → (h.st = .identify ∨ h.st = .noResponse) →
      Completes (.hartIdentifyPoll n) s (sent 0 .cmd0)) ∧
    (hartRuns s n = true → h.tx = .none → h.st = .cyclic → Completes (.hartCyclicPoll n) s (sent 3 .cmd3)) ∧
    (∀ m : HartMsg, (liCfg s n).hartEn = true → buoyServes s 2 = true → m.burst = false → m.bad = false →
      Completes (.hartResponse n m) s (fun t =>
        (hartMaster s = false → v m t) ∧
        (hartMaster s = true → h.tx = .cmd0 → (hartOf t n).tx = .none ∧ (hartOf t n).st = .cyclic ∧
          (hartOf t n).id = some m.uid ∧ (hartOf t n).fails = 0) ∧
        (hartMaster s = true → h.tx = .cmd3 → v m t ∧ (hartOf t n).tx = .none ∧ (hartOf t n).fails = 0) ∧
        (hartMaster s = true → h.tx = .pass → h.pass ≠ none → (hartOf t n).pass = none ∧ (hartOf t n).tx = .none) ∧
        (∀ j, j ≠ n → hartOf t j = hartOf s j) ∧ OnlyIn (logBlocks ++ [.loop, .kp]) s t)) ∧
    (h.tx ≠ .none → Completes (.hartResponseTimeout n) s (fun t =>
      t.loop.hartErr = satInc s.loop.hartErr ∧
      (h.retries < 2 → hartOf t n = { h with retries := h.retries + 1 } ∧ t.loop.hartTx = satInc s.loop.hartTx) ∧
      (2 ≤ h.retries → h.tx ≠ .pass → (hartOf t n).tx = .none ∧ (hartOf t n).fails = min 3 (h.fails + 1) ∧
        (hartOf t n).st = if 2 ≤ h.fails ∧ h.st = .cyclic then .noResponse else h.st) ∧
      (2 ≤ h.retries → h.tx = .pass → h.pass ≠ none → (hartOf t n).tx = .none ∧ (hartOf t n).pass = none) ∧
      (∀ j, j ≠ n → hartOf t j = hartOf s j) ∧ OnlyIn (logBlocks ++ [.loop, .kp, .out]) s t))

/-- BUOY_INSERTED begins authentication; BUOY_AUTH_DONE goes on to its settings, or counts the failure, of which the third
ends the attempts; BUOY_AUTH_RETRY tries again; BUOY_CFG_ECHO enables the field side, pushes again or fails;
BUOY_REMOVED empties the socket and outside EXCHANGE makes the sectors it drives safe; FIELD_CONNECTOR_MATE_CHANGE and
BUOY_EXCHANGE_END complete an exchange. -/
def Obligations.BuoysEnterAndLeaveService : Prop :=
  ∀ (b : Nat) (s : State), b < 3 →
    let k := sockOf s b
    let alone (t : State) : Prop := ∀ c, c ≠ b → sockOf t c = sockOf s c
    (k.st = .empty → Completes (.buoyInserted b) s (fun t =>
      (sockOf t b).st = .authenticating ∧ (sockOf t b).attempts = 0 ∧ alone t ∧ OnlyIn (logBlocks ++ [.buoy]) s t)) ∧
    (∀ (step typ rev serial : Nat) (cnt : List Nat), k.st = .authenticating →
      let e := if (step = 0 ∨ step = 3) ∧ typ ≠ b + 1 then 2 else step
      Completes (.buoyAuthDone b step typ rev serial cnt) s (fun t => alone t ∧
        (e = 0 → (sockOf t b).st = .configuring ∧ (sockOf t b).typ = typ ∧ (sockOf t b).serial = serial ∧
          (sockOf t b).authCnt = satInc k.authCnt ∧ (sockOf t b).saved = lifeVals (sockOf t b) ∧
          t.out.getLast? = some { kind := .buoy, dest := b } ∧ OnlyIn (logBlocks ++ [.buoy, .out]) s t) ∧
        (e ≠ 0 → (sockOf t b).st = .authFailed ∧ (sockOf t b).authStep = e ∧
          (sockOf t b).attempts = k.attempts + (if e = 5 then 0 else 1) ∧ (sockOf t b).authFailCnt = satInc k.authFailCnt ∧
          (sockOf t b).retryAt = (if 3 ≤ (sockOf t b).attempts then none else some (now s + 10000000000)) ∧
          OnlyIn (logBlocks ++ [.buoy]) s t))) ∧
    (∀ x, k.st = .authFailed → k.retryAt = some x → Completes (.buoyAuthRetry b) s (fun t =>
      sockOf t b = { k with st := .authenticating, retryAt := none } ∧ now t = max x (now s) ∧ alone t ∧
      OnlyIn [.buoy, .time, .rtc] s t)) ∧
    (∀ want echo : Word, k.st = .configuring → Completes (.buoyCfgEcho b want echo) s (fun t =>
      (sockOf t b).cfgCrc = echo ∧ alone t ∧
      (echo = want → (sockOf t b).st = .inService ∧ fieldOn t b = true) ∧
      (echo ≠ want → k.cfgTries < 2 → (sockOf t b).st = .configuring ∧ (sockOf t b).cfgTries = k.cfgTries + 1 ∧
        t.out = s.out ++ [{ kind := .buoy, dest := b }] ∧ OnlyIn [.buoy, .out] s t) ∧
      (echo ≠ want → 2 ≤ k.cfgTries → (sockOf t b).st = .cfgFailed ∧ OnlyIn (logBlocks ++ [.buoy]) s t))) ∧
    (k.st ≠ .empty → Completes (.buoyRemoved b) s (fun t =>
      (sockOf t b).st = .empty ∧ (sockOf t b).serial = 0 ∧ (sockOf t b).exch = k.exch ∧
      (k.exch = false → assistHost s = false → (∀ sec ∈ buoySectors s b, HostApart s sec) →
        ∀ sec ∈ buoySectors s b, sectorState s sec ≠ .safe → SectorFell sec s t))) ∧
    (k.exch = true → k.st = .inService → k.mated = true → Completes (.buoyExchangeEnd b) s (fun t =>
      sockOf t b = { k with exch := false, exchEnd := some (max (k.matedTs + 100000000) (now s)), oldSerial := 0 } ∧
      alone t ∧ buoyServes t b = true ∧ (s.rfx.proof = false → now t = max (k.matedTs + 100000000) (now s) ∧
        OnlyIn (logBlocks ++ [.buoy, .dio, .rfx, .loop, .time, .rtc]) s t))) ∧
    (∀ m : Bool, k.mated ≠ m → Completes (.fieldConnectorMateChange b m) s (fun t =>
      sockOf t b = { k with mated := m, matedTs := now s } ∧ alone t ∧ OnlyIn [.buoy] s t))

/-- BUOY_SURGE and BUOY_THOURS_UPDATE add to the counters of an authenticated buoy, set MAINTENANCE_DUE at 80% and
END_OF_LIFE at 100% of a rating; a surge of 1 J or more and BUOY_COUNTER_COMMIT commit them; BUOY_MIRROR_UPDATE copies
them to the mirror of the buoy's serial number, or to the one with the oldest presence. The feed and supply rows show
the feeds and take the outputs of a missing supply away. -/
def Obligations.BuoysCountTheirLife : Prop :=
  (∀ (b : Nat) (s : State), b < 3 →
    let k := sockOf s b
    let due (t : State) : Prop := (∀ c, c ≠ b → sockOf t c = sockOf s c) ∧
      (800 ≤ (life t b).1 → (sockOf t b).maint = true) ∧ (1000 ≤ (life t b).1 → (sockOf t b).eol = true) ∧
      OnlyIn (logBlocks ++ [.buoy]) s t
    (∀ (uj : Nat) (ch : Option Nat), buoyAuth s b = true → 100 < uj → Completes (.buoySurge b uj ch) s (fun t =>
      (sockOf t b).surge = k.surge + uj ∧
      (1000000 ≤ uj → (sockOf t b).surgeCnt = satInc k.surgeCnt ∧ (sockOf t b).saved = lifeVals (sockOf t b)) ∧ due t)) ∧
    (∀ d : Int, buoyAuth s b = true → Completes (.buoyThoursUpdate b d) s (fun t =>
      (sockOf t b).thoursN = k.thoursN + hourWeight d ∧ (sockOf t b).temp = d ∧ due t)) ∧
    (buoyAuth s b = true → Completes (.buoyCounterCommit b) s (fun t =>
      sockOf t b = { k with saved := lifeVals k } ∧ OnlyIn [.buoy] s t)) ∧
    (buoyAuth s b = true → (∀ c, c < 3 → c ≠ b → buoyAuth s c = false) → Completes .buoyMirrorUpdate s (fun t =>
      let m := (mirrorOf s k.serial).getD (mirrorOldest s)
      (∀ j, j < 6 → mirrorGet t m j = (k.serial :: lifeVals k ++ [now s]).getD j 0) ∧
      (∀ i j, i ≠ m → j < 8 → mirrorGet t i j = mirrorGet s i j) ∧ OnlyIn [.nvm] s t)) ∧
    (∀ (fb : Bool) (mv : Nat), mv < 15000 → (if fb then k.feedBOk else k.feedAOk) = true →
      Completes (.buoyFeedLost b fb mv) s (fun t => sockOf t b =
        (if fb then { k with feedB := mv, feedBOk := false } else { k with feedA := mv, feedAOk := false }) ∧
        OnlyIn (logBlocks ++ [.buoy]) s t)) ∧
    (∀ (fb : Bool) (mv : Nat), 15000 ≤ mv → Completes (.buoyFeedReturned b fb mv) s (fun t => sockOf t b =
      (if fb then { k with feedB := mv, feedBOk := true } else { k with feedA := mv, feedAOk := true }) ∧
      OnlyIn [.buoy] s t))) ∧
  (∀ (mv : Nat) (s : State),
    (mv < 15000 →
      Completes (.buoySupplyMissing 1 mv) s (fun t => t.dio.supMissing = true ∧ t.dio.supLow = true ∧
        (∀ n, doDrive t n = false) ∧ t.dio.drv = 0 ∧ OnlyIn (logBlocks ++ [.dio]) s t) ∧
      Completes (.buoySupplyMissing 2 mv) s (fun t => t.loop.supMissing = true ∧
        (∀ n, n < 8 → (loOf t n).delivered = 0) ∧ OnlyIn [.loop] s t)) ∧
    (19700 ≤ mv →
      Completes (.buoySupplyOk 1 mv) s (fun t => t.dio.supMissing = false ∧ t.dio.supLow = false ∧
        OnlyIn (logBlocks ++ [.dio]) s t) ∧
      Completes (.buoySupplyOk 2 mv) s (fun t => t.loop.supMissing = false ∧ OnlyIn [.loop] s t)))

/-- CAN_TX_COMPLETE sends the frame and lets the waiting one into the buffer; CAN_ARB_LOST keeps a frame for retry;
CAN_FRAME_RECEIVED goes to the winning filter's slot or to the FIFO, or is counted as without match; CAN_BUS_ERROR
takes the counters that ISO 11898-1 leaves and enters bus-off beyond 255, with every buffer emptied; CAN_BUS_OFF_DELAY
and CAN_BUS_ON recover; CAN_RX_STALE marks an old slot. No other port changes. -/
def Obligations.CanPortsExchangeFrames : Prop :=
  ∀ (n : Nat) (s : State), n < 4 →
    let p := portOf s n
    let alone (t : State) : Prop := ∀ m, m ≠ n → portOf t m = portOf s m
    (∀ (x : CanFrame) (remote : Bool), p.configured = true → p.st ≠ .busOff →
      Completes (.canFrameReceived n x remote) s (fun t => alone t ∧ OnlyIn (logBlocks ++ [.can]) s t ∧
        (remote = true → (portOf t n).remoteCnt = satInc p.remoteCnt ∧ (portOf t n).rxCnt = p.rxCnt) ∧
        (remote = false → (portOf t n).rxCnt = satInc p.rxCnt ∧
          (fltWinner s n x = none → (portOf t n).noMatch = satInc p.noMatch ∧ (portOf t n).fifo = p.fifo) ∧
          ∀ i, fltWinner s n x = some i →
            let r : CanRx := { frame := x, flt := i, count := satInc (tabGet 0 p.hits i) % 65536, ts := now s }
            ((fltOf s n i).action = 1 → (tabGet {} (portOf t n).slots i).cur = some r ∧
              (tabGet {} (portOf t n).slots i).stale = false) ∧
            ((fltOf s n i).action = 2 → p.fifo.length < 32 → (portOf t n).fifo = p.fifo ++ [r]) ∧
            ((fltOf s n i).action = 2 → 32 ≤ p.fifo.length → (portOf t n).fifo = p.fifo ∧
              (portOf t n).ovfCnt = satInc p.ovfCnt)))) ∧
    (∀ (b : Nat) (tdcv : Option Nat) (f : CanFrame), (txOf s n b).frame = some f → canMayBe s n b = true →
      p.configured = true → p.st ≠ .busOff → Completes (.canTxComplete n b tdcv) s (fun t => alone t ∧
        t.out = s.out ++ [{ kind := .can, dest := n, data := f.data
                            args := [f.id, b2n f.ide, b2n f.fdf, b2n f.brs, b2n (p.st == .passive)] }] ∧
        (portOf t n).txCnt = satInc p.txCnt ∧ (txOf t n b).frame = (txOf s n b).waiting ∧ (txOf t n b).waiting = none ∧
        (∀ c, c ≠ b → (txOf t n c).frame = (txOf s n c).frame) ∧ OnlyIn (logBlocks ++ [.can, .out]) s t)) ∧
    (∀ b : Nat, (txOf s n b).frame ≠ none → canMayBe s n b = true → p.st ≠ .busOff →
      Completes (.canArbLost n b) s (fun t => alone t ∧ (portOf t n).arbCnt = satInc p.arbCnt ∧
        ((txOf s n b).waiting = none → (txOf s n b).noRetry = false →
          txOf t n b = { txOf s n b with st := .retry, retries := (txOf s n b).retries + 1 }) ∧
        (∀ g, (txOf s n b).waiting = some g → (txOf t n b).frame = some g ∧ (portOf t n).lostCnt = satInc p.lostCnt) ∧
        OnlyIn (logBlocks ++ [.can]) s t)) ∧
    (∀ (lec : Nat) (inData : Bool) (tec rc : Nat) (tx : Option Nat), p.configured = true → p.st ≠ .busOff →
      Completes (.canBusError n lec inData tec rc tx) s (fun t => alone t ∧ (portOf t n).lec = lec ∧
        (portOf t n).errCnt = satInc p.errCnt ∧ (portOf t n).tec = tec ∧ (portOf t n).rec_ = rc ∧
        (portOf t n).st = (if 255 < tec then .busOff else if 127 < tec ∨ 127 < rc then .passive else .active) ∧
        (255 < tec → (portOf t n).busOffCnt = satInc p.busOffCnt ∧
          ∀ b, b < 64 → (txOf t n b).frame = none ∧ (txOf t n b).waiting = none) ∧ OnlyIn (logBlocks ++ [.can]) s t)) ∧
    (p.st = .busOff → p.cfg.boAuto = true → p.recovering = false → Completes (.canBusOffDelay n) s (fun t => alone t ∧
      portOf t n = { p with recovering := true, byCommand := false } ∧
      now t = max (p.stTs + p.cfg.boDelay * 1000000) (now s) ∧ OnlyIn [.can, .time, .rtc] s t)) ∧
    (p.st = .busOff → p.recovering = true → Completes (.canBusOn n) s (fun t => alone t ∧
      portOf t n = { p with st := .active, stTs := now s, tec := 0, rec_ := 0, recovering := false, busOffWait := false } ∧
      OnlyIn (logBlocks ++ [.can]) s t)) ∧
    (∀ (i : Nat) (r : CanRx), (tabGet ({} : CanSlot) p.slots i).cur = some r →
      (tabGet ({} : CanSlot) p.slots i).stale = false → (fltOf s n i).timeout ≠ 0 →
      Completes (.canRxStale n i) s (fun t => alone t ∧ now t = max (r.ts + (fltOf s n i).timeout * 1000000 + 1) (now s) ∧
        tabGet {} (portOf t n).slots i = { tabGet ({} : CanSlot) p.slots i with stale := true, staleTs := now t } ∧
        OnlyIn (logBlocks ++ [.can, .time, .rtc]) s t))

/-- NET_LINK_UP and NET_LINK_DOWN show the link. ETHERNET_FRAME_RECEIVED counts the frame, drops one with a bad FCS or of
no IP kind, the second copy of a PRP pair, and what the firewall does not pass; a TCP connection to port 7410 that
passes begins a handshake. PRP_SUPERVISION_SEND and DIAG_FRAME_SEND send at their instants; BEAM_TX_LATE drops a
queued frame 1 ms after its strobe. -/
def Obligations.EthernetPortsFilterFrames : Prop :=
  (∀ (p : Nat) (s : State), p < 3 →
    ((netPort s p).link = false → Completes (.netLinkUp p) s (fun t =>
      (netPort t p).link = true ∧ (netPort t p).linkTs = now s ∧ (p < 2 → t.beam.queued = []) ∧
      (p = 2 → OnlyIn (logBlocks ++ [.net]) s t))) ∧
    ((netPort s p).link = true → Completes (.netLinkDown p) s (fun t =>
      netPort t p = { netPort s p with link := false, linkLoss := satInc (netPort s p).linkLoss } ∧
      (∀ q, q ≠ p → netPort t q = netPort s q) ∧ OnlyIn (logBlocks ++ [.net]) s t)) ∧
    (∀ f : EthFrame, (netPort s p).link = true → ethHeld s = false → Completes (.ethernetFrameReceived p f) s (fun t =>
      (f.fcsOk = false → netPort t p = { netPort s p with fcsErr := satInc (netPort s p).fcsErr } ∧ OnlyIn [.net] s t) ∧
      (f.fcsOk = true → (netPort t p).rxCnt = satInc (netPort s p).rxCnt) ∧
      (f.fcsOk = true → f.kind = .other → (netPort t p).nonIp = satInc (netPort s p).nonIp ∧ OnlyIn [.net] s t) ∧
      (∀ seq lan, f.fcsOk = true → f.kind ≠ .other → p < 2 → f.rct = some (seq, lan) → isPtp f = false →
        (∃ e ∈ s.net.prp, e.src = f.src ∧ e.seq = seq ∧ now s < e.ts + 400000000) →
        t.net.prpDup = satInc s.net.prpDup ∧ OnlyIn [.net] s t) ∧
      (f.fcsOk = true → f.kind = .ipv4 → p = 2 →
        (fwWinner s.net.fw p f = none → t.net.fwNoMatch = satInc s.net.fwNoMatch ∧ OnlyIn [.net] s t) ∧
        ∀ i r, fwWinner s.net.fw p f = some (i, r) →
          tabGet 0 t.net.fwHit i = satInc (tabGet 0 s.net.fwHit i) ∧
          (r.action % 2 ≠ 1 → OnlyIn (logBlocks ++ [.net]) s t) ∧
          ∀ id, r.action % 2 = 1 → f.proto = 6 → f.dport = 7410 → f.open_ = some id →
            s.kp.handshakes.any (fun h => h.id == id) = false → sessionOf s id = none → s.kp.ready = true →
            isBarred s f.sip.toNat = false → s.sec.trng = .running →
            t.kp.handshakes = s.kp.handshakes ++ [{ id := id, peer := f.sip.toNat, port := p, ts := now s }])))) ∧
  (∀ s : State, ecnUp s = true → ethHeld s = false → Completes .prpSupervisionSend s (fun t =>
    now t = max (s.net.prpSupTs + 2000000000) (now s) ∧ t.net.prpSupTs = now t ∧
    t.out = s.out ++ [{ kind := .prp, dest := 0 }] ∧ OnlyIn [.net, .out, .time, .rtc] s t)) ∧
  (∀ (q : QFrame) (qs : List QFrame) (s : State), s.beam.queued = q :: qs → Completes .beamTxLate s (fun t =>
    now t = max (q.ts + 1000000) (now s) ∧
    t.beam = { s.beam with queued := qs, txLate := satInc s.beam.txLate } ∧ OnlyIn [.beam, .time, .rtc] s t)) ∧
  (∀ (c : NetSettings) (s : State), s.net.cur = some c → c.diagNode ≠ 0 → s.id.node ≠ 0 → s.sec.nodeEpochOut = false →
    ethHeld s = false → Completes .diagFrameSend s (fun t =>
      t.beam.diagTs = now t ∧ t.beam.diagSeq = (s.beam.diagSeq + 1) % 2 ^ 32 ∧ t.rcd.suppDiag = 0 ∧
      now t = (if modStatus s = s.beam.diagStatus then max (s.beam.diagTs + 1000000000) (now s) else now s) ∧
      (ecnUp s = true → ∃ a d, t.out =
        s.out ++ [{ kind := .diag, dest := 256, args := s.beam.diagSeq :: now t :: a, data := d }]) ∧
      (ecnUp s = false → t.beam.queued.length = s.beam.queued.length + 1 ∧ t.out = s.out) ∧
      OnlyIn (logBlocks ++ [.beam, .net, .out, .time, .rtc]) s t))

/-- BEAM_RECEIVE of a frame for this module delivers it to its receive connection when its key is at hand, its tag and
SCRC verify, its length, age and order are right; a frame that fails is counted and the area keeps its content.
BEAM_RX_TIMEOUT makes a connection STALE. PARTNER_HEARTBEAT_SEND sends the module's report, and
PARTNER_HEARTBEAT_RECEIVED takes the partner's; of two principals the one whose role epoch is younger yields. -/
def Obligations.BeamFramesAreJudged : Prop :=
  (∀ (p c : Nat) (cfg : BeamRxCfg) (f : BeamFrame) (s : State), beamForUs s f = true → ethHeld s = false →
    brxFind s f = some (c, cfg) → f.version = 1 →
    let x := brxOf s c
    let right := f.len = cfg.len ∧ f.data.length = f.len ∧ f.typ = 1
    let timely := f.ts ≤ now s + 1000000 ∧ now s ≤ f.ts + cfg.ageLimit * 1000
    let kept (t : State) : Prop := (brxOf t c).area = x.area ∧ (brxOf t c).stale = x.stale ∧
      (∀ d, d ≠ c → brxOf t d = brxOf s d) ∧ OnlyIn (logBlocks ++ [.beam]) s t
    (∀ u, beamKey c f.epoch s = .ok u → f.tagOk = true → f.same = true → f.scrc = scrcOf cfg.safety (beamBody f) →
      right → timely → (x.synced = false ∨ x.ts < f.ts) → Completes (.beamReceive p f) s (fun t =>
        (brxOf t c).area = { seq := f.seq, ts := f.ts, safe := f.flags.testBit 0, forced := f.flags.testBit 1
                             holdover := f.flags.testBit 3, data := f.data } ∧
        (brxOf t c).never = false ∧ (brxOf t c).stale = (s.beam.checkFault && brxVital s cfg) ∧
        (brxOf t c).lastTs = now s ∧ (brxOf t c).synced = true ∧ (brxOf t c).seq = f.seq ∧ (brxOf t c).ts = f.ts ∧
        (brxOf t c).epoch = f.epoch ∧ t.beam.rxCnt = satInc s.beam.rxCnt ∧ (∀ d, d ≠ c → brxOf t d = brxOf s d) ∧
        OnlyIn (logBlocks ++ [.beam]) s t)) ∧
    (∀ e, beamKey c f.epoch s = .error e → Completes (.beamReceive p f) s (fun t =>
      kept t ∧ t.beam.auth = satInc s.beam.auth)) ∧
    (∀ u, beamKey c f.epoch s = .ok u → f.tagOk = false → Completes (.beamReceive p f) s (fun t =>
      kept t ∧ t.beam.auth = satInc s.beam.auth)) ∧
    (∀ u, beamKey c f.epoch s = .ok u → f.tagOk = true → f.same = true → f.scrc ≠ scrcOf cfg.safety (beamBody f) →
      Completes (.beamReceive p f) s (fun t => kept t ∧ t.beam.crc = satInc s.beam.crc)) ∧
    (∀ u, beamKey c f.epoch s = .ok u → f.tagOk = true → f.same = true → f.scrc = scrcOf cfg.safety (beamBody f) →
      ¬right → Completes (.beamReceive p f) s (fun t => kept t ∧ t.beam.format = satInc s.beam.format)) ∧
    (∀ u, beamKey c f.epoch s = .ok u → f.tagOk = true → f.same = true → f.scrc = scrcOf cfg.safety (beamBody f) →
      right → ¬timely → Completes (.beamReceive p f) s (fun t => kept t ∧ t.beam.time = satInc s.beam.time))) ∧
  (∀ (c : Nat) (s : State), (brxCfg s c).en = true → (brxOf s c).stale = false → Completes (.beamRxTimeout c) s (fun t =>
    now t = max ((brxOf s c).lastTs + (brxCfg s c).timeout * 1000) (now s) ∧
    brxOf t c = { brxOf s c with stale := true, staleTs := now t } ∧ (∀ d, d ≠ c → brxOf t d = brxOf s d) ∧
    OnlyIn (logBlocks ++ [.beam, .time, .rtc]) s t)) ∧
  (∀ s : State, twinOn s = true → s.id.node ≠ 0 → s.sec.nodeEpochOut = false → ecnUp s = true → ethHeld s = false →
    Completes .partnerHeartbeatSend s (fun t => now t = max (s.twin.hbSent + 250000) (now s) ∧
      t.twin = { s.twin with hbSent := now t, hbSeq := (s.twin.hbSeq + 1) % 2 ^ 32 } ∧
      (∃ a, t.out = s.out ++ [{ kind := .heartbeat, dest := 0xFF00, args := a }] ∧
        a.take 6 = [s.twin.hbSeq, now t, roleCode s.mode.role, execCode s.mode.exec, powerCode s.mode.power, s.twin.epoch]) ∧
      OnlyIn (logBlocks ++ [.beam, .net, .out, .twin, .time, .rtc]) s t)) ∧
  (∀ (h : Heartbeat) (s : State), twinOn s = true → s.id.node ≠ 0 → ethHeld s = false →
    Completes (.partnerHeartbeatReceived h) s (fun t =>
      t.twin.partnerRole = roleOf h.role ∧ t.twin.partnerExec = execOf h.exec ∧ t.twin.partnerPower = powerOf h.power ∧
      t.twin.partnerEpoch = h.epoch ∧ t.twin.hbTs = some (now s) ∧ t.twin.visible = true ∧ t.twin.carry = h.carry ∧
      (s.mode.role = .principal → h.role = 1 → s.twin.double = false → h.epochTs < s.twin.epochTs →
        t.twin.double = true ∧ t.twin.pend.map (·.role) = some .isolated) ∧
      OnlyIn (logBlocks ++ [.twin, .dio, .loop]) s t))

/-- KAP_SESSION_OPEN of a completed handshake opens the session and binds the first free mailbox; a failed handshake
closes the connection, and the tenth failure within 60 s bars the address. HANDSHAKE_TIMEOUT fails it after 5 s.
KAP_KEY_UPDATE renews the keys. KAP_SESSION_CLOSE ends the session at its instant and retains its mailbox for 60 s;
MAILBOX_RETENTION_EXPIRY clears it. KAP_LOCKOUT_END forgets the failures. -/
def Obligations.KapSessionsOpenAndClose : Prop :=
  (∀ (id : Nat) (h : Handshake) (s : State), s.kp.handshakes.find? (fun h => h.id == id) = some h →
    let gone (t : State) : Prop := t.kp.handshakes = s.kp.handshakes.filter fun h => h.id != id
    (∀ (ident : Nat) (role : Role) (m : Nat), (role = .vendorService → s.sec.owned = false) → s.kp.sessions.length < 8 →
      (List.range 8).find? (mbxFree s) = some m → Completes (.kapSessionOpen id (.ok ident role)) s (fun t => gone t ∧
        (∃ x, sessionOf t id = some x ∧ x.identity = ident ∧ x.role = role ∧ x.port = h.port ∧ x.peer = h.peer ∧
          x.mailbox = some m ∧ x.openedTs = now s ∧ x.lastTs = now s ∧ x.keyTs = now s ∧ x.claim = !s.sec.owned ∧
          x.records = 0) ∧
        mbxOf t m = { session := some id, identity := ident, role := role, port := h.port } ∧
        (∀ j, j ≠ m → mbxOf t j = mbxOf s j) ∧ OnlyIn (logBlocks ++ [.kp]) s t)) ∧
    (∀ reason cert : Nat, Completes (.kapSessionOpen id (.fail reason cert)) s (fun t => gone t ∧
      t.out = s.out ++ [{ kind := .kapClose, dest := id }] ∧
      (9 ≤ ((barOf s h.peer).fails.filter fun x => decide (now s < x + 60000000000)).length →
        isBarred t h.peer = true) ∧ OnlyIn (logBlocks ++ [.kp, .sec, .out]) s t)) ∧
    Completes (.handshakeTimeout id) s (fun t => gone t ∧ now t = max (h.ts + 5000000000) (now s) ∧
      t.out = s.out ++ [{ kind := .kapClose, dest := id }] ∧
      OnlyIn (logBlocks ++ [.kp, .sec, .out, .time, .rtc]) s t)) ∧
  (∀ (id : Nat) (x : Session) (s : State), sessionOf s id = some x →
    Completes (.kapKeyUpdate id) s (fun t => sessionOf t id = some { x with keyTs := now t, keyRecs := 0 } ∧
      now t = (if x.keyRecs < 2 ^ 24 then max (x.keyTs + 3600000000000) (now s) else now s) ∧
      OnlyIn [.kp, .time, .rtc] s t) ∧
    ∀ cause : Nat, cause = 1 ∨ cause = 2 ∨ cause = 3 → Completes (.kapSessionClose id cause) s (fun t =>
      t.out = s.out ++ [{ kind := .kapClose, dest := id }] ∧ (cause = 3 → now t = now s) ∧
      (cause = 1 → now t = max (x.lastTs + 900000000000) (now s)) ∧
      (cause = 2 → x.records < 2 ^ 32 → now t = max (x.openedTs + 28800000000000) (now s)) ∧
      (∀ m, x.mailbox = some m → m < 26 → (mbxOf t m).session = none ∧
        (mbxOf t m).retainUntil = some (now t + 60000000000)) ∧
      OnlyIn (logBlocks ++ [.kp, .out, .time, .rtc, .clk]) s t)) ∧
  (∀ (m t0 : Nat) (s : State), m < 26 → (mbxOf s m).retainUntil = some t0 →
    Completes (.mailboxRetentionExpiry m) s (fun t => now t = max t0 (now s) ∧ (mbxOf t m).retainUntil = none ∧
      ((∀ x ∈ s.kp.sessions, ∀ y, x.2 = some y → y.mailbox ≠ none) → mbxOf t m = {}) ∧
      (∀ tr, s.kp.transfer = some tr → tr.owner = m → t.kp.transfer = none))) ∧
  (∀ (peer t0 : Nat) (s : State), (barOf s peer).barred = some t0 → Completes (.kapLockoutEnd peer) s (fun t =>
    now t = max t0 (now s) ∧ isBarred t peer = false ∧ (barOf t peer).fails = [] ∧
    (∀ p, p ≠ peer → barOf t p = barOf s p) ∧ OnlyIn [.sec, .time, .rtc] s t))

/-- A session that holds mailbox m gets, last on the wire, the response to its record: MBX_WRITE enters the message,
MBX_READ returns a held one, MBX_ACK lets it go, ACK_READ shows the acknowledge, REG_READ the registers it may see,
RESUME takes a retained mailbox of its identity, and an undefined record is answered with 0x0303. A session without a
mailbox is answered 0x0202. -/
def Obligations.KapRecordsAnswer : Prop :=
  ∀ (id no : Nat) (x : Session) (s : State), sessionOf s id = some x →
    let said (typ rc : Nat) (ws : List Word) (t : State) : Prop := t.out.getLast? =
      some { kind := .kap, dest := id, args := [typ + 0x80, no, rc, s.kp.epoch % 65536], data := ws.flatMap beWord }
    (∀ m, x.mailbox = some m → m < 8 →
      (∀ ws : List Word, 0 < ws.length → ws.length ≤ 16 → Completes (.mbxWrite id no ws) s (fun t => said 1 0 [] t ∧
        (mbxOf t m).tk = dirWrite ws (mbxOf s m).tk ∧ (∀ j, j ≠ m → mbxOf t j = mbxOf s j) ∧
        OnlyIn (logBlocks ++ [.kp, .out]) s t)) ∧
      Completes (.mbxRead id no) s (fun t =>
        ((mbxOf s m).fk.full = true → (mbxOf s m).fkEpoch = s.kp.epoch →
          said 2 0 ((List.range 16).map fun i => (mbxOf s m).fk.words.getD i 0) t) ∧
        (((mbxOf s m).fk.full = false ∨ (mbxOf s m).fkEpoch ≠ s.kp.epoch) → said 2 0x0201 (List.replicate 16 0) t) ∧
        (∀ j, mbxOf t j = mbxOf s j) ∧ OnlyIn [.kp, .out] s t) ∧
      (∀ w : Word, (mbxOf s m).fk.full = true → hdrTag w = dirTag (mbxOf s m).fk →
        Completes (.mbxAck id no w) s (fun t => said 3 0 [] t ∧ (mbxOf t m).lastConsumed = some (hdrTag w) ∧
          ((mbxOf s m).replyQ = [] → (mbxOf t m).fk = dirAck (hdrTag w) 0 (mbxOf s m).fk) ∧
          (∀ r rs, (mbxOf s m).replyQ = r :: rs → (mbxOf t m).fk.full = true ∧
            (mbxOf t m).fk.words = msgWords (replyWords r) ∧ (mbxOf t m).replyQ = rs))) ∧
      Completes (.ackRead id no) s (fun t =>
        said 4 0 [ackWord (mbxOf s m).tk.ack, flagsByte (mbxOf s m).tk false false] t ∧ OnlyIn [.kp, .out] s t) ∧
      (∀ typ : Nat, typ = 0 ∨ 6 < typ → Completes (.undefinedKapRecord id no typ) s (fun t =>
        said typ 0x0303 [] t ∧ OnlyIn [.kp, .out] s t))) ∧
    (x.mailbox = none → ∀ ws : List Word, Completes (.mbxWrite id no ws) s (fun t =>
      said 1 0x0202 [] t ∧ (∀ j, mbxOf t j = mbxOf s j) ∧ OnlyIn [.kp, .out] s t)) ∧
    (∀ a n : Nat, x.claim = false → 0 < n → n ≤ 256 → regAddrOk a = true → a / 0x10000 = (a + 4 * (n - 1)) / 0x10000 →
      (∀ i, i < n → regGated s (a + 4 * i) = false ∧
        (wordOwner (a + 4 * i) = none ∨ wordOwner (a + 4 * i) = x.mailbox ∨ x.role = .securityOfficer)) →
      Completes (.regRead id no a n) s (fun t => ∃ ws, ws.length = n ∧ said 5 0 ws t ∧
        OnlyIn [.kp, .out, .latch] s t)) ∧
    (∀ m, m < 8 → (mbxOf s m).session = none → (mbxOf s m).retainUntil ≠ none → (mbxOf s m).identity = x.identity →
      roleGe x.role (mbxOf s m).role = true → x.mailbox ≠ some m → Completes (.resume id no m) s (fun t =>
        said 6 0 [] t ∧ (mbxOf t m).session = some id ∧ (mbxOf t m).retainUntil = none ∧ (mbxOf t m).role = x.role))

/-- MBX_WORD0_WRITE enters a message, an FK one never over a held one, and MBX_IN_ACK_WRITE with the held tag lets it go.
KEEPER_TAKE_MESSAGE acknowledges a message and queues a host's request whose header and role are right, at most 64.
MAILBOX_POLL takes a message of the lamp room or for the partner. CAN_CMD_REQUEST with a good tag and a higher counter
queues its request. LONG_COMMAND_COMPLETE answers a long command that is done. -/
def Obligations.MailboxesCarryMessages : Prop :=
  (∀ (m : Nat) (ws : List Word) (s : State), m < 26 →
    Completes (.mbxWord0Write m true ws) s (fun t => (mbxOf t m).tk = dirWrite ws (mbxOf s m).tk ∧
      (mbxOf t m).fk = (mbxOf s m).fk ∧ (∀ j, j ≠ m → mbxOf t j = mbxOf s j) ∧ OnlyIn (logBlocks ++ [.kp]) s t) ∧
    ((mbxOf s m).fk.full = true → Completes (.mbxWord0Write m false ws) s (fun t => t = s)) ∧
    ((mbxOf s m).fk.full = false → (8 ≤ m → m < 24 → (galOf s (m - 8)).powerFault = false) →
      Completes (.mbxWord0Write m false ws) s (fun t => (mbxOf t m).fk = dirWrite ws (mbxOf s m).fk ∧
        (mbxOf t m).tk = (mbxOf s m).tk ∧ (∀ j, j ≠ m → mbxOf t j = mbxOf s j) ∧ OnlyIn [.kp, .fab, .out] s t))) ∧
  (∀ (g : Nat) (w : Word) (s : State), g < 16 →
    ((mbxOf s (8 + g)).fk.full = true → hdrTag w = dirTag (mbxOf s (8 + g)).fk →
      Completes (.mbxInAckWrite g w) s (fun t =>
        (mbxOf t (8 + g)).fk = dirAck (hdrTag w) (hdrOp w) (mbxOf s (8 + g)).fk ∧ OnlyIn [.kp] s t)) ∧
    (((mbxOf s (8 + g)).fk.full = false ∨ hdrTag w ≠ dirTag (mbxOf s (8 + g)).fk) →
      Completes (.mbxInAckWrite g w) s (fun t =>
        t = { s with kp := { s.kp with ackIgnored := satInc s.kp.ackIgnored } }))) ∧
  (∀ (m : Nat) (s : State), m < 26 → s.kp.ready = true → (mbxOf s m).tk.full = true →
    let d := (mbxOf s m).tk
    let n := hdrLen (d.words.getD 0 0)
    Completes (.keeperTakeMessage m) s (fun t =>
      (mbxOf t m).tk.full = false ∧ (mbxOf t m).tk.ack.valid = true ∧ (mbxOf t m).tk.ack.tag = dirTag d ∧
      (∀ j, j ≠ m → mbxOf t j = mbxOf s j) ∧
      ((n = 0 ∨ 16 < n) → (mbxOf t m).tk.ack.rc = 0x0303 ∧ t.kp.queue = s.kp.queue) ∧
      (0 < n → n ≤ 16 → m < 8 → headCheck (reqOf s m) = none → s.kp.queue.length < 64 →
        (mbxOf t m).tk.ack.rc = 0 ∧ t.kp.queue = s.kp.queue ++ [reqOf s m]) ∧
      (∀ rc, 0 < n → n ≤ 16 → m < 8 → headCheck (reqOf s m) = some rc →
        (mbxOf t m).tk.ack.rc = rc ∧ t.kp.queue = s.kp.queue) ∧
      (0 < n → n ≤ 16 → m < 8 → headCheck (reqOf s m) = none → 64 ≤ s.kp.queue.length →
        (mbxOf t m).tk.ack.rc = 0x0202 ∧ t.kp.queue = s.kp.queue) ∧
      (0 < n → n ≤ 16 → 8 ≤ m → t.kp.queue = s.kp.queue) ∧ OnlyIn (logBlocks ++ [.kp]) s t)) ∧
  (∀ (m : Nat) (s : State), m = 24 ∨ m = 25 → (mbxOf s m).fk.full = true → Completes (.mailboxPoll m) s (fun t =>
    (m = 24 → (mbxOf t m).fk = dirAck (dirTag (mbxOf s m).fk) 0 (mbxOf s m).fk ∧ OnlyIn [.kp] s t) ∧
    (m = 25 → t.twin.txQ =
        s.twin.txQ ++ [{ cls := 3, typ := 6, tag := 0, words := (mbxOf s m).fk.words.map BitVec.toNat }] ∧
      (s.kp.twinOut = [] → (mbxOf t m).fk.full = false) ∧
      (∀ w ws, s.kp.twinOut = w :: ws → (mbxOf t m).fk.full = true ∧ (mbxOf t m).fk.words = msgWords w ∧
        t.kp.twinOut = ws) ∧ OnlyIn [.kp, .twin] s t))) ∧
  (∀ (p : Nat) (h : Word) (args : List Word) (n : Nat) (ok : Bool) (s : State), (portOf s p).configured = true →
    (portOf s p).cfg.cmdEn = true → ethHeld s = false → s.kp.ready = true →
    let q : Req := { origin := .can p, opcode := hdrOp h, tag := hdrTag h, len := hdrLen h,
                     args := args.take (hdrLen h - 1), role := if s.sec.canRole = 2 then .operator else .viewer }
    (ok = true → s.sec.canLast < n → s.sec.canKey = true → s.sec.canRole ≠ 0 → s.kp.canBusy = none →
      canOps.contains q.opcode = true → headCheck q = none → s.kp.queue.length < 64 →
      Completes (.canCmdRequest p h args n ok) s (fun t => t.kp.queue = s.kp.queue ++ [q] ∧ t.kp.canBusy = some p ∧
        t.sec.canLast = n ∧ OnlyIn [.kp, .sec] s t)) ∧
    ((ok = false ∨ n ≤ s.sec.canLast) → Completes (.canCmdRequest p h args n ok) s (fun t =>
      t.kp.queue = s.kp.queue ∧ t.kp.canReject = satInc s.kp.canReject ∧ t.sec = s.sec ∧
      OnlyIn (logBlocks ++ [.kp]) s t))) ∧
  (∀ (op : Nat) (l : LongRun) (rest : List LongRun) (s : State), s.kp.ready = true →
    takeFirst (fun l : LongRun => l.req.opcode == op && l.done) s.kp.long = some (l, rest) →
    exec (.longCommandComplete op) s =
      .next (finish l.req { rc := l.rc, data := l.data } { s with kp := { s.kp with long := rest } }))

/-- The answer to a command of a host session that still holds its mailbox is held there at once, as header, return code
and at most 14 data words, or queues behind what is held; another session gets nothing. The answer to a command of a
CAN port frees the command port and uses the next reply counter. The answer of a stored command ends its slot, with
OK_LATE for OK of a late action. -/
def Obligations.RepliesReachTheirSender : Prop :=
  (∀ (q : Req) (a : Ans) (m : Nat) (s : State), q.origin = .host m → m < 8 →
    (((mbxOf s m).session = none ∧ (mbxOf s m).retainUntil = none ∨ (mbxOf s m).identity ≠ q.ident) → finish q a s = s) ∧
    (((mbxOf s m).session ≠ none ∨ (mbxOf s m).retainUntil ≠ none) → (mbxOf s m).identity = q.ident →
      let r : Reply := { opcode := q.opcode, tag := q.tag, rc := a.rc, data := a.data, epoch := s.kp.epoch }
      let t := finish q a s
      ((mbxOf s m).fk.full = true → (mbxOf t m).fk = (mbxOf s m).fk ∧ (mbxOf t m).replyQ = (mbxOf s m).replyQ ++ [r]) ∧
      ((mbxOf s m).fk.full = false → (mbxOf s m).replyQ = [] → (mbxOf t m).fk.full = true ∧
        (mbxOf t m).fk.words = msgWords (hdrWord q.opcode q.tag (2 + min 14 a.data.length) :: fldF a.rc 16 ::
          a.data.take 14) ∧ (mbxOf t m).replyQ = [] ∧ (mbxOf t m).fkEpoch = s.kp.epoch) ∧
      (∀ j, j ≠ m → mbxOf t j = mbxOf s j) ∧ OnlyIn [.kp, .out] s t)) ∧
  (∀ (q : Req) (a : Ans) (p : Nat) (s : State), q.origin = .can p →
    let t := finish q a s
    t.kp.canBusy = none ∧ t.sec.canReply = s.sec.canReply + 1 ∧ OnlyIn (logBlocks ++ [.kp, .sec, .can, .free]) s t) ∧
  (∀ (q : Req) (a : Ans) (k : Nat) (s : State), q.origin = .slot k →
    let t := finish q a s
    schOf t k = { schOf s k with
      st := 2, outcome := if a.rc = 0 ∧ 0 < (schOf s k).lateNs then 0x0101 else a.rc } ∧ OnlyIn [.time] s t)

/-- KEEPER_FIRMWARE_FAULT stops the keeper's service and begins the restart window of its watchdog. KEEPER_RESUME serves
again under the next epoch, with empty queues; after an activation whose digest holds, the other slot is active.
VIEW_CHECK samples every unit at the next millisecond: a unit that differs from the view is in conflict, and no
waiting command is aimed at it. TRANSFER_TIMEOUT discards a transfer idle for 60 s. -/
def Obligations.KeeperRestartsAndResumes : Prop :=
  (∀ s : State, s.kp.ready = true → Completes .keeperFirmwareFault s (fun t => t.kp.ready = false ∧
    t.kp.restart = some (.fault, now s) ∧ t.kp.handshakes = [] ∧ t.kp.queue = s.kp.queue ∧ t.wdg.window = .restart ∧
    t.wdg.deadline = now s + 500000000 ∧ t.wdg.second = false)) ∧
  (∀ (ok : Bool) (cause : RestartCause) (began : Nat) (s : State), s.kp.restart = some (cause, began) →
    Completes (.keeperResume ok) s (fun t => t.kp.ready = true ∧ t.kp.restart = none ∧
      t.kp.epoch = (s.kp.epoch + 1) % 2 ^ 32 ∧ t.kp.queue = [] ∧ t.kp.long = [] ∧ t.kp.twinWait = [] ∧
      t.sec.trngWait = [] ∧ t.kp.restartCnt = satInc s.kp.restartCnt ∧ now t = now s ∧
      (s.fw.activating = true → t.fw.activating = false ∧
        t.fw.active = (if ok then !s.fw.active else s.fw.active) ∧ t.fw.inactiveValid = ok ∧
        (ok = true → t.fw.trial = some began)) ∧
      (s.fw.activating = false → t.fw.active = s.fw.active ∧ t.fw.inactiveValid = s.fw.inactiveValid))) ∧
  (∀ s : State, s.kp.ready = true → Completes .viewCheck s (fun t => now t = (now s / 1000000 + 1) * 1000000 ∧
    ∀ u ∈ unitNames, unitState s u ≠ (viewOf s u).view → (viewOf t u).conflict = true ∧
      (viewOf t u).view = unitState s u ∧ ∀ q ∈ t.kp.queue, aimedAt q u = false)) ∧
  (∀ (tr : Transfer) (s : State), s.kp.transfer = some tr → Completes .transferTimeout s (fun t =>
    t.kp.transfer = none ∧ now t = max (tr.lastTs + 60000000000) (now s) ∧ OnlyIn [.kp, .time, .rtc] s t))

/-- A keeper command acts only when the keeper serves and the front request of its queue has the command's opcode;
otherwise it leaves the state as it is. A request that R441 refuses is taken from the queue and answered DENIED_MODE;
EDIT_LOAD keeps its own order of checks. -/
def Obligations.KeeperServesTheFront : Prop :=
  (∀ (c : Instr) (op : Nat) (s : State), cmdOpOf c = some op →
    (s.kp.ready = false ∨ s.kp.queue = [] ∨ ∃ q rest, s.kp.queue = q :: rest ∧ q.opcode ≠ op) → exec c s = .next s) ∧
  (∀ (c : Instr) (op : Nat) (q : Req) (rest : List Req) (s : State), cmdOpOf c = some op → op ≠ 0x0301 →
    s.kp.ready = true → s.kp.queue = q :: rest → q.opcode = op → modeRefused q (taken rest s) = true →
    exec c s = .next (finish q { rc := 0x0302 } (taken rest s)))

/-- MODULE_STATUS, MODE_READ, IDENTITY_READ, REGISTER_READ of MOD_TYPE, BATCH_READ, PROGRAM_INFO, TASK_STATUS, IMAGE_READ
of an output image, EDIT_STATUS, TWIN_STATUS, TIME_READ and RTC_READ answer OK with the words of their rows, as the
module stands, and change nothing but the queue. COUNTER_READ, SESSION_INFO, FUSE_STATUS, FW_STATUS, CAN_STATUS of a
configured port, BEAM_RX_STATUS and BUOY_STATUS answer OK with the words of their rows. FORCE_LIST, LAST_LIGHT_READ
and TAG_READ fill the batch of the session; TAG_READ of a valid newer copy gives its length and version, and BUSY
under an RF field. -/
def Obligations.ReadsReport : Prop :=
  (∀ (q : Req) (rest : List Req) (s : State),
    let u := taken rest s
    let tells (c : Instr) (ws : List Word) : Prop := exec c s = .next (finish q { rc := 0, data := ws } u)
    (Served 0x0101 q rest s → tells .moduleStatus ([modeWord s, modStatus s, modUnits s, w32 s.kp.epoch] ++ words64 (now s))) ∧
    (Served 0x0102 q rest s → tells .modeRead [modeWord s, forceCount s, forceLeft s]) ∧
    (Served 0x0103 q rest s → tells .identityRead ([modType s] ++ words64 s.id.serial.toNat ++
      [regMod s 0x0C, regMod s 0x10, regMod s 0x14, modFwSlot s])) ∧
    (Served 0x0104 q rest s → arg q 0 = 0 → arg q 1 = 1 → tells .registerRead [modType s]) ∧
    (∀ m, Served 0x0124 q rest s → q.origin = .host m → arg q 0 % 4 = 0 → arg q 0 < 4096 →
      tells .batchRead ((List.range 14).map fun i => wordBE (mbxOf s m).batch (arg q 0 + 4 * i))) ∧
    (Served 0x0202 q rest s → tells .programInfo [idWord ((s.img.map ProgImage.id).getD 0),
      w32 ((s.img.map ProgImage.layout).getD 0), regRfxHead s 4,
      bitF s.fw.bank 0 ||| fldF (startCode ((s.img.map ProgImage.start).getD .stop)) 8,
      fldF ((tasksUsed s).filter isCyclic).length 0 ||| fldF ((tasksUsed s).filter fun k => !isCyclic k).length 8]) ∧
    (Served 0x0212 q rest s → tells .taskStatus (w32 (taskCode s (arg q 0)) ::
      (List.range 8).map (statusWord s (arg q 0)))) ∧
    (Served 0x0216 q rest s → arg q 1 % 4 = 0 → 0x10000 ≤ arg q 1 → arg q 1 + 4 * arg q 2 ≤ 0x20000 →
      (taskOf s (arg q 0)).strobed = true → tells .imageRead (w32 (taskOf s (arg q 0)).commitCycle ::
        imageWords s (arg q 0) (arg q 1) (arg q 2))) ∧
    (Served 0x0302 q rest s → tells .editStatus (editWords s)) ∧
    (Served 0x0501 q rest s → tells .twinStatus [regTwn s 0, regTwn s 8, regTwn s 0xC, regTwn s 0x1C, regTwn s 0xA0]) ∧
    (Served 0x0601 q rest s → tells .timeRead (words64 (now s) ++ [regTim s 0, regTim s 0x10, regTim s 0x14])) ∧
    (Served 0x0606 q rest s → tells (.rtcRead true) [regRtc s 0xC, regRtc s 8, regRtc s 4, regRtc s 0x10, regRtc s 0])) ∧
  (∀ (q : Req) (rest : List Req) (s : State),
    let u := taken rest s
    let tells (c : Instr) (ws : List Word) : Prop := exec c s = .next (finish q { rc := 0, data := ws } u)
    let fills (c : Instr) (ws : List Word) (bs : List Byte) : Prop :=
      exec c s = .next (finish q { rc := 0, data := ws } (batchPut q bs u))
    (Served 0x0801 q rest s → tells .counterRead (words64 (counterGet s (arg q 0)))) ∧
    (Served 0x0901 q rest s → tells .sessionInfo ([mbxBind s ((mbxOrigin q).getD 8)] ++ identWords q.ident)) ∧
    (Served 0x0906 q rest s → tells .fuseStatus ([w32 s.sec.margCount] ++ words64 s.sec.margTs)) ∧
    (Served 0x0A03 q rest s → tells .fwStatus [(fwActive s).keeperVer, (fwActive s).lroomVer, modFwSlot s,
      w32 s.sec.svnKeeper, w32 s.sec.svnLroom]) ∧
    (Served 0x0C01 q rest s → (portOf s (arg q 0 % 4)).configured = true → tells .canStatus [regCan s (arg q 0 % 4) 0,
      regCan s (arg q 0 % 4) 0x14, regCan s (arg q 0 % 4) 0x18, regCan s (arg q 0 % 4) 0x1C, regCan s (arg q 0 % 4) 0x20]) ∧
    (Served 0x0D03 q rest s → tells .beamRxStatus ([regBrx s (arg q 0) 0, regBrx s (arg q 0) 0x0C,
      regBrx s (arg q 0) 0x10] ++ words64 (brxOf s (arg q 0)).ts)) ∧
    (Served 0x0E01 q rest s → aimConflict q s = false → tells .buoyStatus ([regSock s (arg q 0) 0, regSock s (arg q 0) 4] ++
      words64 (sockOf s (arg q 0)).serial ++ [regSock s (arg q 0) 0x10, regSock s (arg q 0) 0x14, regSock s (arg q 0) 0x18,
        regSock s (arg q 0) 0x1C])) ∧
    (Served 0x0403 q rest s → fills .forceList [w32 s.fab.forces.length]
      (s.fab.forces.flatMap fun f => items [forcePoint f, f.value.toNat, f.ts % 2 ^ 32, f.ts / 2 ^ 32])) ∧
    (Served 0x0803 q rest s → fills .lastLightRead [bitF s.rcd.ll.valid 0] (llBytes s.rcd.ll)) ∧
    (∀ x, Served 0x0E03 q rest s → arg q 0 ≤ 4 → tagReg s (arg q 0) = x →
      (s.tag.rf = false → tagNewB x = true → fills .tagRead [w32 x.dataB.length, w32 x.verB] x.dataB) ∧
      (s.tag.rf = false → tagNewB x = false → x.okA = true → fills .tagRead [w32 x.dataA.length, w32 x.verA] x.dataA) ∧
      (s.tag.rf = true → exec .tagRead s = .next (finish q { rc := 0x0202 } { u with tag := { s.tag with
        busyCnt := satInc s.tag.busyCnt } }))))

/-- SAFE enters SAFE and stops every task. SAFE_RESET fixes the reset 500 ms ahead. SERVICE_ENTER and SERVICE_LEAVE set
MAINT. KEEPER_RESTART stops the keeper with its reply held. TRANSFER_OPEN, TRANSFER_DATA and TRANSFER_CLOSE fill the
one transfer. CLOCK_SELECT and WATCHDOG_SET set the watchdog clock; CLOCK_MEASURE selects the gate and reports a
completed one. -/
def Obligations.ModuleCommands : Prop :=
  ∀ (q : Req) (rest : List Req) (s : State),
    let u := taken rest s
    (Served 0x0110 q rest s → s.mode.exec ≠ .safe → assistHost s = false → Replies .safe q 0 s (fun d t => d = [] ∧
      t.mode.exec = .safe ∧ t.mode.safeLatched = true ∧ t.mode.stopStage = 0 ∧ t.mode.declared = [] ∧
      (∀ k ∈ tasksUsed s, (taskOf t k).mode = .notScanning ∧ (taskOf t k).phase = .idle) ∧
      (twinOn s = false → ∀ g, g < 4 → (dgrpOf t g).safe = true))) ∧
    (Served 0x0111 q rest s → s.mode.exec = .safe → s.mode.causeOpen = false → Replies .safeReset q 0 s (fun d t =>
      d = [] ∧ t.mode = { s.mode with safeResetAt := some (s.mode.safeResetAt.getD (now s + 500000000)) } ∧
      OnlyIn (logBlocks ++ [.mode]) u t)) ∧
    (Served 0x0112 q rest s → s.mode.maint = false → scanning s = false → s.mode.power = .normal →
      transitionPending s = false → Replies .serviceEnter q 0 s (fun d t => d = [] ∧
        t.mode = { s.mode with maint := true, seq := (s.mode.seq + 1) % 256 } ∧ OnlyIn (logBlocks ++ [.mode]) u t)) ∧
    (Served 0x0113 q rest s → s.mode.maint = true → Replies .serviceLeave q 0 s (fun d t => d = [] ∧
      t.mode = { s.mode with maint := false, seq := (s.mode.seq + 1) % 256 } ∧ OnlyIn (logBlocks ++ [.mode]) u t)) ∧
    (Served 0x0114 q rest s → Waits .keeperRestart s (fun t => t.kp.ready = false ∧
      t.kp.restart = some (.command, now s) ∧ t.wdg.window = .restart ∧ t.wdg.deadline = now s + 500000000 ∧
      { req := q, done := true } ∈ t.kp.long)) ∧
    (∀ m, Served 0x0120 q rest s → q.origin = .host m → 1 ≤ arg q 0 → arg q 0 ≤ 6 → kindLen (arg q 0) (arg q 1) = true →
      kindRole (arg q 0) q = true → s.kp.transfer = none → exec .transferOpen s = .next (finish q { rc := 0 } { u with
        kp := { u.kp with transfer := some { kind := arg q 0, len := arg q 1, crc := argW q 2, owner := m, ident := q.ident, lastTs := now s } }
        imgAlt := if arg q 0 = 1 then none else s.imgAlt })) ∧
    (∀ x, Served 0x0121 q rest s → ownTransfer q s = some x → x.last ≠ some (arg q 0, q.args.drop 1) →
      arg q 0 = 4 * x.data.length → arg q 0 + 4 * (q.args.drop 1).length ≤ x.len →
      exec .transferData s = .next (finish q { rc := 0, data := [w32 (arg q 0 + 4 * (q.args.drop 1).length)] } { u with
        kp := { u.kp with transfer := some { x with
          data := x.data ++ q.args.drop 1, last := some (arg q 0, q.args.drop 1), lastTs := now s } } })) ∧
    (∀ x, Served 0x0122 q rest s → longBusy s 0x0122 = false → ownTransfer q s = some x → x.len = 4 * x.data.length →
      crc32 (wordsBytes x.data) = x.crc → Waits .transferClose s (fun t =>
        t.kp.transfer = some { x with closed := true, lastTs := now s } ∧
        t.kp.long = s.kp.long ++ [{ req := q, done := true, rc := 0, data := [w32 x.len, x.crc] }] ∧ OnlyIn [.kp] s t)) ∧
    (Served 0x0115 q rest s → s.mode.exec = .stop → arg q 0 = 0 → arg q 1 ≤ 1 → srcReady s (arg q 1) = true →
      Replies .clockSelect q 0 s (fun d t => d = [] ∧ t.wdg = { s.wdg with clkRc := arg q 1 == 1 } ∧
        OnlyIn (logBlocks ++ [.wdg]) u t)) ∧
    (Served 0x0116 q rest s → arg q 0 ≤ 10 → arg q 1 ≤ 10 → 16000000 ≤ clockHz.getD (arg q 1) 0 * arg q 2 →
      (s.clk.measSel = some (arg q 0, arg q 1, arg q 2) → s.clk.measSeq ≠ 0 →
        exec .clockMeasure s = .next (finish q { rc := 0, data := [s.clk.measCnt, s.clk.measRef] } u)) ∧
      (s.clk.measSel ≠ some (arg q 0, arg q 1, arg q 2) →
        exec .clockMeasure s = .next (finish q { rc := 0x0201 } { u with clk := { s.clk with
          measSel := some (arg q 0, arg q 1, arg q 2), measSeq := 0, measTs := now s } }))) ∧
    (Served 0x0117 q rest s → s.mode.exec = .stop → srcReady s (arg q 1) = true → Replies .watchdogSet q 0 s (fun d t =>
      d = [] ∧ t.wdg = { s.wdg with timeoutMs := arg q 0, clkRc := arg q 1 == 1, setRc := arg q 1 == 1, deadline := now s + arg q 0 * 1000000 } ∧
      OnlyIn (logBlocks ++ [.wdg]) u t))

/-- PROGRAM_LOAD makes a verified image active and leaves a failing one out. RUN declares the run start 10 ms ahead (model
choice, log entry 63); DECLARED_INSTANT begins it, with RUN_NUMBER one higher and no forces. STOP declares T_stop;
T_STOP_REACHED ends the cycles, and STOP_DONE enters STOP. TASK_RESTART and SECTOR_RESTART run their tasks again,
RANGE_RETEST begins LBIST, and FORCE_AUTO_RELEASE lets forces of 8 h go at the start of a cycle. -/
def Obligations.ProgramCommands : Prop :=
  (∀ (q : Req) (rest : List Req) (s : State),
    (∀ (x : Loaded) (ws : List Word), Served 0x0201 q rest s → s.mode.exec = .stop → transitionPending s = false →
      longBusy s 0x0201 = false → Transferred 1 q ws s → partnerThere s = false →
      (∀ p off signer, x = .good p off signer → loadCheck s p = none → Waits (.programLoad x) s (fun t => t.img = some p ∧
        t.imgAlt = s.img ∧ t.fw.bank = !s.fw.bank ∧ t.sec.imgOwner = s.sec.ownerHash ∧ t.sec.imgSigner = signer ∧
        t.mode.exec = .stop ∧ t.kp.transfer = none ∧
        t.kp.long = s.kp.long ++ [{ req := q, done := true, rc := 0, data := [idWord p.id, w32 p.layout] }])) ∧
      (∀ cls off cause signer, x = .bad cls off cause signer → Waits (.programLoad x) s (fun t => t.img = s.img ∧
        t.imgAlt = none ∧ t.kp.long = s.kp.long ++ [{ req := q, done := true, rc := 0x0303, data := [w32 off, w32 cls] }] ∧
        OnlyIn (logBlocks ++ [.imgAlt, .kp]) s t))) ∧
    (∀ src : Option RetArea, Served 0x0210 q rest s → runMode s = true → transitionPending s = false → imageOk s = true →
      s.sec.margHold = false → src = (if runWarm (arg q 0 % 4) s then retainSource s else none) →
      (runWarm (arg q 0 % 4) s = true → src = none → (argW q 0).getLsbD 8 = true) → Alone q s →
      Replies .run q (if runWarm (arg q 0 % 4) s = true ∧ src = none then 0x0102 else 0) s (fun d t =>
        d.drop 1 = words64 (now s + 10000000) ∧ t.wdg = { s.wdg with repeatHold := false } ∧
        t.mode = { s.mode with declared := s.mode.declared ++ [⟨.runStart src.isSome false, now s + 10000000⟩] } ∧
        OnlyIn [.mode, .wdg, .dio] (taken rest s) t)) ∧
    (Served 0x0211 q rest s → scanning s = true → transitionPending s = false → Alone q s → Replies .stop q 0 s (fun d t =>
      d = words64 (stopInstant s) ∧ t.mode.declared = [⟨.stop ((argW q 0).getLsbD 0), stopInstant s⟩] ∧
      (proving s = true → t.edit.st = .aborted) ∧
      (proving s = false → s.twin.rejoin.phase = 0 → OnlyIn [.mode] (taken rest s) t))) ∧
    (Served 0x0213 q rest s → scanning s = true → (taskCfg s (arg q 0)).used = true → (taskOf s (arg q 0)).mode = .stopped →
      Alone q s → Replies .taskRestart q 0 s (fun d t => d = [] ∧ (taskOf t (arg q 0)).mode = .running ∧
        (taskOf t (arg q 0)).first = .cold ∧ (taskOf t (arg q 0)).nextAt =
          (if arg q 0 < 8 then some (gridAt (taskCfg s (arg q 0)) (now s)) else none) ∧
        t.fab.forces = s.fab.forces.filter fun f => !forceIn s (arg q 0) f.kind f.index)) ∧
    (Served 0x0214 q rest s → scanning s = true → twinOn s = false → sectorState s (arg q 0) = .safe →
      sectorFits s (arg q 0) = true → Replies .sectorRestart q 0 s (fun d t => d = [] ∧ sectorState t (arg q 0) = .run ∧
        ∀ k ∈ sectorTasks s (arg q 0), (taskOf t k).mode = .running)) ∧
    (∀ g r, Served 0x0215 q rest s → arg q 0 = 16 * g + r → r < 16 → s.mode.maint = true → longBusy s 0x0215 = false →
      ((galOf s g).sstate = .unassigned ∨ (galOf s g).sstate = .stop) → (galOf s g).power = .on →
      ((rangeOf s g r).st = .half ∨ (rangeOf s g r).st = .retired) → Waits .rangeRetest s (fun t =>
        (rangeOf t g r).st = .lbist ∧ (rangeOf t g r).lbCause = .retest ∧ (rangeOf t g r).retest = 3 ∧
        (rangeOf t g r).lbTs = now s ∧ t.kp.long = s.kp.long ++ [{ req := q }] ∧ OnlyIn [.kp, .fab] s t))) ∧
  (∀ (w p : Bool) (t0 : Nat) (s : State), nextDeclared s = some ⟨.runStart w p, t0⟩ → s.dio.cutTest = none →
    runMode s = true → s.img.isSome = true → s.edit.toSwitch = [] → Completes .declaredInstant s (fun t =>
      t.mode.exec = .run ∧ now t = max t0 (now s) ∧ t.fab.forces = [] ∧ counterGet t 6 = counterGet s 6 + 1 ∧
      (∀ k ∈ tasksUsed s, (taskOf t k).mode = .running ∨ (taskOf t k).mode = .sectorSafe))) ∧
  (∀ (imm : Bool) (t0 : Nat) (s : State), stopDecl s = some (imm, t0) → s.mode.stopStage = 0 → scanning s = true →
    Completes .tStopReached s (fun t => now t = max t0 (now s) ∧ t.mode.stopImm = imm ∧ t.mode.stopStage ≠ 0 ∧
      (imm = true → ∀ k ∈ tasksUsed s, (taskOf s k).mode = .running →
        (taskOf t k).phase = .idle ∧ (taskOf t k).ended = true))) ∧
  (∀ s : State, s.mode.stopStage = 3 → s.edit.toSwitch = [] → Completes .stopDone s (fun t => t.mode.exec = .stop ∧
    t.mode.stopStage = 0 ∧ stopDecl t = none ∧ (∀ k ∈ tasksUsed s, (taskOf t k).mode = .notScanning ∧
      (taskOf t k).phase = .idle ∧ (sectorState s (taskCfg s k).sector = .run →
        sectorState t (taskCfg s k).sector = .stop)) ∧ OnlyIn (logBlocks ++ [.mode, .fab]) s t)) ∧
  (∀ (k t0 : Nat) (f : ForcePoint) (s : State), k < 8 → (taskOf s k).nextAt = some t0 → (taskOf s k).lateNext = false →
    mayStart s k = true → s.edit.toSwitch = [] → f ∈ s.fab.forces → f.vital = true → f.ts + forceHold ≤ t0 →
    forceIn s k f.kind f.index = true → Completes (.forceAutoRelease k) s (fun t => now t = max t0 (now s) ∧
      f ∉ t.fab.forces ∧ (∀ h ∈ s.fab.forces, h.vital = false ∨ t0 < h.ts + forceHold → h ∈ t.fab.forces)))

/-- EDIT_LOAD accepts a delta with its host and T_start, or answers its refusal with the reason. PROOF_START enters PROOF.
CUT_OVER and ROLLBACK declare T_CUT, which sets the edit CUT_OVER with 60 s for a rollback, or ROLLED_BACK.
PROOF_ABORT, EDIT_EXPIRED, EDIT_COMMIT and EDIT_COMMITTED end the proof or the rollback period. -/
def Obligations.EditCommands : Prop :=
  (∀ (q : Req) (rest : List Req) (x : DeltaIn) (ws : List Word) (s : State), Served 0x0301 q rest s →
    (∀ (d : Delta) (signer : Nat), x = .good d signer → editRefusal x s = none → Transferred 2 q ws s →
      partnerThere s = false → d.stopEdit = false → s.edit.toSwitch = [] → Waits (.editLoad x) s (fun t =>
        t.edit.st = .loaded ∧ t.edit.host = hostChoose d s ∧ t.edit.delta = some d ∧ t.edit.serial = d.serial ∧
        t.edit.anchor = anchorOf d ∧ t.edit.tStart = editInstant d s ∧ t.img = s.img ∧ t.kp.transfer = none ∧
        t.mode.declared = [⟨.proofStart, editInstant d s⟩] ∧
        ∃ w, t.kp.long = s.kp.long ++ [{ req := q, done := true, rc := 0, data := w :: words64 (editInstant d s) }])) ∧
    (∀ rc reason : Nat, editRefusal x s = some (rc, reason) → Waits (.editLoad x) s (fun t => t.img = s.img ∧
      t.kp.long = s.kp.long ++ [{ req := q, done := true, rc := rc, data := [fldF 8 24 ||| fldF reason 16] }] ∧
      (reason ≠ 13 → reason ≠ 0 → t.edit.st = .refused ∧ t.edit.reason = reason) ∧
      OnlyIn (logBlocks ++ [.kp, .edit]) s t))) ∧
  (∀ (q : Req) (rest : List Req) (s : State), transitionPending s = false → Alone q s →
    (Served 0x0303 q rest s → s.mode.exec = .proof → s.edit.st = .held → Replies .cutOver q 0 s (fun d t =>
      d.drop 1 = words64 (cutInstant s) ∧ t.mode.declared = [⟨.cutOver, cutInstant s⟩] ∧
      t.edit.tCut = some (cutInstant s) ∧ t.edit.until_ = none ∧ OnlyIn [.mode, .edit] (taken rest s) t)) ∧
    (Served 0x0304 q rest s → s.mode.exec = .proof → proving s = true → Replies .proofAbort q 0 s (fun d t => d = [] ∧
      t.edit.st = .aborted ∧ t.edit.reason = 6 ∧ t.edit.delta = none ∧ t.mode.exec = .run ∧
      (assistHost s = false → t.img = s.img))) ∧
    (Served 0x0305 q rest s → s.mode.exec = .run ∨ s.mode.exec = .stop → rollbackOpen s = true →
      Replies .rollback q 0 s (fun d t => d = words64 (cutInstant s) ∧ t.mode.declared = [⟨.rollback, cutInstant s⟩] ∧
        t.edit.tCut = some (cutInstant s) ∧ OnlyIn [.mode, .edit] (taken rest s) t)) ∧
    (Served 0x0306 q rest s → s.mode.exec ≠ .safe → rollbackOpen s = true → Replies .editCommit q 0 s (fun d t => d = [] ∧
      t.edit.st = .committed ∧ t.edit.until_ = none ∧ t.edit.old = none ∧ t.rfx.alt = none ∧
      OnlyIn (logBlocks ++ [.edit, .rfx]) (taken rest s) t))) ∧
  (∀ (x : Declared) (d : Delta) (s : State), s.mode.declared.find? (fun d => d.kind == .proofStart) = some x →
    s.edit.delta = some d → s.mode.exec = .run → d.rfxChange = false → Completes .proofStart s (fun t =>
      now t = max x.ts (now s) ∧ t.mode.exec = .proof ∧ t.edit.st = .proving ∧ t.rfx.proof = false ∧
      ∀ y ∈ t.mode.declared, y.kind ≠ .proofStart)) ∧
  (∀ (t0 : Nat) (s : State), s.edit.until_ = some t0 → cutPending s = false →
    (s.edit.st = .held → Completes .editExpired s (fun t => now t = max t0 (now s) ∧ t.edit.st = .expired ∧
      t.edit.until_ = none ∧ t.edit.delta = none ∧ t.rfx.alt = none ∧ (s.mode.exec = .proof → t.mode.exec = .run))) ∧
    (s.edit.st = .cutOver → Completes .editCommitted s (fun t => now t = max t0 (now s) ∧ t.edit.st = .committed ∧
      t.edit.until_ = none ∧ t.edit.old = none ∧ t.rfx.alt = none ∧
      OnlyIn (logBlocks ++ [.edit, .rfx, .time, .rtc]) s t))) ∧
  (∀ (t0 : Nat) (d : Delta) (live : ProgImage) (s : State), s.edit.delta = some d → s.img = some live →
    (cutDecl s = some (false, t0) → assistHost s = false → scanning s = true → d.stopEdit = false →
      Completes .tCut s (fun t => now t = max t0 (now s) ∧ t.edit.st = .cutOver ∧ t.edit.tCut = some t0 ∧
        t.edit.until_ = some (t0 + 60000000000) ∧ t.edit.old = some live ∧ t.edit.toSwitch = d.affected ∧
        t.mode.exec = .run ∧ cutDecl t = none)) ∧
    (∀ p, cutDecl s = some (true, t0) → s.edit.old = some p → Completes .tCut s (fun t => now t = max t0 (now s) ∧
      t.edit.st = .rolledBack ∧ t.edit.tCut = some t0 ∧ t.edit.until_ = none ∧ cutDecl t = none)))

/-- FORCE enters a point, or replaces its value and keeps its time; RELEASE removes the points its session may release.
PAIR_CLEAR, GROUP_CUT_RESET, AO_CHANNEL_RESET and REFLEX_RESET reset what they name. HART_PASSTHROUGH starts a pass,
TX_CANCEL empties a buffer, PORT_RESTART starts a bus-off recovery. NETWORK_SET and FIREWALL_SET take settings;
BUOY_EXCHANGE puts a socket in EXCHANGE. -/
def Obligations.IoCommands : Prop :=
  ∀ (q : Req) (rest : List Req) (s : State),
    (∀ k i : Nat, Served 0x0401 q rest s → Alone q s → k = ptKind (arg q 0) → i = ptIndex (arg q 0) → s.mode.exec ≠ .safe →
      pointOk s k i = true → (k ≤ 2 → arg q 1 ≤ 1) → (pointVital s k i = true → q.role = .engineer) →
      (∀ f, forceAt s k i = some f → Replies .force q 0 s (fun d t => d = forceCount t :: words64 f.ts ∧
        forceAt t k i = some { kind := k, index := i, value := argW q 1, ts := f.ts, vital := pointVital s k i } ∧
        t.fab.forces.length = s.fab.forces.length ∧ OnlyIn (logBlocks ++ [.fab, .mode]) (taken rest s) t)) ∧
      (forceAt s k i = none → s.fab.forces.length < 256 →
        (pointVital s k i = true → (s.fab.forces.filter ForcePoint.vital).length < 64) → Replies .force q 0 s (fun d t =>
          d = forceCount t :: words64 (now s) ∧ t.fab.forces = s.fab.forces ++
            [{ kind := k, index := i, value := argW q 1, ts := now s, vital := pointVital s k i }] ∧
          OnlyIn (logBlocks ++ [.fab, .mode]) (taken rest s) t))) ∧
    (Served 0x0402 q rest s → Alone q s → (arg q 0 = fullW ∧ s.fab.forces.any (mayRelease q) = true ∨ arg q 0 ≠ fullW ∧
      ∃ f, forceAt s (ptKind (arg q 0)) (ptIndex (arg q 0)) = some f ∧ mayRelease q f = true) →
      Replies .release q 0 s (fun d t => d = [forceCount t] ∧
        t.fab.forces = s.fab.forces.filter (fun f => !releaseOf q f) ∧
        OnlyIn (logBlocks ++ [.fab, .mode]) (taken rest s) t)) ∧
    (Served 0x0404 q rest s → Alone q s → (pointVital s 1 0 = true → q.role = .engineer) → pairsNamed q s ≠ [] →
      s.rfx.proof = false → Replies .pairClear q 0 s (fun _ t => (∀ k ∈ pairsNamed q s, pairOf t k =
        if (pairCfg s k).en && pairReset (pairCfg s k) (diDeb s (2 * k)) (diDeb s (2 * k + 1)) then {}
        else { pairOf s k with clearPend := true }) ∧ OnlyIn (logBlocks ++ [.dio, .rfx]) (taken rest s) t)) ∧
    (∀ g, Served 0x0405 q rest s → Alone q s → arg q 0 = g → g < 4 → s.mode.exec ≠ .safe → (dgrpOf s g).safe = false →
      (dgrpOf s g).latched ≠ 0 → (∀ i, i < 8 → s.dio.line.getLsbD (8 * g + i) = false ∧ doCmd s (8 * g + i) = false) →
      Replies .groupCutReset q 0 s (fun d t => d = [] ∧ dgrpOf t g = { dgrpOf s g with latched := 0 } ∧
        (∀ j, j ≠ g → dgrpOf t j = dgrpOf s j) ∧ OnlyIn (logBlocks ++ [.dio]) (taken rest s) t)) ∧
    (∀ n, Served 0x0407 q rest s → arg q 0 = n → n < 8 → (loOf s n).comp = false →
      ((loOf s n).rbFault = true ∨ (loOf s n).latchedSafe = true) → Replies .aoChannelReset q 0 s (fun d t =>
        d = [bitF (loOf s n).rbFault 0 ||| bitF (loOf s n).latchedSafe 1] ∧ (loOf t n).rbFault = false ∧
        (loOf t n).latchedSafe = false ∧ OnlyIn [.loop] (taken rest s) t)) ∧
    (∀ n c : Nat, Served 0x0408 q rest s → n = arg q 0 % 16 → c = arg q 0 / 256 % 256 → hartRuns s n = true →
      (if hartRead c then s.mode.power = .normal else s.mode.exec = .stop ∧ q.role = .engineer) →
      longBusy s 0x0408 = false → (hartOf s n).pass = none → Waits .hartPassthrough s (fun t =>
        hartOf t n = { hartOf s n with
          pass := some { req := q, cmd := c, data := (wordsBytes (q.args.drop 1)).take (arg q 0 / 2 ^ 16 % 256), write := !hartRead c }
          nextTs := now s } ∧ t.kp.long = s.kp.long ++ [{ req := q }] ∧ OnlyIn [.kp, .loop] s t)) ∧
    (∀ rel held : Word, Served 0x0409 q rest s → rel = s.rfx.held &&& ~~~(s.rfx.termDiff ||| s.rfx.laneDiff) →
      held = s.rfx.held &&& ~~~rel → Replies (.reflexReset true) q (if held = 0 then 0 else 0x0304) s (fun d t =>
        d = [rel, held] ∧ t.rfx.held = held ∧ t.rfx.cfgFault = false)) ∧
    (∀ n b : Nat, n = arg q 0 % 4 → b = arg q 0 / 256 → (portOf s n).configured = true →
      (Served 0x0C02 q rest s → (txOf s n b).st ≠ .idle → (txOf s n b).st ≠ .onBus → Replies .txCancel q 0 s (fun d t =>
        d = [] ∧ txOf t n b = { lastSeq := (txOf s n b).lastSeq } ∧ (∀ j, j ≠ b → txOf t n j = txOf s n j) ∧
        OnlyIn (logBlocks ++ [.can]) (taken rest s) t)) ∧
      (Served 0x0C03 q rest s → arg q 0 < 4 → (portOf s n).st = .busOff → Replies .portRestart q 0 s (fun d t => d = [] ∧
        portOf t n = { portOf s n with recovering := true, byCommand := true } ∧
        (∀ j, j ≠ n → portOf t j = portOf s j) ∧ OnlyIn [.can] (taken rest s) t))) ∧
    (Served 0x0D01 q rest s → maskOk (argW q 1) = true →
      (argW q 2 = 0 ∨ argW q 2 &&& argW q 1 = argW q 0 &&& argW q 1) → Replies .networkSet q 0 s (fun d t => d = [] ∧
        t.net = { s.net with next := { ip := argW q 0, mask := argW q 1, gw := argW q 2, vlanBeam := arg q 3 / 65536, vlanMgmt := arg q 3 % 65536, diagNode := arg q 4 } } ∧
        OnlyIn [.net, .nvm] (taken rest s) t)) ∧
    (∀ ws l, Served 0x0D02 q rest s → Transferred 4 q ws s → fwTable ws = some l → Replies .firewallSet q 0 s (fun d t =>
      d = [fwTableId s.net.fw, fwTableId l] ∧ t.net = { s.net with fw := l } ∧ t.kp.transfer = none ∧
      OnlyIn (logBlocks ++ [.net, .kp]) s t)) ∧
    (∀ b, Served 0x0E02 q rest s → arg q 0 = b → b < 3 → s.mode.maint = true → aimConflict q s = false →
      (sockOf s b).exch = false → Replies .buoyExchange q 0 s (fun d t => d = [] ∧ (sockOf t b).exch = true ∧
        (sockOf t b).oldSerial = (sockOf s b).serial ∧ ∀ j, j ≠ b → sockOf t j = sockOf s j))

/-- TIME_SETTINGS waits for the next reset; TIME_STEP writes TS64 and answers the old one. SCHEDULE takes the free slot
(model choice: freed or ended slots are taken again); SCHEDULE_CANCEL empties a waiting one. RTC_SET, WEEKDAY_SET,
RTC_SHIFT, ALARM_SET, ALARM_CLEAR and BACKUP_RECORD_CLEAR write the clock's fields. -/
def Obligations.TimeCommands : Prop :=
  ∀ (q : Req) (rest : List Req) (s : State),
    (Served 0x0602 q rest s → Replies .timeSettings q 0 s (fun d t => d = [] ∧
      t.time = { s.time with ptpNext := argW q 0 ||| (argW q 1 <<< 16), slewNext := arg q 2, winNext := arg q 3 } ∧
      OnlyIn [.time, .nvm] (taken rest s) t)) ∧
    (Served 0x0603 q rest s → stepAllowed s = true → Replies .timeStep q 0 s (fun d t => d = words64 (now s) ∧
      now t = arg q 0 + arg q 1 * 2 ^ 32 ∧ t.time.stepCnt = satInc s.time.stepCnt ∧ t.time.mono = s.time.mono ∧
      OnlyIn (logBlocks ++ [.time, .sec]) (taken rest s) t)) ∧
    (∀ k, Served 0x0604 q rest s → Alone q s → schFree s = some k → now s ≤ schTime q →
      (arg q 0 % 4 = 1 → (twinOn s = true → now s + 2000000 ≤ schTime q) → isOperator q = true →
        Replies .schedule q 0 s (fun d t => d = [w32 k, 0] ∧
          schOf t k = { ts := schTime q, kind := 1, task := arg q 0 / 256, st := 1, ident := q.ident } ∧
          (∀ j, j ≠ k → schOf t j = schOf s j) ∧ OnlyIn [.time] (taken rest s) t)) ∧
      (∀ c, arg q 0 % 4 = 2 → c = storedReq q k → notStored c.opcode = false → c.len = q.len - 4 → headerOk c = true →
        roleOk c = true → Replies .schedule q 0 s (fun d t => d = [w32 k, 0] ∧
          schOf t k = { ts := schTime q, kind := 2, task := arg q 0 / 256, st := 1, ident := q.ident, cmd := some c } ∧
          (∀ j, j ≠ k → schOf t j = schOf s j) ∧ OnlyIn [.time] (taken rest s) t))) ∧
    (∀ k, Served 0x0605 q rest s → Alone q s → arg q 0 = k → (schOf s k).st = 1 →
      ((schOf s k).ident = q.ident ∨ q.role = .engineer) → Replies .scheduleCancel q 0 s (fun d t => d = [] ∧
        schOf t k = {} ∧ (∀ j, j ≠ k → schOf t j = schOf s j) ∧ OnlyIn [.time] (taken rest s) t)) ∧
    (Served 0x0607 q rest s → calOk (calWords (arg q 0) (arg q 1)) = true → timeQualified s = false →
      Replies .rtcSet q 0 s (fun d t => d = [] ∧ t.rtc = { s.rtc with cal := calWords (arg q 0) (arg q 1), sub := 0, acc := 0, secLen := 32768, valid := true } ∧
        OnlyIn (logBlocks ++ [.rtc]) (taken rest s) t)) ∧
    (Served 0x0608 q rest s → Replies .weekdaySet q 0 s (fun d t => d = [] ∧ t.rtc = { s.rtc with wday := arg q 0 } ∧
      OnlyIn (logBlocks ++ [.rtc]) (taken rest s) t)) ∧
    (Served 0x0609 q rest s → (signed16 (arg q 0)).natAbs ≤ 16384 → s.rtc.shift = none → Replies .rtcShift q 0 s (fun d t =>
      d = [] ∧ t.rtc = { s.rtc with shift := some (signed16 (arg q 0)), quiet := false } ∧ OnlyIn [.rtc] (taken rest s) t)) ∧
    (∀ k, arg q 0 = k → k < 2 →
      (Served 0x060A q rest s → alarmPossible (alarmOf q) = true → Replies .alarmSet q 0 s (fun d t => d = [] ∧
        tabGet {} t.rtc.alms k = { alarmOf q with notIn := some s.rtc.cal } ∧
        (∀ j, j ≠ k → tabGet {} t.rtc.alms j = tabGet ({} : Alarm) s.rtc.alms j) ∧ OnlyIn [.rtc] (taken rest s) t)) ∧
      (Served 0x060B q rest s → Replies .alarmClear q 0 s (fun d t => d = [] ∧
        tabGet {} t.rtc.alms k = { tabGet ({} : Alarm) s.rtc.alms k with fired := false, onBackup := false } ∧
        (∀ j, j ≠ k → tabGet {} t.rtc.alms j = tabGet ({} : Alarm) s.rtc.alms j) ∧ OnlyIn [.rtc] (taken rest s) t))) ∧
    (Served 0x060C q rest s → Replies .backupRecordClear q 0 s (fun d t => d = [w32 s.rtc.bkpCnt] ∧
      t.rtc = { s.rtc with bkpCnt := 0, firstValid := false } ∧ OnlyIn (logBlocks ++ [.rtc]) (taken rest s) t))

/-- PTP messages show a port's reference and are sent by it. A candidate stable for 2 s is qualified, and a lost one is
not. A switch that ends below 1 us selects its target. A scheduled action executes at its time, or is refused as past
its window. RTC alarms fire in a matching second, a shift alters one second, the keeper corrects the clock every 60 s,
the supply switches to a backup source, and the hour rolls over. -/
def Obligations.TimeReferencesAndRtcEvents : Prop :=
  (∀ (p : Nat) (m : PtpMsg) (s : State), s.time.ptpCfg.toNat % 4 ≠ 0 → p < 2 → ethHeld s = false →
    (m.kind = .announce → Completes (.ptpMessage p m) s (fun t => (candOf t p).present = true ∧ (candOf t p).gm = m.gm ∧
      (candOf t p).clockClass = m.clockClass ∧ (candOf t p).annTs = now s ∧ (candOf t p).annIv = m.interval)) ∧
    (m.kind = .sync → Completes (.ptpMessage p m) s (fun t => (candOf t p).present = true ∧
      (candOf t p).syncTs = now s ∧ (candOf t p).syncIv = m.interval)) ∧
    (∀ kind : Nat, (netPort s p).link = true → (ptpMaster s p = true ∨ (candOf s p).present = true) →
      Completes (.ptpSend p kind) s (fun t => (candOf t p).master = ptpMaster s p ∧
        t.out = s.out ++ [{ kind := .ptp, dest := p, args := [if ptpMaster s p then (if kind = 0 then 0 else 1) else 2, now s] }] ∧
        (netPort t p).txCnt = satInc (netPort s p).txCnt ∧ OnlyIn [.time, .net, .out] s t))) ∧
  (∀ (k : Nat) (s : State), k < 3 → (candOf s k).stable = true →
    ((candOf s k).qual = false → Completes (.timeRefQualified k) s (fun t => (candOf t k).qual = true)) ∧
    (∀ cause : Nat, (candOf s k).qual = true → Completes (.timeRefLost k cause) s (fun t => (candOf t k).qual = false ∧
      (candOf t k).stable = false ∧ t.time.disqualCnt = satInc s.time.disqualCnt))) ∧
  (∀ (off : Int) (s : State), s.time.switching = true → off.natAbs < 1000 → s.time.target < 3 →
    Completes (.timeSwitchDone off) s (fun t => t.time.selected = s.time.target ∧ t.time.switching = false ∧
      t.time.ratePpb = 0 ∧ t.time.seeded = false ∧ t.time.offset = off ∧ OnlyIn (logBlocks ++ [.time]) s t)) ∧
  (∀ (t0 : Nat) (s : State), s.twin.offHigh = some t0 → s.twin.offTold = false → Completes .timeOffsetHigh s (fun t =>
    now t = max (t0 + 10000000) (now s) ∧ t.twin = { s.twin with offTold := true } ∧
    OnlyIn (logBlocks ++ [.twin, .time, .rtc]) s t)) ∧
  (∀ (k : Nat) (s : State), schNext s = some k →
    let late := now s - (schOf s k).ts
    (s.time.lateWin * 1000 < late → Completes .scheduledAction s (fun t => schOf t k = { schOf s k with
      st := 3, outcome := 0x0305, lateNs := late } ∧ t.time.schPast = satInc s.time.schPast ∧
      OnlyIn (logBlocks ++ [.time]) s t)) ∧
    (late ≤ s.time.lateWin * 1000 → (schOf s k).kind = 1 → Completes .scheduledAction s (fun t =>
      now t = max (schOf s k).ts (now s) ∧ schOf t k = { schOf s k with
        st := 2, outcome := if late = 0 then 0 else 0x0101, lateNs := late }))) ∧
  (∀ s : State, s.rtc.stopped = false →
    (∀ k, k < 2 → (tabGet ({} : Alarm) s.rtc.alms k).en = true →
      alarmMatch (tabGet {} s.rtc.alms k) s.rtc.cal s.rtc.wday = true →
      (tabGet ({} : Alarm) s.rtc.alms k).notIn ≠ some s.rtc.cal → Completes (.rtcAlarm k) s (fun t =>
        (tabGet ({} : Alarm) t.rtc.alms k).fired = true ∧
        (tabGet ({} : Alarm) t.rtc.alms k).onBackup = (s.rtc.supply != 0) ∧ OnlyIn (logBlocks ++ [.rtc]) s t)) ∧
    (∀ k, s.rtc.shift = some k → Completes .rtcShiftApply s (fun t => t.rtc.shift = none ∧
      t.rtc.secLen = (32768 - k).toNat ∧ now t = now s + toBoundary s.rtc ∧
      OnlyIn (logBlocks ++ [.time, .rtc]) s t)) ∧
    (timeQualified s = true → Completes .rtcKeeperCorrection s (fun t =>
      t.rtc.corrTs = max (s.rtc.corrTs + 60000000000) (now s) ∧ OnlyIn [.time, .rtc] s t)) ∧
    Completes .rtcHourRollover s (fun t => t.rtc.cal.hour = 0 ∧ t.rtc.cal.min = 0 ∧ t.rtc.cal.sec = 0 ∧
      OnlyIn [.time, .rtc] s t)) ∧
  (∀ (sup mv : Nat) (s : State),
    ((sup = 1 ∨ sup = 2) → s.rtc.supply ≠ sup → Completes (.rtcBackupSwitch sup) s (fun t => t.rtc.supply = sup ∧
      t.rtc.bkpCnt = min 65535 (s.rtc.bkpCnt + 1) ∧ t.rtc.firstValid = true ∧
      (s.rtc.firstValid = false → t.rtc.firstCal = s.rtc.cal ∧ t.rtc.firstSub = s.rtc.sub) ∧ OnlyIn [.rtc] s t)) ∧
    Completes (.rtcCellLow mv) s (fun t => t.rtc = { s.rtc with cellMv := mv, cellLow := decide (mv < 2600) } ∧
      OnlyIn (logBlocks ++ [.rtc]) s t))

/-- RECORDER_READ fills the batch with the records asked for. CLEAR_PREPARE gives a token of free value, and CLEAR_CONFIRM
with it clears the recorder. RETAIN_SNAPSHOT waits for its snapshot. ENROLL_REQUEST, ENROLL_INSTALL,
OWNER_CERT_INSTALL and KEY_ROTATE change what the lamp room holds. FW_WRITE fills the inactive slot and ACTIVATE stops
the keeper for the change of slot. -/
def Obligations.RecorderSecurityAndFirmwareCommands : Prop :=
  ∀ (q : Req) (rest : List Req) (s : State),
    (∀ m, Served 0x0701 q rest s → longBusy s 0x0701 = false → q.origin = .host m → m < 8 →
      (∀ x ∈ recHeld s, x.1 = none) → Waits .recorderRead s (fun t =>
        let l := recFit (arg q 1) 4096 ((recHeld s).filter fun x => seqGe x.2.seq (oldestSeq s) &&
          (!seqGe (arg q 0) (oldestSeq s) || seqGe x.2.seq (arg q 0)))
        (mbxOf t m).batch = l.flatMap (fun x => recBytesOf x.2) ∧
        (∃ a b, t.kp.long = s.kp.long ++ [{ req := q, done := true, rc := 0, data := [w32 l.length, a, b, w32 (oldestSeq s), bitF (!seqGe (arg q 0) (oldestSeq s)) 0, w32 (mbxOf t m).batch.length] }]) ∧
        OnlyIn [.kp, .free, .rcd] s t)) ∧
    (∀ m, Served 0x0702 q rest s → q.origin = .host m → s.sec.trng = .running → Replies .clearPrepare q 0 s (fun d t =>
      d = [Config.freeWord s.free, 30] ∧ t.kp.token = some (Config.freeWord s.free, m, now s + 30000000000) ∧
      OnlyIn [.kp, .free] s t)) ∧
    (Served 0x0703 q rest s → tokenOk q s = false → Replies .clearConfirm q 0x0303 s (fun d t => d = [] ∧
      t.kp.token = none ∧ OnlyIn [.kp] s t)) ∧
    (Served 0x0703 q rest s → tokenOk q s = true → s.rcd.degraded = false → Replies .clearConfirm q 0 s (fun d t =>
      d = [w32 s.rcd.nextSeq] ∧ t.kp.token = none ∧ t.rcd.floor = s.rcd.nextSeq ∧
      t.rcd.clearCnt = satInc s.rcd.clearCnt ∧ (∀ r ∈ t.rcd.ring, seqGe r.rcd.seq s.rcd.nextSeq = true) ∧
      OnlyIn (logBlocks ++ [.kp]) s t)) ∧
    (Served 0x0802 q rest s → scanning s = true → anyRetain s = true → Waits .retainSnapshot s (fun t =>
      (∃ w, t.nvm.snapWait = some w ∧ q ∈ w.reqs) ∨
      (∃ c, t.nvm.capture = some c ∧ q ∈ c.reqs ∧ c.ts = now s ∧ retainReady s = true))) ∧
    (∀ csr key, Served 0x0902 q rest s → scanning s = false → longBusy s 0x0902 = false → s.sec.trng = .running →
      Waits (.enrollRequest csr key) s (fun t => t.sec = { s.sec with pendNode := some (arg q 0), pendKey := key } ∧
        (∀ m, q.origin = .host m → m < 8 → (mbxOf t m).batch = csr.take 4096) ∧
        t.kp.long = s.kp.long ++ [{ req := q, done := true, rc := 0, data := [w32 (csr.take 4096).length] }] ∧
        OnlyIn (logBlocks ++ [.kp, .sec]) s t)) ∧
    (∀ key node domain canRole ws, Served 0x0903 q rest s → scanning s = false → Transferred 5 q ws s →
      s.sec.pendNode = some node → s.sec.pendKey = key → canRole ≤ 2 →
      Replies (.enrollInstall true key node (some (domain, canRole))) q 0 s (fun d t => d = [w32 node] ∧
        t.id.nodeNext = some node ∧ t.sec.enrolled = true ∧ t.sec.domainId = domain ∧ t.sec.canRole = canRole ∧
        t.sec.canEpoch = 1 ∧ counterGet t 7 = 1 ∧ counterGet t 8 = 1 ∧ t.kp.transfer = none ∧
        OnlyIn (logBlocks ++ [.kp, .id, .sec, .beam]) s t)) ∧
    (∀ hash ok lock ws, Served 0x0904 q rest s → s.mode.exec = .stop → s.sec.claimFails < 5 → Transferred 6 q ws s →
      Replies (.ownerCertInstall hash ok lock) q (if ok then 0 else 0x0303) s (fun d t => d = [] ∧
        t.kp.transfer = none ∧ (ok = false → t.sec = { s.sec with claimFails := s.sec.claimFails + 1 }) ∧
        (ok = true → t.sec.owned = true ∧ t.sec.ownerHash = hash ∧ t.sec.ownerLock = lock ∧
          t.sec.vsLock = (s.sec.vsLock || lock) ∧ (s.sec.owned = true → t.sec.enrolled = false ∧
            t.sec.domainKey = false ∧ t.sec.canKey = false ∧ t.id.nodeNext = some 0)) ∧
        OnlyIn (logBlocks ++ [.kp, .id, .sec]) s t)) ∧
    (Served 0x0905 q rest s → Alone q s →
      (arg q 0 = 1 → q.origin ≠ .partner → counterGet s 7 < 0xFFFF → counterGet s 8 < 0xFFFF →
        Replies .keyRotate q 0 s (fun d t => d = [w32 (counterGet s 7 + 1)] ∧ counterGet t 7 = counterGet s 7 + 1 ∧
          counterGet t 8 = counterGet s 8 + 1 ∧ OnlyIn logBlocks (taken rest s) t)) ∧
      (arg q 0 ≠ 1 → s.sec.canEpoch < 0xFFFF → Replies .keyRotate q 0 s (fun d t => d = [w32 (s.sec.canEpoch + 1)] ∧
        t.sec = { s.sec with canEpoch := s.sec.canEpoch + 1, canLast := 0 } ∧
        OnlyIn (logBlocks ++ [.sec]) (taken rest s) t))) ∧
    (∀ sign signer ws, Served 0x0A01 q rest s → longBusy s 0x0A01 = false → Transferred 3 q ws s →
      fwCheck q ws sign .good s = none → Waits (.fwWrite sign .good signer true) s (fun t =>
        fwInactive t = fwSlotOf ws sign (fwActive s) ∧ fwActive t = fwActive s ∧ t.fw.active = s.fw.active ∧
        t.fw.inactiveValid = true ∧ t.kp.long = s.kp.long ++ [{ req := q, done := true, rc := 0, data := [(fwInactive t).keeperVer, w32 (fwInactive t).imageType] }] ∧
        OnlyIn (logBlocks ++ [.kp, .fw]) s t)) ∧
    (Served 0x0A02 q rest s → activateMode s = true → (q.role = .vendorService → (fwInactive s).countersigned = true) →
      longBusy s 0x0A02 = false → s.fw.inactiveValid = true →
      (twinOn s = true → inR (fwInactive s).protoMin s.twin.proto (fwInactive s).protoMax = true) →
      Waits .activate s (fun t => t.fw = { s.fw with activating := true } ∧ t.kp.ready = false ∧
        t.kp.restart = some (.activate, now s) ∧ { req := q } ∈ t.kp.long))

/-- A page that reads back leaves its set, one that does not is tried again; a completed append leaves the staging buffer.
RECORDER_FLUSH commits after 1 s, EVR_SUPPRESSED checks every 100 ms, OPERATING_S_COMMIT counts 600 s, NVM_RECOVERED
readies the array. TRNG failures hold, restore or answer requests. FUSE_READ keeps its counts, and ROLLBACK_ADVANCED
burns the counters up to the running image. -/
def Obligations.NvmAndLampRoomEvents : Prop :=
  (∀ (p i : Nat) (j : NvmJob) (s : State), jobAt s p = some i → s.nvm.jobs[i]? = some j →
    (∀ pages, pages = j.pages.filter (fun x => x.1 != p) → pages ≠ [] → Completes (.pageCommit p true) s (fun t =>
      t.nvm = { s.nvm with commitCnt := satInc s.nvm.commitCnt, jobs := s.nvm.jobs.set i { j with pages := pages } } ∧
      OnlyIn [.nvm] s t)) ∧
    (∀ n, j.work = .append n → j.pages.filter (fun x => x.1 != p) = [] → Completes (.pageCommit p true) s (fun t =>
      t.rcd.staged = s.rcd.staged.drop n ∧ t.nvm.commitCnt = satInc s.nvm.commitCnt ∧ OnlyIn [.nvm, .rcd] s t)) ∧
    (((j.pages.find? fun x => x.1 == p).map Prod.snd).getD 0 < 2 → Completes (.pageCommit p false) s (fun t =>
      t.nvm.retryCnt = satInc s.nvm.retryCnt ∧ t.nvm.jobs.length = s.nvm.jobs.length ∧ OnlyIn [.nvm] s t))) ∧
  (∀ (t0 : Nat) (s : State), s.rcd.stagedTs = some t0 → s.rcd.committing = 0 → s.rcd.staged ≠ [] →
    s.rcd.degraded = false → Completes .recorderFlush s (fun t => now t = max (t0 + 1000000000) (now s) ∧
      t.rcd.committing = s.rcd.staged.length ∧ (∃ j ∈ t.nvm.jobs, j.work = .append s.rcd.staged.length) ∧
      OnlyIn [.rcd, .nvm, .time, .rtc] s t)) ∧
  (∀ (code : Nat) (b : Bucket) (s : State), s.rcd.buckets = [(code, b)] → s.watch.isOpen = false → 0 < b.suppressed →
    b.summaryTs + 60000000000 ≤ now s → Completes .evrSuppressed s (fun t =>
      now t = (now s + 99999999) / 100000000 * 100000000 ∧ t.rcd.summaryCnt = satInc s.rcd.summaryCnt ∧
      (∃ x, t.rcd.buckets = [(code, x)] ∧ x.suppressed = 0) ∧ OnlyIn (logBlocks ++ [.time, .rtc]) s t)) ∧
  (∀ (t0 : Nat) (s : State), s.nvm.snapDue = some t0 →
    (scanning s = false → Completes .periodicSnapshotDue s (fun t => now t = max t0 (now s) ∧ t.nvm.snapDue = none ∧
      OnlyIn (logBlocks ++ [.time, .rtc]) s t)) ∧
    (scanning s = true → s.mode.power ≠ .saving → s.img.isSome = true → Completes .periodicSnapshotDue s (fun t =>
      now t = max t0 (now s) ∧ ((∃ w, t.nvm.snapWait = some w ∧ 3 ≤ w.kind) ∨
        ∃ c, t.nvm.capture = some c ∧ 3 ≤ c.kind ∧ c.ts = now t)))) ∧
  (∀ s : State, Completes .operatingSCommit s (fun t => counterGet t 0 = counterGet s 0 + 600 ∧
    t.nvm.operAt = s.nvm.operAt + 600000000000 ∧ t.time.mono = max t.nvm.operAt s.time.mono ∧
    (∀ c, c ≠ 0 → counterGet t c = counterGet s c))) ∧
  (∀ (fates : List (Option Bool)) (bad : List Nat) (s : State), s.clk.root = true → s.nvm.ready = false →
    Completes (.nvmRecovered fates bad) s (fun t => t.nvm.ready = true ∧ t.nvm.capture = none ∧ t.nvm.zeroing = false ∧
      (∀ c ∈ bad, counterGet t c = 0 ∧ (tabGet {} t.nvm.counters c : CounterRing).valid = false))) ∧
  (∀ (test : Nat) (f : List Nat) (s : State), s.sec.trng ≠ .stopped →
    f = s.sec.trngFails.filter (fun t => decide (now s < t + 3600000000000)) ++ [now s] →
    Completes (.trngFail test) s (fun t => t.sec.trngFails = f ∧ t.sec.trngFailTs = now s ∧
      (f.length < 3 → t.sec.trng = .failed ∧ t.sec.trngWait = s.sec.trngWait ∧ OnlyIn (logBlocks ++ [.sec]) s t) ∧
      (3 ≤ f.length → t.sec.trng = .stopped ∧ t.sec.trngWait = []))) ∧
  (∀ s : State, s.sec.trng = .failed ∨ s.sec.trng = .startup → Completes .trngRestored s (fun t =>
    t.sec.trng = .running ∧ t.sec.trngWait = [] ∧ t.kp.queue = s.sec.trngWait ++ s.kp.queue ∧
    OnlyIn (logBlocks ++ [.sec, .kp]) s t)) ∧
  (∀ s : State, s.sec.trng = .failed → Completes .trngHoldExpiry s (fun t =>
    now t = max (s.sec.trngFailTs + 50000000) (now s) ∧ t.sec.trngWait = [] ∧
    t.sec.trngFailedReqs = s.sec.trngFailedReqs + s.sec.trngWait.length)) ∧
  (∀ (ws : List (Nat × Nat × List Word)) (temp : Int) (s : State), Completes (.fuseRead ws temp) s (fun t =>
    t.sec.margCount = (ws.filter fun y => fuseMarginal y.2).length ∧ t.sec.margTs = now s ∧
    (∀ y ∈ ws, (y.1 = 0 → 0 < fuseAny y.2.2 → t.sec.debugLock = true) ∧
      (y.1 = 3 → 0 < fuseAny y.2.2 → t.sec.vsLock = true) ∧ (y.1 = 1 → fuseAny y.2.2 ≤ t.sec.svnKeeper) ∧
      (y.1 = 2 → fuseAny y.2.2 ≤ t.sec.svnLroom) ∧ (3 < y.1 → fuseMarginal y.2 = true → t.sec.margHold = true) ∧
      (fuseMarginal y.2 = true → y.2.1 ∈ t.sec.margSeen)) ∧ OnlyIn (logBlocks ++ [.sec]) s t)) ∧
  (∀ (x : Nat) (s : State), s.fw.trial = some x → s.kp.ready = true → Completes .rollbackAdvanced s (fun t =>
    now t = max (s.fw.runSince + 3600000000000) (now s) ∧ t.fw.trial = none ∧ t.fw.active = s.fw.active ∧
    t.sec.svnKeeper = max s.sec.svnKeeper (fwActive s).svnK ∧ t.sec.svnLroom = max s.sec.svnLroom (fwActive s).svnL ∧
    OnlyIn (logBlocks ++ [.fw, .sec, .time, .rtc]) s t)) ∧
  (∀ s : State, exec .lampRoomRestart s = .next s)

/-- POWER_UP and a reset return the module to STOP with its cause kept; ROOT_PLL_LOCK starts the clocks and seeds TS64, a
timeout tries again after 100 ms. BOOT_VERIFIED starts the keeper from a slot that passes, else the module is held.
Supervisor faults enter SAFE. The watchdog takes kicks, expires and resets. A feed is lost, restored or disconnected;
RIDE_THROUGH and SAVING follow, and POWER_DOWN_DONE turns the module off. -/
def Obligations.PowerResetsAndClocks : Prop :=
  (∀ (off : Nat) (lost brown supA supB : Bool) (s : State), Completes (.powerUp off lost brown supA supB) s (fun t =>
    now t = now s + off ∧ t.mode.exec = .stop ∧ t.mode.held = !(supA && supB) ∧ t.kp.ready = false ∧ t.kp.queue = [] ∧
    t.clk.root = false ∧ t.img = s.img ∧ t.rcd.staged = s.rcd.staged.take s.rcd.committing ∧ t.nvm.operAt = t.time.mono ∧
    t.wdg.cause = (if s.mode.held && s.mode.causeOpen then 6 else if brown then 1 else 0) ∧ t.pwr.off = false)) ∧
  (∀ s : State, clocksMay s = true → s.clk.root = false →
    Completes .rootPllLock s (fun t => now t = seedTs s ∧ t.time.seeded = true ∧ t.time.seedInvalid = !s.rtc.valid ∧
      t.time.selected = 3 ∧ t.clk = { s.clk with root := true, periph := true, tcxo := true, rc := true, xtal := !s.rtc.stopped } ∧
      t.wdg.monOk = true ∧ OnlyIn [.clk, .wdg, .time] s t) ∧
    Completes .pllLockTimeout s (fun t => now t = max (s.clk.pllTs + 100000000) (now s) ∧ t.clk.pllTs = now t ∧
      t.wdg.cause = 6 ∧ t.wdg.rstPend = s.wdg.rstPend + 1 ∧ OnlyIn [.clk, .wdg, .time, .rtc] s t)) ∧
  (∀ (a b : Option (Nat × Nat)) (ring : Bool) (tag : Option Word) (s : State), s.clk.root = true → s.nvm.ready = true →
    s.kp.ready = false → s.kp.restart = none → clocksMay s = true → s.wdg.supA = true → s.wdg.supB = true →
    (slotRefusal (fwActive s) (if s.fw.active then b else a) s = none → Completes (.bootVerified a b ring tag) s (fun t =>
      t.kp.ready = true ∧ t.kp.epoch = (s.kp.epoch + 1) % 2 ^ 32 ∧ t.fw.active = s.fw.active ∧ t.mode.startDone = true ∧
      t.wdg.window = .boot ∧ t.wdg.deadline = now s + 2000000000 ∧ now t = now s)) ∧
    (slotRefusal (fwActive s) (if s.fw.active then b else a) s ≠ none →
      slotRefusal (fwInactive s) (if s.fw.active then a else b) s ≠ none →
      exec (.bootVerified a b ring tag) s = .next { s with mode := { s.mode with held := true } })) ∧
  (∀ (cause : Nat) (s : State), 1 ≤ cause → cause ≤ 6 → s.pwr.off = false → s.mode.held = false →
    Completes (.moduleReset cause) s (fun t => now t = now s ∧ t.mode.exec = .stop ∧ t.mode.maint = false ∧
      t.mode.safeLatched = s.mode.safeLatched ∧ t.mode.skipStart = decide (cause = 5) ∧ t.kp.ready = false ∧
      t.kp.queue = [] ∧ t.kp.sessions = [] ∧ t.wdg.cause = cause ∧ t.wdg.rstTs = now s ∧ t.img = s.img ∧
      t.nvm.counters = s.nvm.counters)) ∧
  (∀ (t0 : Nat) (s : State), s.mode.safeResetAt = some t0 → Completes .safeResetDelay s (fun t =>
    now t = max t0 (now s) ∧ t.mode.exec = .stop ∧ t.mode.safeLatched = false ∧ t.wdg.cause = 5)) ∧
  (∀ s : State, s.clk.root = true →
    (∀ c, c ≤ 8 → Completes (.clockFault c) s (fun t => t.mode.exec = .safe ∧ t.mode.causeOpen = true ∧
      (c ∈ [0, 2, 3, 8] → t.mode.held = true ∧ t.kp.ready = false))) ∧
    (s.mode.held = false → Completes .keeperCoreFault s (fun t => t.mode.exec = .safe ∧ t.mode.causeOpen = true ∧
      t.mode.held = true ∧ t.kp.ready = false ∧ t.kp.restart = none)) ∧
    (∀ dev stopped, s.clk.rc = true → Completes (.rcFault dev stopped) s (fun t => t.clk.rc = false ∧
      t.clk.rcFaultCnt = satInc s.clk.rcFaultCnt ∧ (s.wdg.clkRc = true → wdgRuns s = true → s.wdg.expired = none →
        t.wdg.expired = some (now s) ∧ t.wdg.monTrip = true) ∧ OnlyIn (logBlocks ++ [.clk, .wdg]) s t))) ∧
  (∀ s : State, s.wdg.expired = none →
    (∀ w, s.kp.ready = true → w = (if s.wdg.second then 0x0000A5A5 else 0x00005A5A) → exec (.wdgKick w) s = .next { s with
      wdg := { s.wdg with second := !s.wdg.second, kickCnt := satInc s.wdg.kickCnt, lastKick := now s, window := .timeout, deadline := now s + s.wdg.timeoutMs * 1000000 } }) ∧
    (∀ w, s.kp.ready = true → w ≠ (if s.wdg.second then 0x0000A5A5 else 0x00005A5A) →
      Completes (.wdgKick w) s (fun t => t.wdg = { s.wdg with expired := some (now s) } ∧ OnlyIn (logBlocks ++ [.wdg]) s t)) ∧
    (wdgRuns s = true → Completes .wdgExpired s (fun t => now t = max s.wdg.deadline (now s) ∧
      t.wdg = { s.wdg with expired := some (now t) } ∧ OnlyIn (logBlocks ++ [.wdg, .time, .rtc]) s t)) ∧
    (wdgRuns s = true → Completes .wdgClockStopped s (fun t => t.wdg.monTrip = true ∧ t.wdg.monOk = false ∧
      t.wdg.expired = (if s.wdg.clkRc then some (now s) else none) ∧ OnlyIn (logBlocks ++ [.wdg]) s t))) ∧
  (∀ (t0 : Nat) (s : State), s.wdg.expired = some t0 → Completes .wdgHardReset s (fun t =>
    now t = max (t0 + 1000000) (now s) ∧ t.wdg.cause = (if s.wdg.monTrip then 4 else 3) ∧ t.wdg.expired = none ∧
    t.wdg.resetCnt = satInc s.wdg.resetCnt ∧ t.mode.exec = .stop ∧ t.kp.ready = false)) ∧
  (∀ s : State, exec .rtcXtalStopped s = .next { s with clk := { s.clk with xtal := false }, rtc := { s.rtc with stopped := true } }) ∧
  (∀ (cnt ref : Word) (a b g : Nat) (s : State), s.clk.measSel = some (a, b, g) → Completes (.freqGateComplete cnt ref) s
    (fun t => now t = max (s.clk.measTs + 1000 * g) (now s) ∧ t.clk = { s.clk with measCnt := cnt, measRef := ref, measSeq := satInc s.clk.measSeq, measTs := now t } ∧
      OnlyIn [.clk, .time, .rtc] s t)) ∧
  (∀ (b : Bool) (mv : Nat) (s : State),
    ((feedOf b s).ok = true → (feedOf (!b) s).ok = true → Completes (.feedLost b mv) s (fun t =>
      feedOf b t = { feedOf b s with mv := mv, ok := false, lostTs := now s } ∧ feedOf (!b) t = feedOf (!b) s ∧
      t.pwr.lossCnt = satInc s.pwr.lossCnt ∧ OnlyIn (logBlocks ++ [.pwr]) s t)) ∧
    ((feedOf b s).ok = true → (feedOf (!b) s).ok = false → s.mode.power = .normal → s.pwr.rideTs = none →
      Completes (.feedLost b mv) s (fun t => (feedOf b t).ok = false ∧ t.mode.power = .rideThrough ∧
        t.pwr.rideTs = some (now s) ∧ counterGet t 9 = counterGet s 9 + 1)) ∧
    ((feedOf b s).ok = false → s.pwr.off = false → Completes (.feedRestored b mv) s (fun t =>
      (feedOf b t).ok = true ∧ (feedOf b t).disc = false ∧ (∀ t0, s.pwr.rideTs = some t0 → s.mode.power ≠ .saving →
        now s < t0 + 10000000 → t.mode.power = .normal ∧ t.pwr.rideTs = none) ∧
      OnlyIn (logBlocks ++ [.pwr, .mode]) s t)) ∧
    ((feedOf b s).ok = false → s.pwr.off = true → Completes (.feedRestored b mv) s (fun t =>
      (feedOf b t).ok = true ∧ t.pwr.off = false ∧ t.wdg.cause = 2)) ∧
    Completes (.feedOvervolt b mv) s (fun t => feedOf b t = { feedOf b s with mv := mv } ∧
      t.pwr.overCnt = satInc s.pwr.overCnt ∧ OnlyIn (logBlocks ++ [.pwr]) s t) ∧
    ((feedOf b s).disc = false → Completes (.feedOvervoltDisconnect b mv) s (fun t => (feedOf b t).disc = true ∧
      (feedOf b t).ok = false ∧ t.pwr.discCnt = satInc s.pwr.discCnt)) ∧
    exec (.holdupReadyChange mv) s = .next { s with pwr := { s.pwr with
      bankMv := mv, holdup := if 44000 ≤ mv then true else if mv < 43000 then false else s.pwr.holdup } }) ∧
  (∀ (t0 : Nat) (s : State), s.pwr.rideTs = some t0 → s.mode.power ≠ .saving → Completes .savingStart s (fun t =>
    t.mode.power = .saving ∧ now t = max (t0 + 10000000) (now s) ∧
    ∀ k ∈ tasksUsed s, (taskOf t k).mode = .notScanning ∧ (taskOf t k).phase = .idle)) ∧
  (∀ s : State, s.nvm.saveStage = 2 → s.nvm.capture = none → s.pwr.off = false →
    Completes .powerDownDone s (fun t => t.mode.exec = .stop ∧ t.kp.ready = false ∧ t.pwr.rideTs = none ∧
      (s.pwr.a.ok = false → s.pwr.b.ok = false → t.pwr.off = true) ∧
      (s.pwr.a.ok = true ∨ s.pwr.b.ok = true → t.pwr.off = false ∧ t.wdg.cause = 2)))

/-- TWIN_LOCK, TWIN_LOCK_LOST, BLOCK_LOCK_LOST, TWIN_SILENCE and PARTNER_INVISIBLE set the link's state. A frame out of
lock or with a bad CRC only counts. SNAPSHOT and DIGEST frames are kept, and the last one lets the cycle go on; a
deadline lets it go on without. RELINQUISH is acknowledged, ROLE_ACK ends it, SECTOR_FAIL frees the waiting tasks,
STATUS shows the partner. A frame slot sends the first eligible frame. The layout of a frame's operands is the model's
(log entry 23). -/
def Obligations.TwinLinkLocksFramesAndWaits : Prop :=
  (∀ (ns rejects proto : Nat) (s : State), s.id.variantV = true → s.twin.locked = false →
    Completes (.twinLock ns rejects proto) s (fun t => t.twin = { s.twin with lane0 := true, lane1 := true, locked := true, lockTs := now s, lastFrame := now s, silence := false, split := false, syncRej := satAdd s.twin.syncRej rejects, proto := proto } ∧
      OnlyIn (logBlocks ++ [.twin]) s t)) ∧
  (∀ (c : Instr) (s : State), s.twin.locked = true →
    (c = .twinLockLost ∨ (∃ n, n < 2 ∧ c = .blockLockLost n)) → Completes c s (fun t => t.twin.locked = false ∧
      t.twin.lockLoss = satInc s.twin.lockLoss ∧ t.mode.role = (if s.mode.role = .rejoining then .isolated else s.mode.role) ∧
      (c = .twinLockLost → t.twin.hdrErr = satAdd s.twin.hdrErr 4) ∧
      (∀ n, c = .blockLockLost n → (n = 0 → t.twin.lane0 = false) ∧ (n = 1 → t.twin.lane1 = false)) ∧
      (s.twin.rejoin.phase ≠ 0 → t.twin.rejoin.phase = 0 ∧ t.twin.rejoin.result = 5))) ∧
  (∀ s : State, twinOn s = true →
    (s.twin.silence = false → Completes .twinSilence s (fun t => now t = max (s.twin.lastFrame + 5360) (now s) ∧
      t.twin.silence = true ∧ t.twin.silenceTs = now t ∧ t.twin.decided = (s.mode.role != .assistant) ∧
      t.mode.role = s.mode.role ∧ OnlyIn (logBlocks ++ [.twin, .time, .rtc]) s t)) ∧
    (s.twin.visible = true → Completes .partnerInvisible s (fun t => now t = max (s.twin.lastSign + 20000000) (now s) ∧
      t.twin.visible = false ∧ t.twin.carry = 0 ∧ t.mode.role = s.mode.role ∧
      ((s.mode.role = .isolated ∨ (s.mode.role = .assistant ∧ s.twin.silence = true ∧ s.twin.decided = false ∧ s.twin.pend = none)) →
        t.twin.pend.map (fun p => (p.role, p.cause)) = some (.principal, 6)) ∧
      (s.mode.role = .principal → t.twin.pend = s.twin.pend) ∧
      OnlyIn (logBlocks ++ [.twin, .dio, .loop, .time, .rtc]) s t))) ∧
  (∀ (h : TwinHdr) (c : Instr) (s : State),
    ((∃ k i l y z d, c = .snapshotFrame h k i l y z d) ∨ (∃ k d, c = .digestFrame h k d) ∨ (∃ x y, c = .relinquish h x y) ∨
      (∃ x y, c = .roleAck h x y) ∨ (∃ x y, c = .sectorFail h x y) ∨ (∃ x, c = .status h x) ∨ (∃ m, c = .rejoinCtrl h m) ∨
      (∃ l, c = .rejoinData h l) ∨ (∃ m, c = .proof h m) ∨ (∃ m, c = .mailbox h m)) →
    (s.twin.locked = false → exec c s = .next { s with twin := { s.twin with hdrErr := satAdd s.twin.hdrErr h.misses } }) ∧
    (s.twin.locked = true → h.crcOk = false →
      exec c s = .next { s with twin := { s.twin with hdrErr := satAdd s.twin.hdrErr h.misses, crcErr := satInc s.twin.crcErr } })) ∧
  (∀ (h : TwinHdr) (s : State), s.twin.locked = true → h.crcOk = true →
    let shown (t : State) : Prop := t.twin.frameRx = satInc s.twin.frameRx ∧ t.twin.lastFrame = now s ∧ t.twin.lastSeq = h.seq ∧
      t.twin.silence = false ∧ t.twin.visible = true ∧ t.twin.lastSign = now s ∧ t.twin.carry = h.carry
    (∀ ts e, Completes (.roleAck h ts e) s (fun t => shown t ∧ t.twin.pend = s.twin.pend ∧ t.mode = s.mode ∧
      t.twin.relinq = s.twin.relinq.map (fun r => if r.ts = ts ∧ e = s.twin.epoch then { r with acked := true } else r) ∧
      OnlyIn [.twin, .dio] s t)) ∧
    (∀ ts e, s.mode.role = .assistant → assistHost s = false → Completes (.relinquish h ts e) s (fun t => shown t ∧
      t.twin.pend = some { role := .principal, ts := ts, cause := 1 } ∧ t.twin.decided = true ∧
      t.twin.txQ = s.twin.txQ ++ [{ cls := 1, typ := 0x0B, tag := 0, words := [ts, e] }] ∧ OnlyIn [.twin, .dio] s t)) ∧
    (∀ sec cause, proving s = false →
      (∀ k ∈ tasksUsed s, (taskCfg s k).sector = sec → (taskOf s k).phase ≠ .agree) →
      Completes (.sectorFail h sec cause) s (fun t => shown t ∧ sec ∈ t.twin.partnerFailed ∧
        (∀ x ∈ s.twin.partnerFailed, x ∈ t.twin.partnerFailed) ∧
        ∀ k, (taskOf t k).phase = if k ∈ tasksUsed s ∧ (taskCfg s k).sector = sec ∧ (taskOf s k).phase = .digest ∧
          follows s k = false then .armed else (taskOf s k).phase)) ∧
    (∀ (x : TwinStatus), Completes (.status h x) s (fun t => t.twin.partnerRole = roleOf x.role ∧
      t.twin.partnerExec = execOf x.exec ∧ t.twin.partnerPower = powerOf x.power ∧ t.twin.partnerEpoch = x.epoch ∧
      t.twin.partnerEpochTs = x.epochTs ∧ t.twin.visible = true ∧ t.twin.carry = h.carry ∧ t.twin.pathNs = x.path ∧
      (s.mode.role ≠ .rejoining → t.twin.tsOffset = x.off) ∧
      (s.mode.role = .principal → x.role = 1 → s.twin.double = false →
        (x.epochTs < s.twin.epochTs ∨ (x.epochTs = s.twin.epochTs ∧ s.twin.cfg.partnerNode < s.id.node)) →
          t.twin.double = true ∧ t.twin.pend.map (fun p => (p.role, p.cause)) = some (.isolated, 8)) ∧
      (s.mode.role = .assistant → s.twin.partnerRole = .principal → x.role = 3 → s.twin.pend = none →
        t.twin.pend.map (fun p => (p.role, p.cause)) = some (.principal, 11)))) ∧
    (∀ (k idx cycle t0 : Nat) (last : Bool) (d : List Byte), k < 16 →
      ((taskOf s k).phase ≠ .agree → Completes (.snapshotFrame h k idx last cycle t0 d) s (fun t => shown t ∧
        (idx, d) ∈ (twOf t k).frames ∧ (∀ f ∈ (twOf s k).frames, f.1 ≠ idx → f ∈ (twOf t k).frames) ∧
        (∀ j, j ≠ k → twOf t j = twOf s j) ∧ OnlyIn [.twin, .dio] s t)) ∧
      ((taskOf s k).phase = .agree → partnerAbsent s k = false → (twOf s k).firstJoin = false →
        (∀ i, i < snapCount s k → i ≠ idx → ∃ f ∈ (twOf s k).frames, f.1 = i) →
        Completes (.snapshotFrame h k idx last cycle t0 d) s (fun t =>
          (taskOf t k).phase = .logic ∧ (twOf t k).alone = false ∧ (twOf t k).incomplete = false))) ∧
    (∀ (k : Nat) (d : Digest), k < 16 → d.cycle = (taskOf s k).cycle →
      ((taskOf s k).phase = .logic ∨ (taskOf s k).phase = .agree → Completes (.digestFrame h k d) s (fun t => shown t ∧
        (twOf t k).partner = some d ∧ (∀ j, j ≠ k → twOf t j = twOf s j) ∧ OnlyIn [.twin, .dio] s t)) ∧
      (∀ a, (taskOf s k).phase = .digest → (twOf s k).own = some a → rejoinAt s (taskOf s k).start = false →
        (a.hash = d.hash → a.dig1 = d.dig1 → a.dig2 = d.dig2 → Completes (.digestFrame h k d) s (fun t => shown t ∧
          (taskOf t k).phase = .armed ∧ (twOf t k).adopt = (twOf s k).adopt ∧ OnlyIn [.twin, .dio, .fab] s t)) ∧
        (a.hash = d.hash → (a.dig1 ≠ d.dig1 ∨ a.dig2 ≠ d.dig2) → (taskCfg s k).vital = false →
          Completes (.digestFrame h k d) s (fun t => shown t ∧ (taskOf t k).phase = .armed ∧
            t.twin.digMismatch = satInc s.twin.digMismatch ∧
            (twOf t k).adopt = ((twOf s k).adopt || s.mode.role != .principal))) ∧
        (a.hash = d.hash → (a.dig1 ≠ d.dig1 ∨ a.dig2 ≠ d.dig2) → (taskCfg s k).vital = true →
          HostApart s (taskCfg s k).sector → sectorState s (taskCfg s k).sector ≠ .safe →
          Completes (.digestFrame h k d) s (fun t => t.twin.digMismatch = satInc s.twin.digMismatch ∧
            SectorFell (taskCfg s k).sector s t)) ∧
        (a.hash ≠ d.hash → a.incomplete = true → d.incomplete = false → Completes (.digestFrame h k d) s (fun t => shown t ∧
          (taskOf t k).phase = .armed ∧ (twOf t k).adopt = true ∧ t.twin.diverge = satInc s.twin.diverge)) ∧
        (a.hash ≠ d.hash → a.incomplete = false → d.incomplete = true → Completes (.digestFrame h k d) s (fun t => shown t ∧
          (taskOf t k).phase = .armed ∧ (twOf t k).adopt = (twOf s k).adopt ∧ t.twin.diverge = satInc s.twin.diverge ∧
          (s.mode.role ≠ .principal → (twOf t k).takeOver = true))) ∧
        (a.hash ≠ d.hash → a.incomplete = d.incomplete → (a.incomplete = true ∨ (taskCfg s k).vital = false) →
          Completes (.digestFrame h k d) s (fun t => shown t ∧ (taskOf t k).phase = .armed ∧
            (twOf t k).adopt = ((twOf s k).adopt || s.mode.role != .principal) ∧ t.twin.diverge = satInc s.twin.diverge)) ∧
        (a.hash ≠ d.hash → a.incomplete = false → d.incomplete = false → (taskCfg s k).vital = true →
          HostApart s (taskCfg s k).sector → sectorState s (taskCfg s k).sector ≠ .safe →
          Completes (.digestFrame h k d) s (fun t => t.twin.diverge = satInc s.twin.diverge ∧
            SectorFell (taskCfg s k).sector s t))))) ∧
  (∀ (k : Nat) (s : State),
    ((taskOf s k).phase = .agree → follows s k = false → Completes (.agreementDeadline k) s (fun t =>
      now t = max (agreeDeadline s k) (now s) ∧ (taskOf t k).phase = .logic ∧ (twOf t k).alone = true ∧
      (twOf t k).incomplete = !partnerAbsent s k ∧
      t.twin.snapMiss = (if partnerAbsent s k then s.twin.snapMiss else satInc s.twin.snapMiss))) ∧
    ((taskOf s k).phase = .agree → follows s k = true → Completes (.agreementDeadline k) s (fun t =>
      now t = max (agreeDeadline s k) (now s) ∧ OnlyIn [.time, .rtc] s t)) ∧
    ((taskOf s k).phase = .digest → Completes (.digestDeadline k) s (fun t =>
      now t = max (digestDeadline s k) (now s) ∧ (taskOf t k).phase = .armed ∧ (∀ j, j ≠ k → taskOf t j = taskOf s j) ∧
      t.twin.digMiss = (if partnerAbsent s k then s.twin.digMiss else satInc s.twin.digMiss) ∧
      OnlyIn (logBlocks ++ [.fab, .twin, .time, .rtc]) s t))) ∧
  (∀ s : State, twinOn s = true → s.id.variantV = true → s.clk.root = true → Completes .twinFrameSlot s (fun t =>
    now t = max (s.twin.slotTs + 670) (now s) ∧ t.twin.slotTs = now t ∧ t.twin.seqTx = (s.twin.seqTx + 1) % 65536 ∧
    t.twin.frameTx = satInc s.twin.frameTx ∧
    (63 ≤ s.twin.sinceStatus → t.twin.sinceStatus = 0 ∧ t.twin.txQ = s.twin.txQ) ∧
    (s.twin.sinceStatus < 63 → s.twin.txQ = [] → s.twin.relinq = none → s.twin.rejoin.todo = [] → t.twin.sinceStatus = 0) ∧
    (∀ f, s.twin.sinceStatus < 63 → s.twin.txQ = [f] → 1 ≤ f.cls → f.cls ≤ 4 → f.typ ≠ 3 → (f.cls = 1 ∨ s.twin.relinq = none) →
      t.twin.txQ = [] ∧ t.twin.sinceStatus = s.twin.sinceStatus + 1) ∧
    OnlyIn [.twin, .time, .rtc, .out] s t))

/-- ROLE_SWAP relinquishes and answers T_sw; REJOIN makes the module REJOINING. STARTUP_SEARCH_END and ROLE_CHANGE set the
role, a new epoch and the switch registers; a role without drive leaves no driver on. REJOIN_START begins or ends an
attempt; REJOIN_PASS_END declares T_join or the next pass; T_JOIN starts the tasks; REJOIN_CTRL and REJOIN_DATA carry
both sides on; REJOIN_FAILED, REJOIN_RETRY and T_ASSIST keep their times. TWIN_COMMAND_TIMEOUT answers PEER_REFUSED.
Switch causes and codes follow log entries 14 and 23. -/
def Obligations.TwinRolesChangeAndModulesRejoin : Prop :=
  ∀ s : State,
    let changed (r : TwinRole) (cause ts : Nat) (t : State) : Prop := t.mode.role = r ∧
      t.twin.epoch = (s.twin.epoch + 1) % 2 ^ 32 ∧ t.twin.epochTs = ts ∧ t.twin.swTs = ts ∧ t.twin.swCause = cause ∧
      t.twin.swNew = roleCode r ∧ t.twin.swOld = roleCode s.mode.role ∧ t.twin.switchCnt = satInc s.twin.switchCnt ∧
      (r = .rejoining ∨ r = .isolated ∨ r = .noRole → t.dio.drv = 0)
    (∀ (q : Req) (rest : List Req),
      let u := taken rest s
      (Served 0x0502 q rest s → transitionPending s = false → aimConflict q u = false → s.mode.role = .principal →
        s.twin.partnerRole = .assistant → s.twin.locked = true → s.twin.relinq = none →
        Replies .roleSwap q 0 s (fun d t => d = words64 (switchInstant s 10000) ∧
          t.twin = { s.twin with relinq := some { ts := switchInstant s 10000, cause := 4 }, pend := some { role := .assistant, ts := switchInstant s 10000, cause := 4 } } ∧
          OnlyIn (logBlocks ++ [.twin]) u t)) ∧
      (Served 0x0503 q rest s → s.twin.rejoin.phase = 0 → transitionPending s = false → aimConflict q u = false →
        rejoinOpen s = true → (s.mode.role = .isolated ∨ s.mode.role = .assistant ∧ sectorWaits s = true) →
        Replies .rejoin q 0 s (fun d t => d = [] ∧ changed .rejoining 0 (now s) t ∧ t.twin.rejoin.attempt = 0)) ∧
      (Served 0x0503 q rest s → s.twin.rejoin.phase = 0 → transitionPending s = false → aimConflict q u = false →
        rejoinOpen s = true → s.mode.role = .rejoining → Replies .rejoin q 0 s (fun d t => d = [] ∧
          t.twin = { s.twin with rejoin := { s.twin.rejoin with attempt := 0, retryAt := none } } ∧ OnlyIn [.twin] u t))) ∧
    (∀ (t0 : Nat) (r : TwinRole), s.twin.searchEnd = some t0 → s.twin.search = true → s.mode.role = .noRole → t0 ≤ now s →
      ((s.twin.locked = true ∧ s.twin.partnerRole = .principal ∧ r = .rejoining) ∨
        (s.twin.locked = true ∧ s.twin.partnerRole = .noRole ∧ s.id.node < s.twin.cfg.partnerNode ∧ r = .principal) ∨
        (s.twin.locked = false ∧ s.twin.visible = false ∧ r = .principal) ∨
        (s.twin.locked = false ∧ s.twin.visible = true ∧ s.twin.partnerRole = .principal ∧ r = .isolated) ∨
        (s.twin.locked = false ∧ s.twin.visible = true ∧ s.twin.partnerRole = .noRole ∧
          r = if s.id.node < s.twin.cfg.partnerNode then .principal else .isolated)) →
      Completes .startupSearchEnd s (fun t => changed r 9 (now s) t ∧ t.twin.search = false ∧ t.twin.searchEnd = none)) ∧
    (∀ p, s.twin.pend = some p → p.role ≠ s.mode.role → Completes .roleChange s (fun t =>
      changed p.role p.cause p.ts t ∧ now t = max p.ts (now s) ∧ t.twin.pend = none ∧ t.twin.relinq = none)) ∧
    (∀ t0, s.twin.pend = none → s.twin.rotateAt = some t0 → counterGet s 8 < 0xFFFF → Completes .roleChange s (fun t =>
      now t = max t0 (now s) ∧ counterGet t 8 = counterGet s 8 + 1 ∧ t.mode = s.mode ∧ t.twin.rotateAt = none)) ∧
    (rejoinMay s = true → s.mode.role = .rejoining → s.twin.rejoin.retryAt = none → s.twin.rejoin.attempt < 3 →
      (safeSectors s).all (sectorReady s) = true →
      Completes (.rejoinStart .same) s (fun t => t.twin.rejoin.phase = 2 ∧ t.twin.rejoin.start = now s ∧ t.mode.exec = .run ∧
        t.twin.rejoin.attempt = s.twin.rejoin.attempt ∧ t.img = s.img ∧
        t.twin.txQ = s.twin.txQ ++ [{ cls := 3, typ := 8, tag := 0, words := [1] }]) ∧
      Completes (.rejoinStart .protocol) s (fun t => t.twin.rejoin.phase = 0 ∧ t.twin.rejoin.result = 2 ∧
        t.twin.rejoin.attempt = s.twin.rejoin.attempt + 1) ∧
      (∀ l, loadVerdict l s = none → Completes (.rejoinStart (.image l)) s (fun t => t.twin.rejoin.phase = 2)) ∧
      (∀ l v, loadVerdict l s = some v → Completes (.rejoinStart (.image l)) s (fun t => t.twin.rejoin.phase = 0 ∧
        t.twin.rejoin.result = 2))) ∧
    (rejoinMay s = true → s.mode.role = .assistant → assistHost s = false → sectorWaits s = true →
      (∀ sec ∈ safeSectors s, sectorReady s sec = true ∧ ∀ k ∈ sectorTasks s sec, (taskCfg s k).autoRestart = true) →
      (restartLimit s = [] → Completes (.rejoinStart .same) s (fun t => changed .rejoining 0 (now s) t ∧
        t.twin.rejoin.phase = 2 ∧ t.mode.exec = .run)) ∧
      (restartLimit s ≠ [] → Completes (.rejoinStart .same) s (fun t => OnlyIn logBlocks s t))) ∧
    (s.mode.role = .isolated → s.twin.locked = true → s.twin.partnerRole = .principal → s.twin.cfg.autoRejoin = true →
      s.twin.rejoin.attempt < 3 → s.twin.pend = none → Completes .isolatedRejoinReady s (fun t =>
        now t = max (s.twin.lockTs + 1000000000) (now s) ∧ changed .rejoining 0 (now t) t)) ∧
    (∀ (p : ProgImage) (last : List (Nat × Nat)), s.img = some p → s.twin.rejoin.sender = true →
      (s.twin.rejoin.phase = 2 ∨ s.twin.rejoin.phase = 3) → s.twin.rejoin.todo = [] →
      let dirty := (usedPages s).filter (pageDirty s)
      let each := (tasksUsed s).map (dirtyOf s p dirty last)
      let met : Prop := (∀ n ∈ each, n ≤ 262144) ∧ each.foldl (· + ·) 0 ≤ 152764
      Completes (.rejoinPassEnd last) s (fun t => t.twin.rejoin.dirty = 256 * dirty.length ∧
        t.twin.rejoin.pass = (if s.twin.rejoin.phase = 3 then s.twin.rejoin.pass + 1 else s.twin.rejoin.pass) ∧
        (met → t.twin.rejoin.tJoin = some (switchInstant s 1000000) ∧ t.twin.rejoin.phase = 4 ∧ t.twin.rejoin.todo = []) ∧
        (¬ met → t.twin.rejoin.tJoin = s.twin.rejoin.tJoin ∧ t.twin.rejoin.phase = 3 ∧ t.twin.rejoin.todo = dirty) ∧
        OnlyIn [.twin] s t)) ∧
    (∀ t0, s.twin.rejoin.tJoin = some t0 →
      (s.mode.role = .rejoining → (∀ k ∈ tasksUsed s, (taskOf s k).mode ≠ .running) → Completes .tJoin s (fun t =>
        now t = max t0 (now s) ∧ ∀ k ∈ tasksUsed s, (taskOf t k).mode = .running ∧ (taskOf t k).phase = .idle ∧
          (taskOf t k).nextAt = if isCyclic k then some (gridAt (taskCfg s k) t0) else none)) ∧
      (s.mode.role ≠ .rejoining → Completes .tJoin s (fun t => now t = max t0 (now s) ∧ OnlyIn [.time, .rtc] s t))) ∧
    ((s.twin.rejoin.phase = 2 ∨ s.twin.rejoin.phase = 3) → s.twin.rejoin.tJoin = none → Completes .rejoinFailed s (fun t =>
      now t = max (s.twin.rejoin.start + 2000000000) (now s) ∧ t.twin.rejoin.phase = 0 ∧ t.twin.rejoin.result = 3 ∧
      t.twin.rejoin.attempt = min 3 (s.twin.rejoin.attempt + 1) ∧ t.twin.rejoin.sender = false ∧
      (s.mode.role = .rejoining → s.twin.rejoin.attempt < 2 → t.twin.rejoin.retryAt = some (now t + 10000000000)) ∧
      (s.mode.role = .rejoining → 2 ≤ s.twin.rejoin.attempt →
        t.twin.pend = some { role := .isolated, ts := now t, cause := 12 }))) ∧
    (∀ t0, s.twin.rejoin.retryAt = some t0 → Completes .rejoinRetry s (fun t => now t = max t0 (now s) ∧
      t.twin = { s.twin with rejoin := { s.twin.rejoin with retryAt := none } } ∧ OnlyIn [.twin, .time, .rtc] s t)) ∧
    (∀ t0, s.twin.rejoin.tAssist = some t0 → Completes .tAssist s (fun t => now t = max t0 (now s) ∧ OnlyIn [.time, .rtc] s t)) ∧
    (∀ (h : TwinHdr), s.twin.locked = true → h.crcOk = true →
      (s.mode.role = .principal → scanning s = true → proving s = false → Completes (.rejoinCtrl h .start) s (fun t =>
        t.twin.partnerRole = .rejoining ∧ t.twin.rejoin.phase = 2 ∧ t.twin.rejoin.sender = true ∧
        t.twin.rejoin.start = now s ∧ t.twin.rejoin.todo = usedPages s ∧ OnlyIn [.twin, .dio] s t)) ∧
      (s.mode.role = .rejoining → s.twin.rejoin.phase ≠ 0 →
        (∀ pass dirty l, Completes (.rejoinCtrl h (.progress pass dirty l)) s (fun t =>
          t.twin.rejoin = { s.twin.rejoin with phase := 3, pass := pass, dirty := dirty } ∧ OnlyIn [.twin, .dio] s t)) ∧
        (∀ t0, Completes (.rejoinCtrl h (.join t0)) s (fun t => t.twin.rejoin.tJoin = some t0 ∧ t.twin.rejoin.phase = 4 ∧
          OnlyIn [.twin, .dio] s t)) ∧
        (∀ t0, Completes (.rejoinCtrl h (.assist t0)) s (fun t => t.twin.rejoin.tAssist = some t0 ∧ OnlyIn [.twin, .dio] s t)) ∧
        (∀ n c, Completes (.rejoinData h [.slot n c]) s (fun t => slotOf t n = c ∧ (∀ m, m ≠ n → slotOf t m = slotOf s m) ∧
          t.twin.rejoin.bytes = satAdd s.twin.rejoin.bytes 1024 ∧ OnlyIn [.twin, .dio, .fab] s t)) ∧
        (∀ b c, Completes (.rejoinData h [.block b c]) s (fun t => tcOf t b = c ∧ (∀ m, m ≠ b → tcOf t m = tcOf s m) ∧
          OnlyIn [.twin, .dio, .fab] s t)) ∧
        (∀ key d, key < 131072 → d.length = 256 → Completes (.rejoinData h [.line key d]) s (fun t =>
          pageNow t key = d ∧ OnlyIn [.twin, .dio, .fab] s t))) ∧
      (∀ n, s.twin.rejoin.phase ≠ 0 → Completes (.rejoinCtrl h (.failed n)) s (fun t => t.twin.rejoin.phase = 0 ∧
        t.twin.rejoin.result = n ∧ t.twin.rejoin.tJoin = none))) ∧
    (∀ (q : Req) (t0 : Nat) (rest : List (Req × Nat)), s.kp.twinWait = (q, t0) :: rest →
      (∀ l ∈ s.kp.long, l.req ≠ q ∨ l.done = true) → ∃ u, exec .twinCommandTimeout s =
        .next (finish q { rc := 0x0304, data := [0xFFFF0000] } u) ∧ now u = max t0 (now s) ∧ u.kp.twinWait = rest ∧
        OnlyIn [.kp, .time, .rtc] s u)

/-- TRACE_SET opens, refilters and closes the stream of a session on the service port; COUNTER_SELECT restarts a counter
at 0; SNAPSHOT numbers its request or is refused. A due LOSS entry is captured when there is room. A tag region is
written into the copy that is not the newer valid one, is deferred by an RF field, retried after 250 ms, and read
back. A read of a low word latches its high word; a gated one only counts. A register write reaches output bytes,
blocks or timer control. Byte order and contents of the tag are the model's (log entry 65). -/
def Obligations.WatchPortTagAndRegisters : Prop :=
  (∀ (q : Req) (rest : List Req) (s : State),
    let u := taken rest s
    (∀ m, Served 0x0B01 q rest s → serviceBox q u = some m →
      (s.watch.isOpen = false → argW q 0 ≠ 0 → Replies .traceSet q 0 s (fun d t => d = [] ∧ t.watch.isOpen = true ∧
        t.watch.mailbox = m ∧ t.watch.srcMask = argW q 0 ∧ t.watch.galMask = argW q 1 ∧ t.watch.taskMask = argW q 2 ∧
        t.watch.eseq = 0 ∧ t.clk = { s.clk with en := s.clk.en ||| 0x20#15 } ∧ OnlyIn (logBlocks ++ [.clk]) u t)) ∧
      (s.watch.isOpen = true → s.watch.mailbox = m → ¬ (argW q 0 = 0 ∧ argW q 1 = 0 ∧ argW q 2 = 0) →
        exec .traceSet s = .next (finish q { rc := 0 } { u with watch := { s.watch with srcMask := argW q 0, galMask := argW q 1, taskMask := argW q 2 } })) ∧
      (s.watch.isOpen = true → s.watch.mailbox = m → argW q 0 = 0 → argW q 1 = 0 → argW q 2 = 0 →
        Replies .traceSet q 0 s (fun d t => d = [] ∧ t.watch.isOpen = false ∧ t.watch.srcMask = 0 ∧ t.watch.buf = [] ∧
          t.watch.snapBuf = [] ∧ t.clk = { s.clk with en := s.clk.en &&& ~~~0x20#15 } ∧ OnlyIn (logBlocks ++ [.clk]) u t)) ∧
      (s.watch.isOpen = true → s.watch.mailbox ≠ m → exec .traceSet s = .next (finish q { rc := 0x0202 } u))) ∧
    (Served 0x0B01 q rest s → serviceBox q u = none → exec .traceSet s = .next (finish q { rc := 0x0304 } u)) ∧
    (Served 0x0B02 q rest s → ctrSelOk (argW q 1) = true → Replies .counterSelect q 0 s (fun d t => d = [] ∧
      tabGet 0 t.watch.sel (arg q 0) = argW q 1 ∧ (∀ j, j ≠ arg q 0 → tabGet 0 t.watch.sel j = tabGet 0 s.watch.sel j) ∧
      (traceOn s 4 = false → ctrValue t (arg q 0) = 0 ∧ ∀ j, j ≠ arg q 0 → tabGet 0 t.watch.ctr j = tabGet 0 s.watch.ctr j) ∧
      OnlyIn logBlocks u t)) ∧
    (Served 0x0B02 q rest s → ctrSelOk (argW q 1) = false → exec .counterSelect s = .next (finish q { rc := 0x0303 } u)) ∧
    (Served 0x0B03 q rest s →
      let g := arg q 0 / 256
      let r := arg q 0 / 16 % 16
      let l := arg q 0 % 2
      (snapCheck g r l u = none → exec .snapshot s = .next (finish q { rc := 0, data := [w32 (s.watch.snapNum + 1)] }
        { u with watch := { s.watch with snapNum := s.watch.snapNum + 1, snapReq := s.watch.snapReq ++ [(g, r, l, s.watch.snapNum + 1)] } })) ∧
      (∀ c, snapCheck g r l u = some c → exec .snapshot s = .next (finish q { rc := c }
        { u with watch := { s.watch with snapRefused := satInc s.watch.snapRefused } })) ∧
      (s.watch.isOpen = false → snapCheck g r l u = some 0x0304) ∧
      (s.watch.isOpen = true → rangeVital s g r = false → (l = 1 → (rangeOf s g r).split = true) → 4 ≤ s.watch.snapBuf.length →
        snapCheck g r l u = some 0x0202))) ∧
  (∀ s : State, s.watch.isOpen = true → 0 < s.watch.lossPending → (s.watch.capTs ≠ s.time.mono / 2 ∨ s.watch.capN < 2) →
    traceFill s + 32 ≤ 262112 → Completes .watchLossEntry s (fun t => t.watch.buf = s.watch.buf ++ [lossEnt s] ∧
      t.watch.lossPending = 0 ∧ t.watch.lossMask = 0 ∧ OnlyIn [.watch] s t)) ∧
  (∀ (r : Nat) (s : State), s.kp.ready = true → s.tag.present = true → r ≤ 4 →
    let x := tagReg s r
    let b := tagTarget x
    let begun (t : State) : Prop := t.tag.writing = some (r, b) ∧ t.tag.writeTs = now t ∧ (tagReg t r).isPending = false ∧
      (if b then (tagReg t r).verB = 0 ∧ (tagReg t r).okB = false ∧ (tagReg t r).verA = x.verA ∧ (tagReg t r).okA = x.okA
        else (tagReg t r).verA = 0 ∧ (tagReg t r).okA = false ∧ (tagReg t r).verB = x.verB ∧ (tagReg t r).okB = x.okB) ∧
      (∀ j, j ≠ r → tagReg t j = tagReg s j)
    (s.tag.rf = false → s.tag.writing = none → Completes (.tagRegionWrite r) s (fun t => begun t ∧ now t = now s ∧
      (if b then (tagReg t r).dataB else (tagReg t r).dataA) = tagContent s r ∧ OnlyIn [.tag] s t)) ∧
    (s.tag.rf = false → s.tag.writing ≠ none → Completes (.tagRegionWrite r) s (fun t =>
      tagReg t r = { x with isPending := true } ∧ (∀ j, j ≠ r → tagReg t j = tagReg s j) ∧ t.tag.writing = s.tag.writing ∧
      OnlyIn [.tag] s t)) ∧
    (s.tag.rf = true → Completes (.tagRegionWrite r) s (fun t =>
      tagReg t r = { x with isPending := true, deferTs := some (x.deferTs.getD (now s)) } ∧
      (∀ j, j ≠ r → tagReg t j = tagReg s j) ∧
      t.tag.deferCnt = (if x.deferTs.isSome then s.tag.deferCnt else satInc s.tag.deferCnt) ∧ OnlyIn [.tag] s t)) ∧
    (∀ t0, x.deferTs = some t0 → x.isPending = true → Completes (.tagWriteRetry r) s (fun t =>
      now t = max (t0 + 250000000 * (x.retries + 1)) (now s) ∧ (tagReg t r).retries = x.retries + 1 ∧
      (s.tag.rf = false → s.tag.writing = none → begun t) ∧
      (s.tag.rf = true ∨ s.tag.writing ≠ none → (tagReg t r).isPending = true ∧ t.tag.writing = s.tag.writing) ∧
      OnlyIn [.tag, .time, .rtc] s t))) ∧
  (∀ s : State, exec .tagRfFieldLeaves s = .next { s with tag := { s.tag with rf := false } }) ∧
  (∀ s : State, s.tag.rf = false → Completes .tagRfField s (fun t => t.tag.rf = true ∧ t.tag.rfCnt = satInc s.tag.rfCnt ∧
    t.tag.writing = none ∧ (s.tag.writing = none → now t = now s) ∧
    (∀ r b, s.tag.writing = some (r, b) → r ≤ 4 →
      now t = max (s.tag.writeTs + 40000 * ((now s - s.tag.writeTs) / 40000 + 1)) (now s) ∧
      (tagReg t r).isPending = true ∧ (tagReg t r).deferTs.isSome = true) ∧ OnlyIn [.tag, .time, .rtc] s t)) ∧
  (∀ (r : Nat) (b : Bool) (s : State), s.tag.writing = some (r, b) → (∀ j, j < 5 → (tagReg s j).isPending = false) →
    let x := tagReg s r
    let d := if b then x.dataB else x.dataA
    let other := if b then (if x.okA then x.verA else 0) else (if x.okB then x.verB else 0)
    Completes (.tagWriteComplete true) s (fun t => now t = max (s.tag.writeTs + 40000 * (4 + (d.length + 3) / 4)) (now s) ∧
      t.tag.writing = none ∧ t.tag.writeCnt = satInc s.tag.writeCnt ∧
      (if b then (tagReg t r).verB = (other + 1) % 2 ^ 32 ∧ (tagReg t r).okB = true ∧ (tagReg t r).dataB = d ∧
          (tagReg t r).verA = x.verA ∧ (tagReg t r).okA = x.okA
        else (tagReg t r).verA = (other + 1) % 2 ^ 32 ∧ (tagReg t r).okA = true ∧ (tagReg t r).dataA = d ∧
          (tagReg t r).verB = x.verB ∧ (tagReg t r).okB = x.okB) ∧
      (∀ j, j ≠ r → tagReg t j = tagReg s j) ∧ OnlyIn (logBlocks ++ [.tag, .out, .time, .rtc]) s t) ∧
    Completes (.tagWriteComplete false) s (fun t => t.tag.failCnt = satInc s.tag.failCnt ∧
      (x.fails + 1 < 3 → (t.tag.writing.map Prod.fst) = some r ∧ (tagReg t r).fails = x.fails + 1) ∧
      (3 ≤ x.fails + 1 → t.tag.writing = none ∧ (tagReg t r).fails = 0) ∧
      OnlyIn (logBlocks ++ [.tag, .time, .rtc]) s t)) ∧
  (∀ (a : Nat) (s : State),
    (∀ h, a % 4 = 0 → a < 0x120000 → regGated s a = false → regHigh s a = some h → Completes (.latchedLowRead a) s (fun t =>
      t = { s with latch := tabPut 0 s.latch (a + 4) h } ∧ regValue t (a + 4) = h)) ∧
    (a % 4 = 0 → a < 0x120000 → regGated s a = false → regHigh s a = none → exec (.latchedLowRead a) s = .next s) ∧
    (a % 4 = 0 → a < 0x120000 → regGated s a = true → exec (.latchedLowRead a) s = .next { s with clk := { s.clk with gatedCnt := satInc s.clk.gatedCnt } })) ∧
  (∀ (o : LampOp) (a : Nat) (v : Word) (s : State), (lampOf s o.lamp).mode = .exec → a % 4 = 0 →
    (0x10000 ≤ a → a < 0x20000 → OutReady o (a - 0x10000) 0xFFFFFFFF s → Completes (.registerWrite o a v) s (fun t =>
      OutputWritten o.lamp (a - 0x10000) v 0xFFFFFFFF s t)) ∧
    (∀ b j, j < 2 → a = 0x60000 + 16 * b + 4 * j → BlockReady o b s → Completes (.registerWrite o a v) s (fun t =>
      tcOf t b = (if j = 0 then { tcOf s b with preset := v } else { tcOf s b with elapsed := v }) ∧
      (∀ d, d ≠ b → tcOf t d = tcOf s d) ∧ LampStores o.lamp s t)) ∧
    (∀ k, k < 64 → a = 0x70400 + 8 * k + 4 → (lampOf s o.lamp).spec = false → rctlDenied s o.lamp a = false →
      Completes (.registerWrite o a v) s (fun t => (frtOf t k).run = v.getLsbD 0 ∧
        frtCount t k = (if v.getLsbD 1 then 0 else frtCount s k) ∧ (∀ j, j ≠ k → frtOf t j = frtOf s j))))
end

