-- ==== Sys2Proof/Laws/Kept.lean ====
section
/-!
SUPPORT. The parts of the state that hardly any command may change: the queue, the module's identity, the security locks and
counters of the lamp room's store, whether the module scans, and MAINT. `keep` shows them; the files Kept… say once for every
operation of the model what it leaves of them.
-/
namespace Sys2Proof.Machine

/-- The parts shown. -/
structure Kept where
  pending : List Instr
  serial : BitVec 64
  variantV : Bool
  hwRev : Byte
  idevHash : Nat
  debugLock : Bool
  vsLock : Bool
  margHold : Bool
  svnKeeper : Nat
  svnLroom : Nat
  scan : Bool
  maint : Bool

/-- RUN and PROOF scan. -/
def scans (m : ExecMode) : Bool := m == .run || m == .proof

/-- What a state shows. -/
def keep (s : State) : Kept :=
  ⟨s.pending, s.id.serial, s.id.variantV, s.id.hwRev, s.id.idevHash, s.sec.debugLock, s.sec.vsLock, s.sec.margHold,
   s.sec.svnKeeper, s.sec.svnLroom, scans s.mode.exec, s.mode.maint⟩

/-! The next two are not proved by `rfl` on purpose: as rewriting rules they leave the kernel no states to compare. -/

theorem keep_mk (a b c d e f g h i j k l m n o p q r t u v w x y z aa ab ac ad ae) :
    keep (State.mk a b c d e f g h i j k l m n o p q r t u v w x y z aa ab ac ad ae) =
      ⟨ae, a.serial, a.variantV, a.hwRev, a.idevHash, x.debugLock, x.vsLock, x.margHold, x.svnKeeper, x.svnLroom,
        scans b.exec, b.maint⟩ := Eq.trans rfl rfl

theorem keep_eta (s : State) : (⟨s.pending, s.id.serial, s.id.variantV, s.id.hwRev, s.id.idevHash, s.sec.debugLock,
    s.sec.vsLock, s.sec.margHold, s.sec.svnKeeper, s.sec.svnLroom, scans s.mode.exec, s.mode.maint⟩ : Kept) = keep s :=
  Eq.trans rfl rfl

theorem keep_ite (c : Prop) [Decidable c] (a b : State) :
    keep (if c then a else b) = if c then keep a else keep b := apply_ite keep c a b

theorem keep_ite_id {c : Prop} [Decidable c] {a b : State} {k : Kept} (ha : keep a = k) (hb : keep b = k) :
    keep (if c then a else b) = k := by split <;> assumption

theorem keep_ite_snd {α} (c : Prop) [Decidable c] (a b : α × State) :
    keep (if c then a else b).2 = if c then keep a.2 else keep b.2 := by split <;> rfl

theorem keep_foldl {α} (f : State → α → State) (l : List α) (s : State) (h : ∀ s x, keep (f s x) = keep s) :
    keep (l.foldl f s) = keep s := by
  induction l generalizing s with
  | nil => rfl
  | cons x l ih => rw [List.foldl_cons, ih, h]

theorem keep_snd {α} {p : α × State} {a : α} {t : State} {x : Kept} (h : p = (a, t)) (e : keep p.2 = x) : keep t = x := by
  subst h; exact e

/-- What a command may do to these parts: the queue and the identity stay, locks and counters only tighten, and MAINT SERVICE
never meets a scanning module. -/
def Kept.Tight (a b : Kept) : Prop :=
  b.pending = a.pending ∧ b.serial = a.serial ∧ b.variantV = a.variantV ∧ b.hwRev = a.hwRev ∧ b.idevHash = a.idevHash ∧
    (a.debugLock = true → b.debugLock = true) ∧ (a.vsLock = true → b.vsLock = true) ∧
    (a.margHold = true → b.margHold = true) ∧ a.svnKeeper ≤ b.svnKeeper ∧ a.svnLroom ≤ b.svnLroom ∧
    (¬(a.maint = true ∧ a.scan = true) → ¬(b.maint = true ∧ b.scan = true))
theorem tight_refl (a : Kept) : a.Tight a :=
  ⟨rfl, rfl, rfl, rfl, rfl, id, id, id, Nat.le_refl _, Nat.le_refl _, id⟩
theorem tight_trans {a b c : Kept} (h : a.Tight b) (g : b.Tight c) : a.Tight c := by
  obtain ⟨h1, h2, h3, h4, h5, h6, h7, h8, h9, h10, h11⟩ := h
  obtain ⟨g1, g2, g3, g4, g5, g6, g7, g8, g9, g10, g11⟩ := g
  exact ⟨g1.trans h1, g2.trans h2, g3.trans h3, g4.trans h4, g5.trans h5, g6 ∘ h6, g7 ∘ h7, g8 ∘ h8, Nat.le_trans h9 g9, Nat.le_trans h10 g10,
    g11 ∘ h11⟩
theorem tight_eq {a b : Kept} (h : b = a) : a.Tight b := h ▸ tight_refl a
theorem tight_ite {c : Prop} [Decidable c] {a : Kept} {x y : State} (hx : c → a.Tight (keep x)) (hy : ¬c → a.Tight (keep y)) :
    a.Tight (keep (if c then x else y)) := by
  split
  · exact hx ‹_›
  · exact hy ‹_›
theorem tight_scan_off (a : Kept) : a.Tight { a with scan := false } :=
  ⟨rfl, rfl, rfl, rfl, rfl, id, id, id, Nat.le_refl _, Nat.le_refl _, fun _ h => Bool.noConfusion h.2⟩
theorem tight_maint_off (a : Kept) : a.Tight { a with maint := false } :=
  ⟨rfl, rfl, rfl, rfl, rfl, id, id, id, Nat.le_refl _, Nat.le_refl _, fun _ h => Bool.noConfusion h.1⟩
theorem tight_scan_on (a : Kept) (h : a.maint = false) : a.Tight { a with scan := true } :=
  ⟨rfl, rfl, rfl, rfl, rfl, id, id, id, Nat.le_refl _, Nat.le_refl _, fun _ g => Bool.noConfusion (h.symm.trans g.1)⟩
theorem tight_maint_on (a : Kept) (h : a.scan = false) : a.Tight { a with maint := true } :=
  ⟨rfl, rfl, rfl, rfl, rfl, id, id, id, Nat.le_refl _, Nat.le_refl _, fun _ g => Bool.noConfusion (h.symm.trans g.2)⟩
theorem tight_foldl {α} (f : State → α → State) (l : List α) (s : State) (h : ∀ s x, (keep s).Tight (keep (f s x))) :
    (keep s).Tight (keep (l.foldl f s)) := by
  induction l generalizing s with
  | nil => exact tight_refl _
  | cons x l ih => exact tight_trans (h s x) (ih _)

end Sys2Proof.Machine
end

