-- ==== Sys2Proof/Laws/KeptOps.lean ====
section
/-!
SUPPORT. What every command leaves of the parts that `keep` shows: the shared operations, the field and the safe state.
-/
namespace Sys2Proof.Machine

theorem keep_advance x0 s : keep (advance x0 s) = keep s := by
  simp only [advance, ↓keep_mk, keep_eta]

theorem keep_reach x0 s : keep (reach x0 s) = keep s := by
  simp only [reach, keep_ite, ite_self, keep_advance]

theorem keep_freeNext s : keep (freeNext s).2 = keep s := by
  simp only [freeNext, ↓keep_mk, keep_eta]

theorem keep_emit x0 s : keep (emit x0 s) = keep s := by
  simp only [emit, ↓keep_mk, keep_eta]

theorem keep_nvmPush x0 s : keep (nvmPush x0 s) = keep s := by
  simp only [nvmPush, ↓keep_mk, keep_eta]

theorem keep_counterPut x0 x1 x2 s : keep (counterPut x0 x1 x2 s) = keep s := by
  simp only [counterPut, ↓keep_mk, keep_eta, keep_nvmPush]

theorem keep_counterInc x0 s : keep (counterInc x0 s) = keep s := by
  simp only [counterInc, keep_counterPut]

theorem keep_nvmJournal x0 s : keep (nvmJournal x0 s) = keep s := by
  simp only [nvmJournal, keep_nvmPush]

theorem keep_flushStaged x0 s : keep (flushStaged x0 s) = keep s := by
  simp only [flushStaged, ↓keep_mk, keep_eta, keep_ite, ite_self, keep_nvmPush]

theorem keep_ctrAdd x0 x1 x2 x3 x4 s : keep (ctrAdd x0 x1 x2 x3 x4 s) = keep s := by
  simp only [ctrAdd, ↓keep_mk, keep_eta, keep_ite, ite_self]

theorem keep_tracePut x0 s : keep (tracePut x0 s).2 = keep s := by
  simp only [tracePut, ↓keep_mk, keep_eta, keep_ite_snd, ite_self, keep_ctrAdd]

theorem keep_stageRec x0 s : keep (stageRec x0 s) = keep s := by
  simp only [stageRec, ↓keep_mk, keep_eta, keep_ite, ite_self, keep_flushStaged]

theorem keep_traceEvent x0 s : keep (traceEvent x0 s).2 = keep s := by
  unfold traceEvent
  repeat' split
  all_goals simp only [keep_tracePut]

theorem keep_recordBy (f0 : Rec → State → State) x1 x2 x3 s (h0 : ∀ a0 u, keep (f0 a0 u) = keep u) : keep (recordBy f0 x1 x2 x3 s) = keep s := by
  simp only [recordBy, ↓keep_mk, keep_eta, keep_ite, ite_self, h0]

theorem keep_traceCap x0 s : keep (traceCap x0 s) = keep s := by
  simp only [traceCap, keep_ite, ite_self, implies_true, keep_tracePut, keep_recordBy, keep_traceEvent, keep_stageRec]

theorem keep_stagePut x0 s : keep (stagePut x0 s) = keep s := by
  simp only [stagePut, keep_ite, ite_self, keep_stageRec, keep_traceCap]

theorem keep_stage x0 x1 x2 x3 x4 s : keep (stage x0 x1 x2 x3 x4 s) = keep s := by
  simp only [stage, keep_stagePut]

theorem keep_record x0 x1 x2 s : keep (record x0 x1 x2 s) = keep s := by
  simp only [record, implies_true, keep_recordBy, keep_stagePut]

theorem keep_traceImage x0 x1 x2 x3 x4 x5 x6 s : keep (traceImage x0 x1 x2 x3 x4 x5 x6 s) = keep s := by
  simp only [traceImage, keep_ite, ite_self, keep_traceCap]

theorem keep_traceImages x0 x1 x2 x3 x4 x5 x6 s : keep (traceImages x0 x1 x2 x3 x4 x5 x6 s) = keep s := by
  simp only [traceImages, keep_ite, ite_self, implies_true, keep_foldl, keep_traceImage]

theorem keep_epochBump x0 x1 s : keep (epochBump x0 x1 s) = keep s := by
  simp only [epochBump, ↓keep_mk, keep_eta, keep_ite, ite_self, keep_record, keep_counterPut]

theorem keep_epochBumps x0 s : keep (epochBumps x0 s) = keep s := by
  simp only [epochBumps, keep_epochBump]

theorem keep_modeChange x0 (f1 : State → State) s (h1 : ∀ u, keep (f1 u) = keep u) : keep (modeChange x0 f1 s) = keep s := by
  simp only [modeChange, ↓keep_mk, keep_eta, keep_ite, ite_self, keep_record, h1]

theorem keep_exec_eq (s : State) (m : ExecMode) (h : scans m = scans s.mode.exec) :
    keep { s with mode := { s.mode with exec := m } } = keep s := by
  simp only [keep_mk, h, keep_eta]

theorem setExec_keep (t : Nat) (m : ExecMode) (s : State) : keep (setExec t m s) = { keep s with scan := scans m } := by
  unfold setExec modeChange
  dsimp only
  split
  · rfl
  · rw [keep_record]
    rfl

theorem setExec_same (t : Nat) (m : ExecMode) (s : State) (h : scans s.mode.exec = scans m) : keep (setExec t m s) = keep s := by
  rw [setExec_keep, ← h]; rfl

theorem proof_end (s1 s : State) (e : keep s1 = keep s) :
    keep (if s1.mode.exec = .proof then setExec 4 .run s1 else s1) = keep s := by
  split
  · rename_i h
    rw [setExec_same _ _ _ (by rw [h]; rfl), e]
  · exact e

theorem keep_maint (b : Bool) (s : State) :
    keep (modeChange 14 (fun s => { s with mode := { s.mode with maint := b } }) s) = { keep s with maint := b } := by
  unfold modeChange
  dsimp only
  split
  · rfl
  · rw [keep_record]; rfl

theorem keep_taskMod x0 x1 s : keep (taskMod x0 x1 s) = keep s := by
  simp only [taskMod, ↓keep_mk, keep_eta]

theorem keep_galMod x0 x1 s : keep (galMod x0 x1 s) = keep s := by
  simp only [galMod, ↓keep_mk, keep_eta]

theorem keep_setSector x0 x1 s : keep (setSector x0 x1 s) = keep s := by
  simp only [setSector, implies_true, keep_foldl, keep_galMod]

theorem keep_mbxMod x0 x1 s : keep (mbxMod x0 x1 s) = keep s := by
  simp only [mbxMod, ↓keep_mk, keep_eta, keep_ite, ite_self]

theorem keep_tkWrite x0 x1 s : keep (tkWrite x0 x1 s) = keep s := by
  simp only [tkWrite, ↓keep_mk, keep_eta, keep_ite, ite_self, keep_mbxMod, keep_record]

theorem keep_unitDown x0 x1 s : keep (unitDown x0 x1 s) = keep s := by
  simp only [unitDown, ↓keep_mk, keep_eta, keep_ite, ite_self, keep_mbxMod, keep_record]

theorem keep_fkWrite x0 x1 s : keep (fkWrite x0 x1 s) = keep s := by
  simp only [fkWrite, keep_ite, ite_self, keep_mbxMod, keep_emit, keep_unitDown, keep_galMod]

theorem keep_fkNext x0 s : keep (fkNext x0 s) = keep s := by
  unfold fkNext
  repeat' split
  all_goals simp only [keep_fkWrite, keep_mbxMod]

theorem keep_replyTo x0 x1 s : keep (replyTo x0 x1 s) = keep s := by
  simp only [replyTo, keep_fkNext, keep_mbxMod]

theorem keep_opWord0Write x0 x1 x2 s : keep (opWord0Write x0 x1 x2 s) = keep s := by
  simp only [opWord0Write, keep_ite, ite_self, keep_tkWrite, keep_fkWrite]

theorem keep_inAckWrite x0 x1 s : keep (inAckWrite x0 x1 s) = keep s := by
  simp only [inAckWrite, ↓keep_mk, keep_eta, keep_ite, ite_self, keep_mbxMod]

theorem keep_releaseHost s : keep (releaseHost s) = keep s := by
  unfold releaseHost
  repeat' split
  all_goals simp only [implies_true, keep_foldl, keep_galMod]

theorem keep_proofRelease s : keep (proofRelease s) = keep s := by
  unfold proofRelease
  dsimp only
  simp only [beq_iff_eq]
  refine proof_end _ s ?_
  simp only [↓keep_mk, keep_eta, keep_releaseHost, keep_ite, ite_self]

theorem keep_proofTell x0 s : keep (proofTell x0 s) = keep s := by
  simp only [proofTell, ↓keep_mk, keep_eta, keep_ite, ite_self]

theorem keep_proofFail x0 x1 x2 x3 x4 s : keep (proofFail x0 x1 x2 x3 x4 s) = keep s := by
  simp only [proofFail, ↓keep_mk, keep_eta, keep_ite, ite_self, keep_proofRelease, keep_proofTell, keep_record]

theorem keep_proofAbort x0 s : keep (proofAbort x0 s) = keep s := by
  simp only [proofAbort, ↓keep_mk, keep_eta, keep_ite, ite_self, keep_proofRelease, keep_record]

theorem keep_rfxProofCompare s : keep (rfxProofCompare s) = keep s := by
  simp only [rfxProofCompare, ↓keep_mk, keep_eta, keep_ite, ite_self, keep_proofFail]

theorem keep_rfxUpdate s : keep (rfxUpdate s) = keep s := by
  simp only [rfxUpdate, ↓keep_mk, keep_eta, keep_ite, ite_self, keep_rfxProofCompare]

theorem keep_dchMod x0 x1 s : keep (dchMod x0 x1 s) = keep s := by
  simp only [dchMod, ↓keep_mk, keep_eta, keep_ite, ite_self]

theorem keep_outsUpdate s : keep (outsUpdate s) = keep s := by
  simp only [outsUpdate, ↓keep_mk, keep_eta]

theorem keep_testNotDone x0 x1 x2 x3 s : keep (testNotDone x0 x1 x2 x3 s) = keep s := by
  simp only [testNotDone, ↓keep_mk, keep_eta, keep_dchMod, keep_record]

theorem keep_testsCheck s : keep (testsCheck s) = keep s := by
  unfold testsCheck
  refine keep_foldl _ _ _ fun s n => ?_
  split
  · rfl
  · split
    · rfl
    · exact keep_testNotDone _ _ _ _ _

theorem keep_latchUpdate s : keep (latchUpdate s) = keep s := by
  simp only [latchUpdate, keep_outsUpdate, keep_testsCheck]

theorem keep_rfxDrain t l s : keep (rfxDrain t l s) = keep s := by
  induction l generalizing s with
  | nil => rfl
  | cons p ps ih =>
    unfold rfxDrain
    split
    · simp only [ih, keep_latchUpdate, ↓keep_mk, keep_eta]
    · rfl

theorem keep_opReflexSourceChange s : keep (opReflexSourceChange s) = keep s := by
  unfold opReflexSourceChange
  repeat' split
  all_goals simp only [keep_reach, keep_rfxDrain]

theorem keep_opReflexMismatch x0 x1 s : keep (opReflexMismatch x0 x1 s) = keep s := by
  simp only [opReflexMismatch, ↓keep_mk, keep_eta, keep_ite, ite_self, keep_latchUpdate, keep_record]

theorem keep_opReflexLane x0 s : keep (opReflexLane x0 s) = keep s := by
  simp only [opReflexLane, ↓keep_mk, keep_eta, keep_ite, ite_self, keep_latchUpdate, keep_record]

theorem keep_opReflexCheck x0 x1 x2 s : keep (opReflexCheck x0 x1 x2 s) = keep s := by
  unfold opReflexCheck
  repeat' split
  all_goals simp only [↓keep_mk, keep_eta, keep_latchUpdate, keep_record]

theorem keep_reflexReset x0 s : keep (reflexReset x0 s).2 = keep s := by
  simp only [reflexReset, ↓keep_mk, keep_eta, keep_latchUpdate, keep_record]

theorem keep_rfxLoad x0 s : keep (rfxLoad x0 s) = keep s := by
  unfold rfxLoad
  repeat' split
  all_goals simp only [↓keep_mk, keep_eta, keep_rfxUpdate]

theorem keep_rfxSwap x0 s : keep (rfxSwap x0 s) = keep s := by
  unfold rfxSwap
  repeat' split
  all_goals simp only [↓keep_mk, keep_eta, keep_rfxUpdate, keep_record]

theorem keep_reqSafe x0 s : keep (reqSafe x0 s) = keep s := by
  simp only [reqSafe, ↓keep_mk, keep_eta, keep_rfxUpdate]

theorem keep_diMod x0 x1 s : keep (diMod x0 x1 s) = keep s := by
  simp only [diMod, ↓keep_mk, keep_eta, keep_ite, ite_self]

theorem keep_srcMod x0 x1 s : keep (srcMod x0 x1 s) = keep s := by
  simp only [srcMod, ↓keep_mk, keep_eta, keep_ite, ite_self]

theorem keep_dgroupMod x0 x1 s : keep (dgroupMod x0 x1 s) = keep s := by
  simp only [dgroupMod, ↓keep_mk, keep_eta, keep_ite, ite_self]

theorem keep_dgrpMod x0 x1 s : keep (dgrpMod x0 x1 s) = keep s := by
  simp only [dgrpMod, ↓keep_mk, keep_eta, keep_ite, ite_self]

theorem keep_pairMod x0 x1 s : keep (pairMod x0 x1 s) = keep s := by
  simp only [pairMod, ↓keep_mk, keep_eta, keep_ite, ite_self]

theorem keep_pairEval x0 s : keep (pairEval x0 s) = keep s := by
  simp only [pairEval, keep_ite, ite_self, keep_record, keep_pairMod]

theorem keep_pairsEval s : keep (pairsEval s) = keep s := by
  simp only [pairsEval, implies_true, keep_foldl, keep_pairEval]

theorem keep_diAfter s : keep (diAfter s) = keep s := by
  simp only [diAfter, keep_rfxUpdate, keep_pairsEval]

theorem keep_opPairFault x0 s : keep (opPairFault x0 s) = keep s := by
  unfold opPairFault
  dsimp only
  repeat' split
  all_goals simp only [↓keep_mk, keep_eta, keep_reach, keep_pairMod, keep_record]

theorem keep_pairsRestart s : keep (pairsRestart s) = keep s := by
  simp only [pairsRestart, ↓keep_mk, keep_eta, keep_pairsEval]

theorem keep_opBypassChange x0 x1 s : keep (opBypassChange x0 x1 s) = keep s := by
  simp only [opBypassChange, keep_ite, ite_self, keep_diMod, keep_diAfter]

theorem keep_opDebounceExpiry x0 s : keep (opDebounceExpiry x0 s) = keep s := by
  unfold opDebounceExpiry
  repeat' split
  all_goals simp only [keep_diAfter, keep_diMod, keep_reach]

theorem keep_diStart s : keep (diStart s) = keep s := by
  simp only [diStart, ↓keep_mk, keep_eta, keep_diAfter]

theorem keep_diRestartCounts s : keep (diRestartCounts s) = keep s := by
  simp only [diRestartCounts, ↓keep_mk, keep_eta, keep_diAfter]

theorem keep_opDiSupplyMissing x0 x1 s : keep (opDiSupplyMissing x0 x1 s) = keep s := by
  simp only [opDiSupplyMissing, ↓keep_mk, keep_eta, keep_ite, ite_self, keep_dgroupMod, keep_diAfter, keep_record]

theorem keep_opDiSupplyLow x0 x1 s : keep (opDiSupplyLow x0 x1 s) = keep s := by
  simp only [opDiSupplyLow, keep_ite, ite_self, keep_record, keep_dgroupMod]

theorem keep_opDiSupplyOk x0 x1 s : keep (opDiSupplyOk x0 x1 s) = keep s := by
  simp only [opDiSupplyOk, keep_ite, ite_self, keep_dgroupMod, keep_record, keep_diAfter]

theorem keep_opTestPulseStart x0 s : keep (opTestPulseStart x0 s) = keep s := by
  simp only [opTestPulseStart, ↓keep_mk, keep_eta, keep_ite, ite_self, keep_reach, keep_srcMod, keep_pairsEval]

theorem keep_tpJudge x0 x1 x2 s : keep (tpJudge x0 x1 x2 s) = keep s := by
  simp only [tpJudge, ↓keep_mk, keep_eta, keep_ite, ite_self, keep_diMod, keep_record]

theorem keep_opTestPulseEnd x0 x1 s : keep (opTestPulseEnd x0 x1 s) = keep s := by
  unfold opTestPulseEnd
  repeat' split
  all_goals simp only [implies_true, keep_foldl, keep_reach, keep_tpJudge, keep_srcMod, keep_diAfter]

theorem keep_opTestWindowEnd x0 s : keep (opTestWindowEnd x0 s) = keep s := by
  unfold opTestWindowEnd
  repeat' split
  all_goals simp only [↓keep_mk, keep_eta, keep_reach, keep_srcMod, keep_diAfter]

theorem keep_opTpSourceFault x0 x1 s : keep (opTpSourceFault x0 x1 s) = keep s := by
  simp only [opTpSourceFault, keep_ite, ite_self, keep_srcMod, keep_diAfter, keep_record]

theorem keep_cutOpen x0 x1 s : keep (cutOpen x0 x1 s) = keep s := by
  simp only [cutOpen, keep_ite, ite_self, keep_dgrpMod, keep_outsUpdate, keep_record]

theorem keep_setStuckOn x0 x1 s : keep (setStuckOn x0 x1 s) = keep s := by
  simp only [setStuckOn, ↓keep_mk, keep_eta, keep_ite, ite_self, keep_dchMod, keep_record, keep_cutOpen]

theorem keep_opStuckOn x0 s : keep (opStuckOn x0 s) = keep s := by
  simp only [opStuckOn, ↓keep_mk, keep_eta, keep_ite, ite_self, keep_setStuckOn]

theorem keep_opStuckOff x0 s : keep (opStuckOff x0 s) = keep s := by
  simp only [opStuckOff, ↓keep_mk, keep_eta, keep_ite, ite_self, keep_dchMod, keep_record]

theorem keep_opDoShort x0 x1 s : keep (opDoShort x0 x1 s) = keep s := by
  simp only [opDoShort, ↓keep_mk, keep_eta, keep_ite, ite_self, keep_dchMod, keep_latchUpdate, keep_record]

theorem keep_groupLatch x0 s : keep (groupLatch x0 s) = keep s := by
  simp only [groupLatch, implies_true, keep_foldl, keep_dchMod, keep_dgrpMod]

theorem keep_opGroupOverload x0 x1 s : keep (opGroupOverload x0 x1 s) = keep s := by
  simp only [opGroupOverload, keep_ite, ite_self, keep_dgrpMod, keep_latchUpdate, keep_record, keep_groupLatch]

theorem keep_opBuoyOverload ma mas s : keep (opBuoyOverload ma mas s) = keep s := by
  unfold opBuoyOverload
  dsimp only
  split
  · split
    · simp only [↓keep_mk, keep_eta, keep_foldl, keep_dgrpMod, implies_true]
    · simp only [↓keep_mk, keep_eta, keep_foldl, keep_dgrpMod, implies_true, keep_latchUpdate, keep_record, keep_groupLatch]
  · simp only [↓keep_mk, keep_eta]

theorem keep_opTestStart x0 x1 s : keep (opTestStart x0 x1 s) = keep s := by
  unfold opTestStart
  dsimp only
  repeat' split
  all_goals simp only [↓keep_mk, keep_eta, keep_reach, keep_testNotDone, keep_outsUpdate, keep_dchMod]

theorem keep_setOpen x0 x1 x2 s : keep (setOpen x0 x1 x2 s) = keep s := by
  simp only [setOpen, ↓keep_mk, keep_eta, keep_ite, ite_self, keep_dchMod, keep_record]

theorem keep_opTestEnd x0 x1 x2 s : keep (opTestEnd x0 x1 x2 s) = keep s := by
  unfold opTestEnd
  repeat' split
  all_goals simp only [↓keep_mk, keep_eta, keep_ite, ite_self, keep_reach, keep_dchMod, keep_outsUpdate, keep_setStuckOn,
      keep_setOpen]

theorem keep_opOnStateOpen x0 x1 s : keep (opOnStateOpen x0 x1 s) = keep s := by
  simp only [opOnStateOpen, keep_ite, ite_self, keep_dchMod, keep_setOpen]

theorem keep_doStrobe x0 x1 x2 x3 x4 s : keep (doStrobe x0 x1 x2 x3 x4 s) = keep s := by
  unfold doStrobe
  dsimp only
  refine (keep_foldl _ _ _ fun s n => ?_).trans ((keep_foldl _ _ _ fun s g => ?_).trans (keep_foldl _ _ _ fun s n => ?_))
  · simp only [keep_ite, keep_dchMod, ite_self]
  · exact keep_dgrpMod _ _ _
  · refine keep_ite_id ?_ rfl
    rw [keep_dchMod]
    split
    · exact keep_ite_id (keep_testNotDone _ _ _ _ _) rfl
    · rfl

theorem keep_doClamp x0 x1 s : keep (doClamp x0 x1 s) = keep s := by
  simp only [doClamp, ↓keep_mk, keep_eta, keep_ite, ite_self, keep_dchMod, keep_record]

theorem keep_opXcutOpen x0 x1 s : keep (opXcutOpen x0 x1 s) = keep s := by
  simp only [opXcutOpen, ↓keep_mk, keep_eta, keep_ite, ite_self, keep_cutOpen, keep_record]

theorem keep_opXcutMaskExpiry x0 s : keep (opXcutMaskExpiry x0 s) = keep s := by
  unfold opXcutMaskExpiry
  repeat' split
  all_goals simp only [↓keep_mk, keep_eta, keep_reach]

theorem keep_dioLoad x0 s : keep (dioLoad x0 s) = keep s := by
  simp only [dioLoad, ↓keep_mk, keep_eta, keep_diStart]

theorem keep_liMod x0 x1 s : keep (liMod x0 x1 s) = keep s := by
  simp only [liMod, ↓keep_mk, keep_eta, keep_ite, ite_self]

theorem keep_loMod x0 x1 s : keep (loMod x0 x1 s) = keep s := by
  simp only [loMod, ↓keep_mk, keep_eta, keep_ite, ite_self]

theorem keep_hartMod x0 x1 s : keep (hartMod x0 x1 s) = keep s := by
  simp only [hartMod, ↓keep_mk, keep_eta, keep_ite, ite_self]

theorem keep_aoUpdate1 x0 s : keep (aoUpdate1 x0 s) = keep s := by
  simp only [aoUpdate1, keep_ite, ite_self, keep_loMod]

theorem keep_aoUpdate s : keep (aoUpdate s) = keep s := by
  simp only [aoUpdate, implies_true, keep_foldl, keep_aoUpdate1]

theorem keep_aoStrobe x0 s : keep (aoStrobe x0 s) = keep s := by
  simp only [aoStrobe, keep_ite, ite_self, implies_true, keep_foldl, keep_aoUpdate, keep_loMod]

theorem keep_namurStep x0 s : keep (namurStep x0 s) = keep s := by
  simp only [namurStep, ↓keep_mk, keep_eta, keep_ite, ite_self, keep_liMod, keep_record]

theorem keep_starvedStep x0 x1 s : keep (starvedStep x0 x1 s) = keep s := by
  simp only [starvedStep, ↓keep_mk, keep_eta, keep_ite, ite_self, keep_liMod, keep_record]

theorem keep_readbackStep x0 x1 s : keep (readbackStep x0 x1 s) = keep s := by
  simp only [readbackStep, ↓keep_mk, keep_eta, keep_ite, ite_self, keep_loMod, keep_aoUpdate, keep_record]

theorem keep_opLoopWindow x0 s : keep (opLoopWindow x0 s) = keep s := by
  unfold opLoopWindow
  repeat' split
  all_goals simp only [↓keep_mk, keep_eta, implies_true, keep_foldl, keep_reach, keep_liMod, keep_starvedStep,
      keep_namurStep, keep_readbackStep]

theorem keep_opSupplyLimit x0 x1 s : keep (opSupplyLimit x0 x1 s) = keep s := by
  simp only [opSupplyLimit, keep_ite, ite_self, keep_record, keep_liMod]

theorem keep_opCompliance x0 x1 s : keep (opCompliance x0 x1 s) = keep s := by
  simp only [opCompliance, ↓keep_mk, keep_eta, keep_ite, ite_self, keep_loMod, keep_record, keep_aoUpdate]

theorem keep_opComplianceCleared x0 x1 s : keep (opComplianceCleared x0 x1 s) = keep s := by
  simp only [opComplianceCleared, keep_ite, ite_self, keep_record, keep_loMod]

theorem keep_longDone x0 x1 x2 s : keep (longDone x0 x1 x2 s) = keep s := by
  simp only [longDone, ↓keep_mk, keep_eta]

theorem keep_hartSend x0 x1 s : keep (hartSend x0 x1 s) = keep s := by
  simp only [hartSend, ↓keep_mk, keep_eta, keep_hartMod, keep_emit]

theorem keep_opHartIdentify x0 s : keep (opHartIdentify x0 s) = keep s := by
  simp only [opHartIdentify, keep_ite, ite_self, keep_reach, keep_hartSend, keep_hartMod]

theorem keep_opHartCyclic x0 s : keep (opHartCyclic x0 s) = keep s := by
  simp only [opHartCyclic, keep_ite, ite_self, keep_reach, keep_hartSend, keep_hartMod]

theorem keep_hartPassDone x0 x1 x2 s : keep (hartPassDone x0 x1 x2 s) = keep s := by
  unfold hartPassDone
  repeat' split
  all_goals simp only [keep_hartMod, keep_record, keep_longDone]

theorem keep_hartBlock x0 x1 s : keep (hartBlock x0 x1 s) = keep s := by
  simp only [hartBlock, keep_hartMod]

theorem keep_hartCfgChanged x0 x1 s : keep (hartCfgChanged x0 x1 s) = keep s := by
  simp only [hartCfgChanged, keep_ite, ite_self, keep_hartMod, keep_record]

theorem keep_hartFail x0 x1 s : keep (hartFail x0 x1 s) = keep s := by
  unfold hartFail
  repeat' split
  all_goals simp only [keep_ite, ite_self, keep_hartPassDone, keep_hartMod, keep_record]

theorem keep_hartRetry x0 x1 s : keep (hartRetry x0 x1 s) = keep s := by
  simp only [hartRetry, ↓keep_mk, keep_eta, keep_ite, ite_self, keep_hartMod, keep_emit, keep_hartFail]

theorem keep_opHartResponse x0 x1 s : keep (opHartResponse x0 x1 s) = keep s := by
  unfold opHartResponse
  repeat' split
  all_goals simp only [↓keep_mk, keep_eta, keep_hartMod, keep_hartBlock, keep_hartRetry, keep_hartCfgChanged, keep_record,
      keep_hartPassDone]

theorem keep_opHartTimeout x0 s : keep (opHartTimeout x0 s) = keep s := by
  unfold opHartTimeout
  repeat' split
  all_goals simp only [keep_hartRetry]

theorem keep_hartStart x0 s : keep (hartStart x0 s) = keep s := by
  simp only [hartStart, implies_true, keep_foldl, keep_hartMod]

theorem keep_loopLoad x0 s : keep (loopLoad x0 s) = keep s := by
  simp only [loopLoad, ↓keep_mk, keep_eta, keep_hartStart, keep_aoUpdate]

theorem keep_portMod x0 x1 s : keep (portMod x0 x1 s) = keep s := by
  simp only [portMod, ↓keep_mk, keep_eta, keep_ite, ite_self]

theorem keep_txMod x0 x1 x2 s : keep (txMod x0 x1 x2 s) = keep s := by
  simp only [txMod, keep_portMod]

theorem keep_canErrState x0 x1 x2 s : keep (canErrState x0 x1 x2 s) = keep s := by
  simp only [canErrState, keep_ite, ite_self, keep_portMod, keep_record]

theorem keep_canLost x0 x1 x2 s : keep (canLost x0 x1 x2 s) = keep s := by
  simp only [canLost, keep_portMod, keep_record]

theorem keep_canStart x0 s : keep (canStart x0 s) = keep s := by
  unfold canStart
  repeat' split
  all_goals simp only [keep_ite, ite_self, keep_txMod]

theorem keep_canPut x0 x1 x2 s : keep (canPut x0 x1 x2 s) = keep s := by
  unfold canPut
  dsimp only
  repeat' split
  all_goals simp only [keep_canLost, keep_txMod]

theorem keep_canAttemptFailed x0 x1 s : keep (canAttemptFailed x0 x1 s) = keep s := by
  unfold canAttemptFailed
  dsimp only
  repeat' split
  all_goals simp only [keep_txMod, keep_canLost]

theorem keep_traceCan x0 x1 x2 s : keep (traceCan x0 x1 x2 s) = keep s := by
  simp only [traceCan, keep_ite, ite_self, keep_ctrAdd, keep_traceCap]

theorem keep_opCanTxComplete x0 x1 x2 s : keep (opCanTxComplete x0 x1 x2 s) = keep s := by
  unfold opCanTxComplete
  repeat' split
  all_goals simp only [keep_ite, ite_self, keep_emit, keep_portMod, keep_traceCan, keep_txMod, keep_canErrState,
      keep_record, keep_canStart]

theorem keep_opCanArbLost x0 x1 s : keep (opCanArbLost x0 x1 s) = keep s := by
  simp only [opCanArbLost, keep_ite, ite_self, keep_portMod, keep_canAttemptFailed]

theorem keep_foldl_fst {α β} (f : State × β → α → State × β) (l : List α) (s : State × β) (h : ∀ s x, keep (f s x).1 = keep s.1) :
    keep (l.foldl f s).1 = keep s.1 := by
  induction l generalizing s with
  | nil => rfl
  | cons x l ih => rw [List.foldl_cons, ih, h]

theorem keep_canBusOff n s : keep (canBusOff n s) = keep s := by
  unfold canBusOff
  generalize hp : List.foldl _ _ _ = p
  have e : keep p.1 = keep s := by
    rw [← hp]
    refine keep_foldl_fst _ _ _ fun x b => ?_
    simp only [keep_txMod, keep_ite, keep_canLost, ite_self]
  obtain ⟨s1, k⟩ := p
  simpa only [keep_record, keep_portMod] using e

theorem keep_opCanBusError x0 x1 x2 x3 x4 x5 s : keep (opCanBusError x0 x1 x2 x3 x4 x5 s) = keep s := by
  unfold opCanBusError
  repeat' split
  all_goals simp only [keep_ite, ite_self, keep_portMod, keep_canAttemptFailed, keep_canBusOff, keep_canErrState]

theorem keep_opCanBusOffDelay x0 s : keep (opCanBusOffDelay x0 s) = keep s := by
  simp only [opCanBusOffDelay, keep_ite, ite_self, keep_portMod, keep_reach]

theorem keep_opCanBusOn x0 s : keep (opCanBusOn x0 s) = keep s := by
  simp only [opCanBusOn, keep_ite, ite_self, keep_portMod, keep_record]

theorem keep_slotTake x0 x1 x2 s : keep (slotTake x0 x1 x2 s) = keep s := by
  simp only [slotTake, keep_ite, ite_self, keep_record, keep_portMod]

theorem keep_fifoTake x0 x1 x2 s : keep (fifoTake x0 x1 x2 s) = keep s := by
  simp only [fifoTake, keep_ite, ite_self, keep_portMod, keep_record]

theorem keep_opCanReceive x0 x1 x2 s : keep (opCanReceive x0 x1 x2 s) = keep s := by
  unfold opCanReceive
  dsimp only
  repeat' split
  all_goals simp only [keep_portMod, keep_canErrState, keep_canStart, keep_traceCan, keep_slotTake, keep_fifoTake]

theorem keep_opCanRxStale x0 x1 s : keep (opCanRxStale x0 x1 s) = keep s := by
  unfold opCanRxStale
  dsimp only
  repeat' split
  all_goals simp only [keep_reach, keep_record, keep_portMod]

theorem keep_canStrobe x0 x1 s : keep (canStrobe x0 x1 s) = keep s := by
  simp only [canStrobe, keep_ite, ite_self, implies_true, keep_foldl, keep_txMod, keep_canPut, keep_canStart]

theorem keep_canDiscard x0 s : keep (canDiscard x0 s) = keep s := by
  unfold canDiscard
  repeat' first
    | rfl
    | (simp only [keep_ite, ite_self, keep_txMod]; done)
    | refine keep_snd (by assumption) ?_
    | simp only []
    | split
    | refine (keep_foldl _ _ _ ?_).trans ?_
    | intro _

theorem keep_canCancel x0 x1 x2 s : keep (canCancel x0 x1 x2 s).2 = keep s := by
  unfold canCancel
  dsimp only
  repeat' split
  all_goals simp only [keep_txMod, keep_portMod, keep_record]

theorem keep_canRestart x0 s : keep (canRestart x0 s).2 = keep s := by
  unfold canRestart
  repeat' split
  all_goals simp only [keep_portMod]

theorem keep_canLoad x0 s : keep (canLoad x0 s) = keep s := by
  unfold canLoad
  repeat' first
    | rfl
    | (simp only [keep_portMod]; done)
    | refine keep_snd (by assumption) ?_
    | simp only [↓keep_mk, keep_eta, keep_ite, keep_ite_snd, ite_self, implies_true, keep_foldl, keep_portMod]
    | split
    | refine (keep_foldl _ _ _ ?_).trans ?_
    | intro _

theorem keep_canRestarted s : keep (canRestarted s) = keep s := by
  simp only [canRestarted, keep_ite, ite_self, implies_true, keep_foldl, keep_portMod]

theorem keep_portUpd x0 x1 s : keep (portUpd x0 x1 s) = keep s := by
  simp only [portUpd, ↓keep_mk, keep_eta, keep_ite, ite_self]

theorem keep_portSend x0 x1 s : keep (portSend x0 x1 s) = keep s := by
  simp only [portSend, keep_ite, ite_self, keep_emit, keep_portUpd]

theorem keep_ecnSend x0 s : keep (ecnSend x0 s) = keep s := by
  simp only [ecnSend, ↓keep_mk, keep_eta, keep_ite, ite_self, implies_true, keep_foldl, keep_portUpd, keep_emit]

theorem keep_candMod x0 x1 s : keep (candMod x0 x1 s) = keep s := by
  simp only [candMod, ↓keep_mk, keep_eta, keep_ite, ite_self]

theorem keep_tsStep x0 x1 s : keep (tsStep x0 x1 s) = keep s := by
  simp only [tsStep, ↓keep_mk, keep_eta, keep_epochBumps, keep_record]

theorem keep_slewTo s : keep (slewTo s) = keep s := by
  simp only [slewTo, ↓keep_mk, keep_eta]

theorem keep_enterHoldover s : keep (enterHoldover s) = keep s := by
  simp only [enterHoldover, ↓keep_mk, keep_eta, keep_record]

theorem keep_startSwitch x0 s : keep (startSwitch x0 s) = keep s := by
  simp only [startSwitch, ↓keep_mk, keep_eta, keep_ite, ite_self, keep_record, keep_tsStep, keep_slewTo]

theorem keep_retarget x0 s : keep (retarget x0 s) = keep s := by
  simp only [retarget, ↓keep_mk, keep_eta, keep_ite, ite_self, keep_record, keep_enterHoldover, keep_slewTo]

theorem keep_reselect s : keep (reselect s) = keep s := by
  simp only [reselect, keep_ite, ite_self, keep_retarget, keep_enterHoldover, keep_startSwitch]

theorem keep_candLost x0 x1 x2 s : keep (candLost x0 x1 x2 s) = keep s := by
  simp only [candLost, ↓keep_mk, keep_eta, keep_ite, ite_self, keep_candMod, keep_reselect, keep_record]

theorem keep_opPtpMessage x0 x1 s : keep (opPtpMessage x0 x1 s) = keep s := by
  unfold opPtpMessage
  repeat' split
  all_goals simp only [↓keep_mk, keep_eta, keep_ite, ite_self, keep_candMod, keep_candLost]

theorem keep_opRefQualified x0 s : keep (opRefQualified x0 s) = keep s := by
  simp only [opRefQualified, keep_ite, ite_self, keep_reach, keep_candMod, keep_reselect, keep_record]

theorem keep_opRefLost x0 x1 s : keep (opRefLost x0 x1 s) = keep s := by
  simp only [opRefLost, keep_ite, ite_self, keep_reach, keep_candLost]

theorem keep_opSwitchDone x0 s : keep (opSwitchDone x0 s) = keep s := by
  simp only [opSwitchDone, ↓keep_mk, keep_eta, keep_ite, ite_self, keep_candMod, keep_record]

theorem keep_opTimeOffsetHigh s : keep (opTimeOffsetHigh s) = keep s := by
  unfold opTimeOffsetHigh
  repeat' split
  all_goals simp only [↓keep_mk, keep_eta, keep_reach, keep_record]

theorem keep_opPtpSend x0 x1 s : keep (opPtpSend x0 x1 s) = keep s := by
  simp only [opPtpSend, keep_ite, ite_self, keep_candMod, keep_portSend]

theorem keep_reachSecond s : keep (reachSecond s) = keep s := by
  simp only [reachSecond, keep_advance]

theorem keep_almMod x0 x1 s : keep (almMod x0 x1 s) = keep s := by
  simp only [almMod, ↓keep_mk, keep_eta, keep_ite, ite_self]

theorem keep_alarmFire x0 s : keep (alarmFire x0 s) = keep s := by
  simp only [alarmFire, keep_ite, ite_self, keep_almMod, keep_record]

theorem keep_opRtcAlarm x0 s : keep (opRtcAlarm x0 s) = keep s := by
  simp only [opRtcAlarm, keep_ite, ite_self, keep_alarmFire, keep_reachSecond]

theorem keep_opRtcShift s : keep (opRtcShift s) = keep s := by
  unfold opRtcShift
  repeat' split
  all_goals simp only [↓keep_mk, keep_eta, keep_ite, ite_self, keep_reachSecond, keep_record]

theorem keep_rtcCorrect s : keep (rtcCorrect s) = keep s := by
  simp only [rtcCorrect, ↓keep_mk, keep_eta, keep_ite, ite_self, keep_reachSecond]

theorem keep_opRtcCorrection s : keep (opRtcCorrection s) = keep s := by
  simp only [opRtcCorrection, keep_ite, ite_self, keep_rtcCorrect, keep_reach]

theorem keep_opRtcBackup x0 s : keep (opRtcBackup x0 s) = keep s := by
  simp only [opRtcBackup, ↓keep_mk, keep_eta, keep_ite, ite_self]

theorem keep_opRtcCellLow x0 s : keep (opRtcCellLow x0 s) = keep s := by
  simp only [opRtcCellLow, ↓keep_mk, keep_eta, keep_ite, ite_self, keep_record]

theorem keep_opRtcRollover s : keep (opRtcRollover s) = keep s := by
  simp only [opRtcRollover, keep_ite, ite_self, keep_reachSecond, keep_advance]

theorem keep_canReply x0 x1 x2 s : keep (canReply x0 x1 x2 s) = keep s := by
  simp only [canReply, ↓keep_mk, keep_eta, keep_freeNext, keep_canStart, keep_canPut]

theorem keep_slotOutcome x0 x1 s : keep (slotOutcome x0 x1 s) = keep s := by
  simp only [slotOutcome, ↓keep_mk, keep_eta]

theorem keep_finish x0 x1 s : keep (finish x0 x1 s) = keep s := by
  unfold finish
  repeat' split
  all_goals simp only [keep_ite, ite_self, keep_replyTo, keep_canReply, keep_slotOutcome]

theorem keep_abandonDeclared s : keep (abandonDeclared s) = keep s := by
  unfold abandonDeclared
  repeat' first
    | rfl
    | (simp only [↓keep_mk, keep_eta, keep_finish]; done)
    | refine keep_snd (by assumption) ?_
    | simp only []
    | split
    | refine (keep_foldl _ _ _ ?_).trans ?_
    | intro _

theorem keep_twinQueue x0 s : keep (twinQueue x0 s) = keep s := by
  simp only [twinQueue, ↓keep_mk, keep_eta]

theorem keep_relinquish x0 s : keep (relinquish x0 s) = keep s := by
  simp only [relinquish, ↓keep_mk, keep_eta, keep_ite, ite_self, keep_record]

theorem keep_beamSafe x0 s : keep (beamSafe x0 s) = keep s := by
  unfold beamSafe
  repeat' split
  all_goals simp only [↓keep_mk, keep_eta, keep_ite, ite_self, implies_true, keep_foldl]

theorem keep_lampsStop x0 s : keep (lampsStop x0 s) = keep s := by
  simp only [lampsStop, ↓keep_mk, keep_eta]

theorem keep_cycleAbandon x0 x1 s : keep (cycleAbandon x0 x1 s) = keep s := by
  simp only [cycleAbandon, keep_taskMod]

theorem keep_cutsSafe x0 s : keep (cutsSafe x0 s) = keep s := by
  simp only [cutsSafe, keep_ite, ite_self, implies_true, keep_foldl, keep_cutOpen]

theorem keep_sectorSafe x0 x1 s : keep (sectorSafe x0 x1 s) = keep s := by
  simp only [sectorSafe, keep_ite, ite_self, implies_true, keep_foldl, keep_cycleAbandon, keep_lampsStop, keep_setSector,
      keep_proofAbort, keep_beamSafe, keep_canDiscard, keep_reqSafe, keep_cutsSafe, keep_aoUpdate, keep_latchUpdate,
      keep_record, keep_relinquish, keep_twinQueue]

theorem keep_taskStop x0 s : keep (taskStop x0 s) = keep s := by
  simp only [taskStop, keep_ite, ite_self, keep_record, keep_cycleAbandon, keep_lampsStop, keep_aoUpdate,
      keep_latchUpdate, keep_beamSafe, keep_canDiscard, keep_reqSafe]

theorem keep_outputsSafe s : keep (outputsSafe s) = keep s := by
  simp only [outputsSafe, keep_beamSafe, keep_canDiscard, keep_reqSafe, keep_cutsSafe, keep_aoUpdate, keep_latchUpdate]

theorem keep_tasksHalt x0 s : keep (tasksHalt x0 s) = keep s := by
  simp only [tasksHalt, implies_true, keep_foldl, keep_cycleAbandon, keep_lampsStop]

theorem keep_rejoinFail x0 s : keep (rejoinFail x0 s) = keep s := by
  simp only [rejoinFail, ↓keep_mk, keep_eta, keep_ite, ite_self, keep_tasksHalt, keep_twinQueue, keep_record]

theorem keep_snapDrop s : keep (snapDrop s) = keep s := by
  unfold snapDrop
  repeat' split
  all_goals simp only [↓keep_mk, keep_eta, implies_true, keep_foldl, keep_finish, keep_record]

theorem keep_safeNote x0 s : keep (safeNote x0 s) = keep s := by
  simp only [safeNote, ↓keep_mk, keep_eta]

theorem keep_safeTell x0 s : keep (safeTell x0 s) = keep s := by
  simp only [safeTell, keep_ite, ite_self, implies_true, keep_foldl, keep_relinquish, keep_twinQueue]

theorem tight_enterSafe src cause co s : (keep s).Tight (keep (enterSafe src cause co s)) := by
  unfold enterSafe
  refine tight_ite (fun _ => tight_eq rfl) (fun _ => ?_)
  dsimp only
  rw [keep_safeTell, keep_rejoinFail, keep_snapDrop, keep_counterInc, keep_record, keep_outputsSafe, keep_tasksHalt,
      keep_safeNote,
    keep_abandonDeclared, setExec_keep, keep_proofAbort]
  exact tight_scan_off _

theorem keep_cutTestNext t l f p k s : keep (cutTestNext t l f p k s) = keep s := by
  induction l generalizing k with
  | nil =>
    unfold cutTestNext
    dsimp only
    split
    · simp only [keep_longDone, ↓keep_mk, keep_eta]
    · simp only [↓keep_mk, keep_eta]
  | cons g gs ih =>
    unfold cutTestNext
    split
    · exact ih _
    · simp only [↓keep_mk, keep_eta]

theorem keep_cutTestStart x0 x1 s : keep (cutTestStart x0 x1 s) = keep s := by
  simp only [cutTestStart, keep_cutTestNext]

theorem keep_opCutTestPeriodic s : keep (opCutTestPeriodic s) = keep s := by
  simp only [opCutTestPeriodic, ↓keep_mk, keep_eta, keep_ite, ite_self, keep_reach, keep_cutTestStart]

theorem keep_opCutElementEnd x0 s : keep (opCutElementEnd x0 s) = keep s := by
  unfold opCutElementEnd
  repeat' split
  all_goals simp only [↓keep_mk, keep_eta, keep_ite, ite_self, implies_true, keep_foldl, keep_reach, keep_dgrpMod,
      keep_record, keep_sectorSafe, keep_cutTestNext]

theorem keep_groupCutReset x0 s : keep (groupCutReset x0 s).2 = keep s := by
  simp only [groupCutReset, keep_ite_snd, ite_self, keep_outsUpdate, keep_record, keep_dgrpMod]

theorem keep_cutsClose x0 s : keep (cutsClose x0 s) = keep s := by
  simp only [cutsClose, keep_ite, ite_self, implies_true, keep_foldl, keep_dgrpMod, keep_outsUpdate, keep_record]

theorem keep_sockMod x0 x1 s : keep (sockMod x0 x1 s) = keep s := by
  simp only [sockMod, ↓keep_mk, keep_eta, keep_ite, ite_self]

theorem keep_sockFollow x0 s : keep (sockFollow x0 s) = keep s := by
  simp only [sockFollow, keep_ite, ite_self, keep_diAfter, keep_latchUpdate, keep_hartStart, keep_aoUpdate]

theorem keep_hartDrop s : keep (hartDrop s) = keep s := by
  simp only [hartDrop, implies_true, keep_foldl, keep_hartPassDone]

theorem keep_lifeCheck x0 s : keep (lifeCheck x0 s) = keep s := by
  simp only [lifeCheck, keep_ite, ite_self, keep_record, keep_sockMod]

theorem keep_buoyCommit x0 s : keep (buoyCommit x0 s) = keep s := by
  simp only [buoyCommit, keep_sockMod]

theorem keep_mirrorWrite x0 s : keep (mirrorWrite x0 s) = keep s := by
  simp only [mirrorWrite, keep_ite, ite_self, implies_true, keep_foldl, keep_counterPut]

theorem keep_mirrorRestore x0 s : keep (mirrorRestore x0 s) = keep s := by
  unfold mirrorRestore
  repeat' split
  all_goals simp only [keep_ite, ite_self, keep_sockMod, keep_emit, keep_record]

theorem keep_opBuoyInserted x0 s : keep (opBuoyInserted x0 s) = keep s := by
  simp only [opBuoyInserted, keep_ite, ite_self, keep_record, keep_sockMod]

theorem keep_opBuoyAuthDone x0 x1 x2 x3 x4 x5 s : keep (opBuoyAuthDone x0 x1 x2 x3 x4 x5 s) = keep s := by
  simp only [opBuoyAuthDone, keep_ite, ite_self, keep_sockMod, keep_record, keep_lifeCheck, keep_buoyCommit,
      keep_mirrorRestore, keep_emit]

theorem keep_opBuoyAuthRetry x0 s : keep (opBuoyAuthRetry x0 s) = keep s := by
  unfold opBuoyAuthRetry
  repeat' split
  all_goals simp only [keep_sockMod, keep_reach]

theorem keep_buoyEnable x0 s : keep (buoyEnable x0 s) = keep s := by
  simp only [buoyEnable, keep_ite, ite_self, keep_diStart, keep_sockFollow]

theorem keep_opBuoyCfgEcho x0 x1 x2 s : keep (opBuoyCfgEcho x0 x1 x2 s) = keep s := by
  simp only [opBuoyCfgEcho, keep_ite, ite_self, keep_sockMod, keep_buoyEnable, keep_emit, keep_record]

theorem keep_buoyRepush x0 s : keep (buoyRepush x0 s) = keep s := by
  simp only [buoyRepush, keep_ite, ite_self, keep_emit]

theorem keep_opBuoyRemoved x0 s : keep (opBuoyRemoved x0 s) = keep s := by
  simp only [opBuoyRemoved, keep_ite, ite_self, implies_true, keep_foldl, keep_mirrorWrite, keep_hartDrop, keep_sockMod,
      keep_record, keep_sockFollow, keep_sectorSafe]

theorem keep_buoyExchange x0 x1 x2 s : keep (buoyExchange x0 x1 x2 s) = keep s := by
  simp only [buoyExchange, keep_ite, ite_self, keep_hartDrop, keep_sockMod, keep_record, keep_sockFollow]

theorem keep_opExchangeEnd x0 s : keep (opExchangeEnd x0 s) = keep s := by
  simp only [opExchangeEnd, keep_ite, ite_self, implies_true, keep_foldl, keep_reach, keep_sockMod, keep_record,
      keep_dgrpMod, keep_loMod, keep_sockFollow]

theorem keep_opMateChange x0 x1 s : keep (opMateChange x0 x1 s) = keep s := by
  simp only [opMateChange, keep_ite, ite_self, keep_sockMod]

theorem keep_opFeedLost x0 x1 x2 s : keep (opFeedLost x0 x1 x2 s) = keep s := by
  simp only [opFeedLost, keep_ite, ite_self, keep_sockMod, keep_record]

theorem keep_opFeedReturned x0 x1 x2 s : keep (opFeedReturned x0 x1 x2 s) = keep s := by
  simp only [opFeedReturned, keep_ite, ite_self, keep_sockMod]

theorem keep_opBuoySupply x0 x1 s : keep (opBuoySupply x0 x1 s) = keep s := by
  simp only [opBuoySupply, ↓keep_mk, keep_eta, keep_ite, ite_self, keep_latchUpdate, keep_aoUpdate]

theorem keep_opBuoySurge x0 x1 x2 s : keep (opBuoySurge x0 x1 x2 s) = keep s := by
  simp only [opBuoySurge, keep_ite, ite_self, keep_sockMod, keep_record, keep_buoyCommit, keep_lifeCheck]

theorem keep_opBuoyHours x0 x1 s : keep (opBuoyHours x0 x1 s) = keep s := by
  simp only [opBuoyHours, keep_ite, ite_self, keep_lifeCheck, keep_sockMod]

end Sys2Proof.Machine
end

