-- ==== Sys2Proof/Laws/KeptLamp.lean ====
section
/-!
SUPPORT. What every command leaves of the parts that `keep` shows: a lamp and its accesses.
-/
namespace Sys2Proof.Machine

theorem keep_lampMod x0 x1 s : keep (lampMod x0 x1 s) = keep s := by
  simp only [lampMod, ↓keep_mk, keep_eta]

theorem keep_rangeMod x0 x1 x2 s : keep (rangeMod x0 x1 x2 s) = keep s := by
  simp only [rangeMod, keep_galMod]

theorem keep_lampCtr x0 x1 x2 s : keep (lampCtr x0 x1 x2 s) = keep s := by
  simp only [lampCtr, keep_ctrAdd]

theorem keep_chartViolation x0 x1 s : keep (chartViolation x0 x1 s) = keep s := by
  unfold chartViolation
  repeat' split
  all_goals simp only [keep_galMod, keep_record]

theorem keep_eccUncorr x0 x1 x2 x3 x4 s : keep (eccUncorr x0 x1 x2 x3 x4 s) = keep s := by
  simp only [eccUncorr, keep_ite, ite_self, keep_galMod, keep_record]

theorem keep_trapTake x0 x1 s : keep (trapTake x0 x1 s) = keep s := by
  unfold trapTake
  repeat' split
  all_goals simp only [↓keep_mk, keep_eta, keep_ite, ite_self, keep_record, keep_chartViolation, keep_eccUncorr,
      keep_lampMod, keep_sectorSafe, keep_taskStop]

theorem keep_raiseTrap x0 x1 x2 s : keep (raiseTrap x0 x1 x2 s) = keep s := by
  simp only [raiseTrap, keep_ite, ite_self, keep_lampMod, keep_trapTake]

theorem keep_eccCorrect x0 x1 x2 s : keep (eccCorrect x0 x1 x2 s) = keep s := by
  simp only [eccCorrect, keep_ite, ite_self, keep_lampMod, keep_galMod, keep_record]

theorem keep_eccRead x0 x1 x2 x3 x4 s : ∀ t, (eccRead x0 x1 x2 x3 x4 s) = .ok t → keep t = keep s := by
  intro t h
  unfold eccRead at h
  split at h <;> cases h
  · rfl
  · exact keep_eccCorrect _ _ _ _

theorem keep_eccStore x0 x1 x2 x3 x4 x5 s : ∀ t, (eccStore x0 x1 x2 x3 x4 x5 s) = .ok t → keep t = keep s := by
  intro  t h
  unfold eccStore at h
  simp only [] at h
  repeat' split at h
  all_goals first
    | cases h
    | skip
  all_goals repeat first
    | rfl
    | (simp only [↓keep_mk, keep_eta, keep_ite, keep_ite_snd, ite_self, implies_true, keep_foldl]; done)
    | refine (keep_eccRead _ _ _ _ _ _ _ (by assumption)).trans ?_
    | refine keep_snd (by assumption) ?_
    | simp only [↓keep_mk, keep_eta, keep_ite, keep_ite_snd, ite_self, implies_true, keep_foldl]

theorem keep_eccLeave x0 x1 x2 x3 s : keep (eccLeave x0 x1 x2 x3 s) = keep s := by
  simp only [eccLeave, ↓keep_mk, keep_eta, keep_ite, ite_self]

theorem keep_dWordPut x0 x1 x2 s : keep (dWordPut x0 x1 x2 s) = keep s := by
  simp only [dWordPut, ↓keep_mk, keep_eta, keep_ite, ite_self, keep_galMod]

theorem keep_raFull x0 x1 s : keep (raFull x0 x1 s) = keep s := by
  simp only [raFull, keep_ite, ite_self, keep_lampCtr, keep_galMod]

theorem keep_specStore x0 x1 s : ∀ t, (specStore x0 x1 s) = .ok t → keep t = keep s := by
  intro  t h
  unfold specStore at h
  simp only [] at h
  repeat' split at h
  all_goals first
    | cases h
    | skip
  all_goals repeat first
    | rfl
    | (simp only [↓keep_mk, keep_eta, keep_ite, keep_ite_snd, ite_self, implies_true, keep_foldl, keep_lampMod]; done)
    | refine keep_snd (by assumption) ?_
    | simp only [↓keep_mk, keep_eta, keep_ite, keep_ite_snd, ite_self, implies_true, keep_foldl, keep_lampMod]

theorem keep_readSet x0 x1 x2 x3 x4 s : ∀ t, (readSet x0 x1 x2 x3 x4 s) = .ok t → keep t = keep s := by
  intro  t h
  unfold readSet at h
  simp only [] at h
  repeat' split at h
  all_goals first
    | cases h
    | skip
  all_goals repeat first
    | rfl
    | (simp only [↓keep_mk, keep_eta, keep_ite, keep_ite_snd, ite_self, implies_true, keep_foldl, keep_lampMod]; done)
    | refine keep_snd (by assumption) ?_
    | simp only [↓keep_mk, keep_eta, keep_ite, keep_ite_snd, ite_self, implies_true, keep_foldl, keep_lampMod]

theorem keep_visible x0 x1 s : keep (visible x0 x1 s) = keep s := by
  simp only [visible, keep_lampMod]

theorem keep_dLoad x0 x1 x2 s : ∀ v0 v1 t, (dLoad x0 x1 x2 s) = .ok (v0, v1, t) → keep t = keep s := by
  intro v0 v1 t h
  unfold dLoad at h
  simp only [bind, Except.bind] at h
  repeat' split at h
  all_goals first
    | cases h
    | skip
  all_goals repeat first
    | rfl
    | (simp only [keep_lampCtr]; done)
    | refine (keep_eccRead _ _ _ _ _ _ _ (by assumption)).trans ?_
    | refine (keep_readSet _ _ _ _ _ _ _ (by assumption)).trans ?_
    | refine keep_snd (by assumption) ?_
    | simp only [keep_lampCtr]

theorem keep_dPut x0 x1 x2 x3 x4 s : ∀ t, (dPut x0 x1 x2 x3 x4 s) = .ok t → keep t = keep s := by
  intro  t h
  unfold dPut at h
  simp only [] at h
  repeat' split at h
  all_goals first
    | cases h
    | skip
  all_goals repeat first
    | rfl
    | (simp only [keep_visible, keep_dWordPut]; done)
    | refine (keep_specStore _ _ _ _ (by assumption)).trans ?_
    | refine keep_snd (by assumption) ?_
    | simp only [↓keep_mk, keep_eta, keep_ite, keep_ite_snd, ite_self, implies_true, keep_foldl, keep_lampMod,
        keep_visible, keep_dWordPut]

theorem keep_dStore x0 x1 x2 x3 s : ∀ v0 t, (dStore x0 x1 x2 x3 s) = .ok (v0, t) → keep t = keep s := by
  intro v0 t h
  unfold dStore at h
  simp only [bind, Except.bind] at h
  repeat' split at h
  all_goals first
    | cases h
    | skip
  all_goals repeat first
    | rfl
    | (simp only [keep_lampCtr]; done)
    | refine (keep_eccStore _ _ _ _ _ _ _ _ (by assumption)).trans ?_
    | refine (keep_dPut _ _ _ _ _ _ _ (by assumption)).trans ?_
    | refine keep_snd (by assumption) ?_
    | simp only [keep_lampCtr]

theorem keep_lampCount x0 s : keep (lampCount x0 s) = keep s := by
  simp only [lampCount, keep_ite, ite_self, keep_lampCtr]

theorem keep_lampNext x0 x1 s : keep (lampNext x0 x1 s) = keep s := by
  simp only [lampNext, keep_lampMod, keep_lampCount]

theorem keep_lampJump x0 x1 x2 s : keep (lampJump x0 x1 x2 s) = keep s := by
  simp only [lampJump, keep_lampMod, keep_lampCount]

theorem keep_lampRun x0 x1 f2 s (h2 : ∀ u, ∀ t, (f2 u) = .ok t → keep t = keep u) : keep (lampRun x0 x1 f2 s) = keep s := by
  unfold lampRun
  dsimp only
  split
  · rfl
  · split
    · exact keep_raiseTrap _ _ _ _
    · split
      · rw [keep_raiseTrap, keep_eccLeave]
      · rename_i he
        have e := keep_eccRead _ _ _ _ _ _ _ he
        split
        · rw [keep_raiseTrap, e]
        · split
          · rename_i hf; rw [h2 _ _ hf, e]
          · rw [keep_raFull, keep_lampMod, e]
          · rw [keep_raiseTrap, keep_eccLeave, e]
          · rw [keep_raiseTrap, e]

theorem keep_onShadow (f0 : State → State) s (h0 : ∀ u, keep (f0 u) = keep u) : keep (onShadow f0 s) = keep s := by
  unfold onShadow
  dsimp only
  repeat' split
  all_goals simp only [↓keep_mk, keep_eta, keep_proofFail]

theorem keep_lampWorld x0 (f1 : State → State) s (h1 : ∀ u, keep (f1 u) = keep u) : keep (lampWorld x0 f1 s) = keep s := by
  simp only [lampWorld, keep_ite, ite_self, implies_true, keep_onShadow, h1]

theorem keep_lampExec x0 x1 f2 s (h2 : ∀ u, ∀ t, (f2 u) = .ok t → keep t = keep u) : keep (lampExec x0 x1 f2 s) = keep s := by
  unfold lampExec
  repeat' first
    | rfl
    | (simp only [↓keep_mk, keep_eta, keep_ite, keep_ite_snd, ite_self, implies_true, keep_foldl, keep_lampWorld,
        keep_lampRun, h2]; done)
    | refine (keep_lampWorld _ _ _ ?_).trans ?_
    | refine (keep_lampRun _ _ _ _ ?_).trans ?_
    | refine keep_snd (by assumption) ?_
    | exact h2 _ _
    | exact h2 _
    | exact h2 _ _ (by assumption)
    | simp only [↓keep_mk, keep_eta, keep_ite, keep_ite_snd, ite_self, implies_true, keep_foldl, keep_lampWorld,
        keep_lampRun, h2]
    | split
    | refine (keep_foldl _ _ _ ?_).trans ?_
    | intro _

theorem keep_lampWrite x0 x1 x2 x3 s : keep (lampWrite x0 x1 x2 x3 s) = keep s := by
  simp only [lampWrite, keep_lampNext, keep_lampMod]

theorem keep_slotMod x0 x1 s : keep (slotMod x0 x1 s) = keep s := by
  simp only [slotMod, ↓keep_mk, keep_eta]

theorem keep_becomeSpec x0 x1 x2 x3 s : keep (becomeSpec x0 x1 x2 x3 s) = keep s := by
  simp only [becomeSpec, keep_lampMod]

/-- what a slot access leaves -/
def SlotRes.Keeps (k : Kept) : SlotRes → Prop
  | .val _ s => keep s = k
  | .wait s => keep s = k
  | .trap _ => True

theorem keep_slotRead (i n : Nat) (s : State) : (slotRead i n s).Keeps (keep s) := by
  unfold slotRead
  dsimp only
  repeat' split
  all_goals simp only [SlotRes.Keeps, keep_lampMod, keep_slotMod, keep_becomeSpec]

theorem keep_slotPub (i n : Nat) (v : Word) (b : Bool) (s : State) : (slotPub i n v b s).Keeps (keep s) := by
  unfold slotPub
  dsimp only
  repeat' split
  all_goals simp only [SlotRes.Keeps, keep_lampMod, keep_slotMod]

theorem keep_viewRead x0 x1 x2 x3 s : ∀ v0 t, (viewRead x0 x1 x2 x3 s) = .ok (v0, t) → keep t = keep s := by
  intro v0 t h
  unfold viewRead at h
  simp only [bind, Except.bind, throw, throwThe, MonadExceptOf.throw] at h
  repeat' split at h
  all_goals first
    | cases h
    | skip
  all_goals repeat first
    | rfl
    | (simp only [↓keep_mk, keep_eta, keep_ite, keep_ite_snd, ite_self, implies_true, keep_foldl]; done)
    | refine (keep_readSet _ _ _ _ _ _ _ (by assumption)).trans ?_
    | refine (keep_eccRead _ _ _ _ _ _ _ (by assumption)).trans ?_
    | refine keep_snd (by assumption) ?_
    | simp only [↓keep_mk, keep_eta, keep_ite, keep_ite_snd, ite_self, implies_true, keep_foldl]

theorem keep_outRead x0 x1 x2 s : ∀ v0 t, (outRead x0 x1 x2 s) = .ok (v0, t) → keep t = keep s := by
  intro v0 t h
  unfold outRead at h
  simp only [bind, Except.bind] at h
  repeat' split at h
  all_goals first
    | cases h
    | skip
  all_goals repeat first
    | rfl
    | (simp only [↓keep_mk, keep_eta, keep_ite, keep_ite_snd, ite_self, implies_true, keep_foldl]; done)
    | refine (keep_eccRead _ _ _ _ _ _ _ (by assumption)).trans ?_
    | refine (keep_readSet _ _ _ _ _ _ _ (by assumption)).trans ?_
    | refine keep_snd (by assumption) ?_
    | simp only [↓keep_mk, keep_eta, keep_ite, keep_ite_snd, ite_self, implies_true, keep_foldl]

theorem keep_outPut x0 x1 x2 x3 s : keep (outPut x0 x1 x2 x3 s) = keep s := by
  simp only [outPut, keep_taskMod]

theorem keep_outWrite x0 x1 x2 x3 x4 s : ∀ t, (outWrite x0 x1 x2 x3 x4 s) = .ok t → keep t = keep s := by
  intro  t h
  unfold outWrite at h
  simp only [bind, Except.bind, throw, throwThe, MonadExceptOf.throw] at h
  repeat' split at h
  all_goals first
    | cases h
    | skip
  all_goals repeat first
    | rfl
    | (simp only [keep_lampMod, keep_visible, keep_outPut]; done)
    | refine (keep_eccStore _ _ _ _ _ _ _ _ (by assumption)).trans ?_
    | refine (keep_specStore _ _ _ _ (by assumption)).trans ?_
    | refine keep_snd (by assumption) ?_
    | simp only [keep_lampMod, keep_visible, keep_outPut]

theorem keep_tcRead x0 x1 x2 s : ∀ v0 t, (tcRead x0 x1 x2 s) = .ok (v0, t) → keep t = keep s := by
  intro v0 t h
  unfold tcRead at h
  simp only [bind, Except.bind] at h
  repeat' split at h
  all_goals first
    | cases h
    | skip
  all_goals repeat first
    | rfl
    | (simp only [↓keep_mk, keep_eta, keep_ite, keep_ite_snd, ite_self, implies_true, keep_foldl]; done)
    | refine (keep_eccRead _ _ _ _ _ _ _ (by assumption)).trans ?_
    | refine keep_snd (by assumption) ?_
    | simp only [↓keep_mk, keep_eta, keep_ite, keep_ite_snd, ite_self, implies_true, keep_foldl]

theorem keep_tcPut x0 x1 x2 x3 s : keep (tcPut x0 x1 x2 x3 s) = keep s := by
  simp only [tcPut, ↓keep_mk, keep_eta]

theorem keep_tcWrite x0 x1 x2 x3 s : ∀ t, (tcWrite x0 x1 x2 x3 s) = .ok t → keep t = keep s := by
  intro  t h
  unfold tcWrite at h
  simp only [] at h
  repeat' split at h
  all_goals first
    | cases h
    | skip
  all_goals repeat first
    | rfl
    | (simp only [↓keep_mk, keep_eta, keep_ite, keep_ite_snd, ite_self, implies_true, keep_foldl, keep_lampMod,
        keep_visible, keep_tcPut]; done)
    | refine (keep_specStore _ _ _ _ (by assumption)).trans ?_
    | refine keep_snd (by assumption) ?_
    | simp only [↓keep_mk, keep_eta, keep_ite, keep_ite_snd, ite_self, implies_true, keep_foldl, keep_lampMod,
        keep_visible, keep_tcPut]

theorem keep_frtClear x0 s : keep (frtClear x0 s) = keep s := by
  simp only [frtClear, ↓keep_mk, keep_eta, keep_ite, ite_self]

theorem keep_frtRun x0 x1 s : keep (frtRun x0 x1 s) = keep s := by
  simp only [frtRun, ↓keep_mk, keep_eta, keep_ite, ite_self]

theorem keep_rctlWrite x0 x1 x2 s : keep (rctlWrite x0 x1 x2 s) = keep s := by
  simp only [rctlWrite, keep_ite, ite_self, keep_frtRun, keep_frtClear, keep_inAckWrite, keep_tkWrite, keep_lampMod]

theorem keep_legacyCell o a s : ∀ v t, (legacyCell o a s) = .ok (v, t) → keep t = keep s := by
  intro v t h
  unfold legacyCell at h
  generalize (0x81000 : Nat) = n3 at h
  generalize (a - 0x80000) = m at h
  by_cases c : a < n3
  · rw [if_pos c] at h
    cases hr : viewRead o m 2 0 s with
    | error e => rw [hr] at h; cases h
    | ok p =>
      obtain ⟨w, u⟩ := p
      rw [hr] at h
      cases h
      exact keep_viewRead _ _ _ _ _ _ _ hr
  · rw [if_neg c] at h
    cases hr : outRead o (a - n3) (byteMask a 2) s with
    | error e => rw [hr] at h; cases h
    | ok p =>
      obtain ⟨w, u⟩ := p
      rw [hr] at h
      cases h
      exact keep_outRead _ _ _ _ _ _ hr

theorem keep_legacyTc x0 x1 x2 s : ∀ v0 t, (legacyTc x0 x1 x2 s) = .ok (v0, t) → keep t = keep s := by
  intro v0 t h
  unfold legacyTc at h
  simp only [bind, Except.bind] at h
  repeat' split at h
  all_goals first
    | cases h
    | skip
  all_goals repeat first
    | rfl
    | (simp only [↓keep_mk, keep_eta, keep_ite, keep_ite_snd, ite_self, implies_true, keep_foldl]; done)
    | refine (keep_eccRead _ _ _ _ _ _ _ (by assumption)).trans ?_
    | refine keep_snd (by assumption) ?_
    | simp only [↓keep_mk, keep_eta, keep_ite, keep_ite_snd, ite_self, implies_true, keep_foldl]

theorem keep_legacyRead x0 x1 s : ∀ v0 t, (legacyRead x0 x1 s) = .ok (v0, t) → keep t = keep s := by
  intro v0 t h
  unfold legacyRead at h
  simp only [] at h
  repeat' split at h
  all_goals first
    | cases h
    | skip
  all_goals repeat first
    | rfl
    | (simp only [↓keep_mk, keep_eta, keep_ite, keep_ite_snd, ite_self, implies_true, keep_foldl]; done)
    | refine (keep_legacyCell _ _ _ _ _ (by assumption)).trans ?_
    | refine (keep_legacyTc _ _ _ _ _ _ (by assumption)).trans ?_
    | refine keep_snd (by assumption) ?_
    | simp only [↓keep_mk, keep_eta, keep_ite, keep_ite_snd, ite_self, implies_true, keep_foldl]

theorem keep_legacyWrite o a v m b s : ∀ t, (legacyWrite o a v m b s) = .ok t → keep t = keep s := by
  intro t h
  unfold legacyWrite at h
  simp only [bind, Except.bind, throw, throwThe, MonadExceptOf.throw] at h
  split at h
  · cases h
  · split at h
    · split at h
      · cases h
      · generalize (_ || _) = c at h
        cases c
        · cases h; exact keep_taskMod _ _ _
        · cases h
    · repeat' split at h
      all_goals first | (cases h; done) | (cases h; exact keep_taskMod _ _ _)

theorem keep_legacyMerge x0 s : keep (legacyMerge x0 s) = keep s := by
  unfold legacyMerge
  repeat' first
    | rfl
    | (simp only [keep_ite, keep_outPut, keep_taskMod]; done)
    | refine keep_snd (by assumption) ?_
    | simp only [keep_ite, keep_outPut, keep_taskMod]
    | split
    | refine (keep_foldl _ _ _ ?_).trans ?_
    | intro _

theorem keep_ioTap x0 x1 s : keep (ioTap x0 x1 s) = keep s := by
  simp only [ioTap, keep_ite, ite_self, keep_lampCtr]

theorem keep_ioWriteAt x0 x1 x2 x3 s : ∀ v0 t, (ioWriteAt x0 x1 x2 x3 s) = .ok (v0, t) → keep t = keep s := by
  intro v0 t h
  unfold ioWriteAt at h
  simp only [bind, Except.bind, throw, throwThe, MonadExceptOf.throw] at h
  repeat' split at h
  all_goals first
    | cases h
    | skip
  all_goals repeat first
    | rfl
    | (simp only [keep_rctlWrite]; done)
    | refine (keep_outWrite _ _ _ _ _ _ _ (by assumption)).trans ?_
    | refine (keep_eccStore _ _ _ _ _ _ _ _ (by assumption)).trans ?_
    | refine (keep_tcWrite _ _ _ _ _ _ (by assumption)).trans ?_
    | refine (keep_legacyWrite _ _ _ _ _ _ _ (by assumption)).trans ?_
    | refine keep_snd (by assumption) ?_
    | simp only [↓keep_mk, keep_eta, keep_ite, keep_ite_snd, ite_self, implies_true, keep_foldl, keep_rctlWrite]

def IoRes.Keeps (k : Kept) : IoRes → Prop
  | .val _ _ s => keep s = k
  | .slotWait _ s => keep s = k

theorem slot_val {i n s v t} (h : slotRead i n s = .val v t) : keep t = keep s := by
  have e := keep_slotRead i n s
  rw [h] at e; exact e

theorem slot_wait {i n s t} (h : slotRead i n s = .wait t) : keep t = keep s := by
  have e := keep_slotRead i n s
  rw [h] at e; exact e

theorem keep_ioReadAt o a n s : ∀ r, (ioReadAt o a n s) = .ok r → r.Keeps (keep s) := by
  intro r h
  unfold ioReadAt at h
  simp only [bind, Except.bind, throw, throwThe, MonadExceptOf.throw] at h
  repeat' split at h
  all_goals first | (cases h; done) | skip
  all_goals cases h
  all_goals first
    | exact keep_viewRead _ _ _ _ _ _ _ (by assumption)
    | exact keep_outRead _ _ _ _ _ _ (by assumption)
    | exact keep_tcRead _ _ _ _ _ _ (by assumption)
    | exact keep_legacyRead _ _ _ _ _ (by assumption)
    | rfl
    | exact (slot_val (by with_reducible assumption)).trans (keep_eccRead _ _ _ _ _ _ _ (by with_reducible assumption))
    | exact (slot_wait (by with_reducible assumption)).trans (keep_eccRead _ _ _ _ _ _ _ (by with_reducible assumption))

theorem keep_ioRead o a n s : ∀ r, (ioRead o a n s) = .ok r → r.Keeps (keep s) := by
  intro r h
  unfold ioRead at h
  simp only [bind, Except.bind] at h
  split at h
  · cases h
  · rename_i r' hr
    have e := keep_ioReadAt _ _ _ _ _ hr
    split at h <;> cases h
    · exact (keep_ioTap _ _ _).trans e
    · exact e

theorem keep_ioFinish i rd r k (h : IoRes.Keeps k r) : keep (ioFinish i rd r) = k := by
  cases r
  · exact (keep_lampWrite _ _ _ _ _).trans h
  · exact (keep_lampMod _ _ _).trans h

theorem keep_ioBitReadAt x0 x1 x2 s : ∀ v0 v1 t, (ioBitReadAt x0 x1 x2 s) = .ok (v0, v1, t) → keep t = keep s := by
  intro v0 v1 t h
  unfold ioBitReadAt at h
  simp only [bind, Except.bind, throw, throwThe, MonadExceptOf.throw] at h
  repeat' split at h
  all_goals first
    | cases h
    | skip
  all_goals repeat first
    | rfl
    | (simp only [↓keep_mk, keep_eta, keep_ite, keep_ite_snd, ite_self, implies_true, keep_foldl]; done)
    | refine (keep_legacyRead _ _ _ _ _ (by assumption)).trans ?_
    | refine (keep_viewRead _ _ _ _ _ _ _ (by assumption)).trans ?_
    | refine (keep_outRead _ _ _ _ _ _ (by assumption)).trans ?_
    | refine keep_snd (by assumption) ?_
    | simp only [↓keep_mk, keep_eta, keep_ite, keep_ite_snd, ite_self, implies_true, keep_foldl]

theorem keep_ioBitWriteAt x0 x1 x2 x3 s : ∀ v0 t, (ioBitWriteAt x0 x1 x2 x3 s) = .ok (v0, t) → keep t = keep s := by
  intro v0 t h
  unfold ioBitWriteAt at h
  simp only [bind, Except.bind, throw, throwThe, MonadExceptOf.throw] at h
  repeat' split at h
  all_goals first
    | cases h
    | skip
  all_goals repeat first
    | rfl
    | (simp only [↓keep_mk, keep_eta, keep_ite, keep_ite_snd, ite_self, implies_true, keep_foldl]; done)
    | refine (keep_legacyWrite _ _ _ _ _ _ _ (by assumption)).trans ?_
    | refine (keep_outWrite _ _ _ _ _ _ _ (by assumption)).trans ?_
    | refine keep_snd (by assumption) ?_
    | simp only [↓keep_mk, keep_eta, keep_ite, keep_ite_snd, ite_self, implies_true, keep_foldl]

theorem keep_ioWrite x0 x1 x2 x3 s : ∀ v0 t, (ioWrite x0 x1 x2 x3 s) = .ok (v0, t) → keep t = keep s := by
  intro v0 t h
  unfold ioWrite at h
  simp only [bind, Except.bind] at h
  repeat' split at h
  all_goals first
    | cases h
    | skip
  all_goals repeat first
    | rfl
    | (simp only [keep_ioTap]; done)
    | refine (keep_ioWriteAt _ _ _ _ _ _ _ (by assumption)).trans ?_
    | refine keep_snd (by assumption) ?_
    | simp only [keep_ioTap]

theorem keep_ioBitRead x0 x1 x2 s : ∀ v0 v1 t, (ioBitRead x0 x1 x2 s) = .ok (v0, v1, t) → keep t = keep s := by
  intro v0 v1 t h
  unfold ioBitRead at h
  simp only [bind, Except.bind] at h
  repeat' split at h
  all_goals first
    | cases h
    | skip
  all_goals repeat first
    | rfl
    | (simp only [keep_ioTap]; done)
    | refine (keep_ioBitReadAt _ _ _ _ _ _ _ (by assumption)).trans ?_
    | refine keep_snd (by assumption) ?_
    | simp only [keep_ioTap]

theorem keep_ioBitWrite x0 x1 x2 x3 s : ∀ v0 t, (ioBitWrite x0 x1 x2 x3 s) = .ok (v0, t) → keep t = keep s := by
  intro v0 t h
  unfold ioBitWrite at h
  simp only [bind, Except.bind] at h
  repeat' split at h
  all_goals first
    | cases h
    | skip
  all_goals repeat first
    | rfl
    | (simp only [keep_ioTap]; done)
    | refine (keep_ioBitWriteAt _ _ _ _ _ _ _ (by assumption)).trans ?_
    | refine keep_snd (by assumption) ?_
    | simp only [keep_ioTap]

theorem keep_lampLoad x0 x1 x2 x3 x4 s : keep (lampLoad x0 x1 x2 x3 x4 s) = keep s := by
  unfold lampLoad
  refine (keep_lampExec _ _ _ _ ?_).trans rfl
  intro u t h
  simp only [bind, Except.bind] at h
  repeat' split at h
  all_goals first
    | cases h
    | skip
  all_goals repeat first
    | rfl
    | (simp only [keep_lampWrite]; done)
    | refine (keep_lampExec _ _ _ _ ?_).trans ?_
    | refine (keep_dLoad _ _ _ _ _ _ _ (by assumption)).trans ?_
    | simp only [keep_lampWrite]

theorem keep_lampStore x0 x1 x2 x3 x4 s : keep (lampStore x0 x1 x2 x3 x4 s) = keep s := by
  unfold lampStore
  refine (keep_lampExec _ _ _ _ ?_).trans rfl
  intro u t h
  simp only [bind, Except.bind] at h
  repeat' split at h
  all_goals first
    | cases h
    | skip
  all_goals repeat first
    | rfl
    | (simp only [keep_lampNext]; done)
    | refine (keep_lampExec _ _ _ _ ?_).trans ?_
    | refine (keep_dStore _ _ _ _ _ _ _ (by assumption)).trans ?_
    | simp only [keep_lampNext]

theorem keep_lampIn o n rd r i s : keep (lampIn o n rd r i s) = keep s := by
  refine keep_lampExec _ _ _ _ ?_
  intro u t h
  simp only [bind, Except.bind] at h
  split at h
  · cases h
  · rename_i r hr; cases h; exact keep_ioFinish _ _ _ _ (keep_ioRead _ _ _ _ _ hr)

theorem keep_lampOut x0 x1 x2 x3 x4 s : keep (lampOut x0 x1 x2 x3 x4 s) = keep s := by
  unfold lampOut
  refine (keep_lampExec _ _ _ _ ?_).trans rfl
  intro u t h
  simp only [bind, Except.bind] at h
  repeat' split at h
  all_goals first
    | cases h
    | skip
  all_goals repeat first
    | rfl
    | (simp only [keep_lampNext]; done)
    | refine (keep_lampExec _ _ _ _ ?_).trans ?_
    | refine (keep_ioWrite _ _ _ _ _ _ _ (by assumption)).trans ?_
    | simp only [keep_lampNext]

theorem keep_rungRead x0 x1 x2 s : keep (rungRead x0 x1 x2 s) = keep s := by
  unfold rungRead
  refine (keep_lampExec _ _ _ _ ?_).trans rfl
  intro u t h
  simp only [bind, Except.bind] at h
  repeat' split at h
  all_goals first
    | cases h
    | skip
  all_goals repeat first
    | rfl
    | (simp only [keep_lampNext, keep_lampMod]; done)
    | refine (keep_lampExec _ _ _ _ ?_).trans ?_
    | refine (keep_ioBitRead _ _ _ _ _ _ _ (by assumption)).trans ?_
    | simp only [keep_lampNext, keep_lampMod]

theorem keep_rungWrite x0 x1 x2 x3 s : keep (rungWrite x0 x1 x2 x3 s) = keep s := by
  unfold rungWrite
  refine (keep_lampExec _ _ _ _ ?_).trans rfl
  intro u t h
  simp only [bind, Except.bind] at h
  repeat' split at h
  all_goals first
    | cases h
    | skip
  all_goals repeat first
    | rfl
    | (simp only [keep_lampNext, keep_lampWrite]; done)
    | refine (keep_lampExec _ _ _ _ ?_).trans ?_
    | refine (keep_ioBitWrite _ _ _ _ _ _ _ (by assumption)).trans ?_
    | simp only [keep_lampNext]

theorem keep_lampEdge x0 x1 x2 x3 x4 s : keep (lampEdge x0 x1 x2 x3 x4 s) = keep s := by
  unfold lampEdge
  refine (keep_lampExec _ _ _ _ ?_).trans rfl
  intro u t h
  simp only [bind, Except.bind] at h
  repeat' split at h
  all_goals first
    | cases h
    | skip
  all_goals repeat first
    | rfl
    | (simp only [keep_lampCtr, keep_lampNext, keep_lampMod]; done)
    | refine (keep_lampExec _ _ _ _ ?_).trans ?_
    | refine (keep_eccRead _ _ _ _ _ _ _ (by assumption)).trans ?_
    | refine (keep_dPut _ _ _ _ _ _ _ (by assumption)).trans ?_
    | simp only [keep_lampCtr, keep_lampNext, keep_lampMod]

theorem keep_tcTake x0 x1 x2 s : ∀ v0 v1 t, (tcTake x0 x1 x2 s) = .ok (v0, v1, t) → keep t = keep s := by
  intro v0 v1 t h
  unfold tcTake at h
  simp only [bind, Except.bind, throw, throwThe, MonadExceptOf.throw] at h
  repeat' split at h
  all_goals first
    | cases h
    | skip
  all_goals repeat first
    | rfl
    | (simp only [↓keep_mk, keep_eta, keep_ite, keep_ite_snd, ite_self, implies_true, keep_foldl]; done)
    | refine (keep_tcRead _ _ _ _ _ _ (by assumption)).trans ?_
    | refine keep_snd (by assumption) ?_
    | simp only [↓keep_mk, keep_eta, keep_ite, keep_ite_snd, ite_self, implies_true, keep_foldl]

theorem keep_tcDone x0 x1 x2 x3 s : ∀ t, (tcDone x0 x1 x2 x3 s) = .ok t → keep t = keep s := by
  intro  t h
  unfold tcDone at h
  simp only [bind, Except.bind] at h
  repeat' split at h
  all_goals first
    | cases h
    | skip
  all_goals repeat first
    | rfl
    | (simp only [keep_lampCtr, keep_lampNext, keep_lampMod]; done)
    | refine (keep_tcWrite _ _ _ _ _ _ (by assumption)).trans ?_
    | refine keep_snd (by assumption) ?_
    | simp only [keep_lampCtr, keep_lampNext, keep_lampMod]

theorem keep_lampTimer x0 x1 x2 x3 s : keep (lampTimer x0 x1 x2 x3 s) = keep s := by
  unfold lampTimer
  refine (keep_lampExec _ _ _ _ ?_).trans rfl
  intro u t h
  simp only [bind, Except.bind] at h
  repeat' split at h
  all_goals first
    | cases h
    | skip
  all_goals repeat first
    | rfl
    | (simp only [↓keep_mk, keep_eta, keep_ite, keep_ite_snd, ite_self, implies_true, keep_foldl, keep_lampExec]; done)
    | refine (keep_lampExec _ _ _ _ ?_).trans ?_
    | refine (keep_tcTake _ _ _ _ _ _ _ (by assumption)).trans ?_
    | refine (keep_readSet _ _ _ _ _ _ _ (by assumption)).trans ?_
    | refine (keep_tcDone _ _ _ _ _ _ (by assumption)).trans ?_
    | simp only [↓keep_mk, keep_eta, keep_ite, keep_ite_snd, ite_self, implies_true, keep_foldl, keep_lampExec]

theorem keep_lampCounter x0 x1 x2 x3 s : keep (lampCounter x0 x1 x2 x3 s) = keep s := by
  unfold lampCounter
  refine (keep_lampExec _ _ _ _ ?_).trans rfl
  intro u t h
  simp only [bind, Except.bind, throw, throwThe, MonadExceptOf.throw] at h
  repeat' split at h
  all_goals first
    | cases h
    | skip
  all_goals repeat first
    | rfl
    | (simp only [keep_lampMod]; done)
    | refine (keep_lampExec _ _ _ _ ?_).trans ?_
    | refine (keep_tcTake _ _ _ _ _ _ _ (by assumption)).trans ?_
    | refine (keep_tcDone _ _ _ _ _ _ (by assumption)).trans ?_
    | simp only [keep_lampMod]

theorem keep_groupStart x0 x1 x2 x3 x4 s : keep (groupStart x0 x1 x2 x3 x4 s) = keep s := by
  simp only [groupStart, ↓keep_mk, keep_eta, keep_lampMod, keep_taskMod]

theorem keep_lampTake x0 s : keep (lampTake x0 s) = keep s := by
  unfold lampTake
  repeat' split
  all_goals simp only [keep_groupStart]

theorem keep_takeGroups s : keep (takeGroups s) = keep s := by
  simp only [takeGroups, implies_true, keep_foldl, keep_lampTake]

theorem keep_traceGroup x0 x1 x2 x3 x4 x5 x6 s : keep (traceGroup x0 x1 x2 x3 x4 x5 x6 s) = keep s := by
  simp only [traceGroup, keep_ite, ite_self, keep_traceCap]

theorem keep_groupDone x0 x1 x2 s : keep (groupDone x0 x1 x2 s) = keep s := by
  simp only [groupDone, keep_ite, ite_self, keep_taskMod, keep_ctrAdd, keep_galMod, keep_legacyMerge]

theorem keep_lampIdle x0 s : keep (lampIdle x0 s) = keep s := by
  simp only [lampIdle, keep_lampMod]

theorem keep_spub (i n : Nat) (v : Word) (b : Bool) (s : State) (r : SlotRes) (h : spub i n v b s = .ok r) : r.Keeps (keep s) := by
  have e := keep_slotPub i n v b s
  unfold spub at h
  generalize ((lampOf s i).spec && !(decide (bufUsed (lampOf s i) < (if lampSplit s i = true then 32 else 64)))) = c at h
  cases c
  case true => cases h
  case false =>
    simp only [Bool.false_eq_true, if_false] at h
    split at h
    · rename_i hv; rw [hv] at e
      split at h
      · split at h
        · cases h; rename_i hs; exact (keep_specStore _ _ _ _ hs).trans e
        · cases h
      · cases h; exact e
    · cases h; exact e

def GendRes.Keeps (k : Kept) : GendRes → Prop
  | .done s => keep s = k
  | .wait s => keep s = k

theorem keep_gendReads (i : Nat) (rs : List SlotRead) (s : State) (r : GendRes) (h : gendReads i rs s = .ok r) : r.Keeps (keep s) := by
  induction rs generalizing s with
  | nil => cases h; rfl
  | cons x xs ih =>
    have e := keep_slotRead i x.slot s
    simp only [gendReads] at h
    split at h
    · exact ih _ h
    · split at h <;> rename_i hv <;> rw [hv] at e
      · have := ih _ h; rwa [keep_lampMod, e] at this
      · cases h; exact e
      · cases h

theorem keep_gendPubs (i : Nat) (b : Bool) (ps : List SlotPub) (s : State) (r : GendRes) (h : gendPubs i b ps s = .ok r) : r.Keeps (keep s) := by
  induction ps generalizing s with
  | nil => cases h; rfl
  | cons x xs ih =>
    simp only [gendPubs] at h
    split at h
    · exact ih _ h
    · split at h <;> try cases h
      · rename_i hv
        have e := keep_spub _ _ _ _ _ _ hv
        have := ih _ h; rwa [keep_lampMod, e] at this
      · rename_i hv
        exact keep_spub _ _ _ _ _ _ hv

theorem keep_gend (i : Nat) (b : Bool) (s : State) : ∀ t, (gend i b s) = .ok t → keep t = keep s := by
  intro t h
  unfold gend at h
  simp only [bind, Except.bind] at h
  split at h
  · cases h
  · rename_i r hr
    have e := keep_gendReads _ _ _ _ hr
    split at h
    · cases h; have e' : keep _ = keep s := e; simpa only [keep_lampMod] using e'
    · split at h
      · cases h
      · rename_i s1 _ r2 hr2
        have e2 := keep_gendPubs _ _ _ _ _ hr2
        have e3 : keep s1 = keep s := e
        rw [e3] at e2
        split at h
        · cases h; have e' : keep _ = keep s := e2; simpa only [keep_lampMod] using e'
        · split at h <;> cases h <;>
            (have e4 : keep _ = keep s := e2
             simpa only [keep_takeGroups, keep_lampIdle, keep_lampMod, keep_traceGroup, keep_lampCount, keep_rangeMod,
                 keep_groupDone] using e4)

theorem keep_lampResume (i : Nat) (r : Acc State) (s : State) (h : ∀ t, r = .ok t → keep t = keep s) :
    keep (lampResume i r s) = keep s := by
  unfold lampResume
  split
  · exact h _ rfl
  · simp only [keep_raFull, keep_lampMod]
  · exact keep_raiseTrap _ _ _ _

theorem keep_slotWaited x0 x1 x2 s : keep (slotWaited x0 x1 x2 s) = keep s := by
  simp only [slotWaited, keep_ctrAdd, keep_galMod]

theorem keep_opSlotReadResume (i fc : Nat) (s : State) : keep (opSlotReadResume i fc s) = keep s := by
  unfold opSlotReadResume
  split
  · rename_i n _ _
    have e := keep_slotRead i n s
    split <;> rename_i hv <;> rw [hv] at e
    · have e' : keep _ = keep s := e; simpa only [keep_slotWaited, keep_lampWrite, keep_lampMod] using e'
    · exact e
    · exact keep_raiseTrap _ _ _ _
  · have e := keep_lampResume i (gend i false s) s (keep_gend _ _ _)
    dsimp only
    split
    · exact e
    · rw [keep_slotWaited, e]
  · rfl

theorem keep_opSpubIssue (i fc : Nat) (s : State) : keep (opSpubIssue i fc s) = keep s := by
  unfold opSpubIssue
  split
  · split
    · rename_i hv
      have e := keep_spub _ _ _ _ _ _ hv
      have e' : keep _ = keep s := e; simpa only [keep_takeGroups, keep_lampNext, keep_lampMod] using e'
    · rename_i hv; exact keep_spub _ _ _ _ _ _ hv
    · exact keep_raiseTrap _ _ _ _
    · exact keep_lampResume _ _ _ (by simp)
  · exact keep_lampResume _ _ _ (keep_gend _ _ _)
  · rfl

theorem keep_opFenceComplete x0 s : keep (opFenceComplete x0 s) = keep s := by
  simp only [opFenceComplete, keep_ite, ite_self, keep_lampNext, keep_lampMod]

theorem keep_lampBranch x0 x1 x2 x3 x4 s : keep (lampBranch x0 x1 x2 x3 x4 s) = keep s := by
  unfold lampBranch
  refine (keep_lampExec _ _ _ _ ?_).trans rfl
  intro u t h
  simp only [] at h
  repeat' split at h
  all_goals first
    | cases h
    | skip
  all_goals repeat first
    | rfl
    | (simp only [keep_lampJump, keep_lampNext]; done)
    | refine (keep_lampExec _ _ _ _ ?_).trans ?_
    | simp only [↓keep_mk, keep_eta, keep_ite, keep_ite_snd, ite_self, implies_true, keep_foldl, keep_lampExec,
        keep_lampJump, keep_lampNext]

theorem keep_lampJumpTo x0 x1 x2 s : keep (lampJumpTo x0 x1 x2 s) = keep s := by
  unfold lampJumpTo
  refine (keep_lampExec _ _ _ _ ?_).trans rfl
  intro u t h
  simp only [] at h
  repeat' split at h
  all_goals first
    | cases h
    | skip
  all_goals repeat first
    | rfl
    | (simp only [keep_lampJump, keep_lampMod]; done)
    | refine (keep_lampExec _ _ _ _ ?_).trans ?_
    | simp only [↓keep_mk, keep_eta, keep_ite, keep_ite_snd, ite_self, implies_true, keep_foldl, keep_lampExec,
        keep_lampJump, keep_lampMod]

end Sys2Proof.Machine
end

