-- ==== Sys2Proof/Laws/KeptScan.lean ====
section
/-!
SUPPORT. What every command leaves of the parts that `keep` shows: the scan, speculative work and lockstep.
-/
namespace Sys2Proof.Machine

theorem keep_btxMod x0 x1 s : keep (btxMod x0 x1 s) = keep s := by
  simp only [btxMod, ↓keep_mk, keep_eta]

theorem keep_traceBeam x0 x1 x2 x3 x4 x5 s : keep (traceBeam x0 x1 x2 x3 x4 x5 s) = keep s := by
  simp only [traceBeam, keep_ite, ite_self, keep_ctrAdd, keep_traceCap]

theorem keep_traceSent x0 s : keep (traceSent x0 s) = keep s := by
  unfold traceSent
  repeat' split
  all_goals simp only [keep_traceBeam]

theorem keep_beamWire x0 s : keep (beamWire x0 s) = keep s := by
  simp only [beamWire, ↓keep_mk, keep_eta, keep_ite, ite_self, keep_traceSent, keep_ecnSend]

theorem keep_beamWire3 x0 x1 x2 x3 s : keep (beamWire3 x0 x1 x2 x3 s) = keep s := by
  simp only [beamWire3, ↓keep_mk, keep_eta, keep_ite, ite_self, keep_beamWire]

theorem keep_brxMod x0 x1 s : keep (brxMod x0 x1 s) = keep s := by
  simp only [brxMod, ↓keep_mk, keep_eta]

theorem keep_brxStale x0 x1 s : keep (brxStale x0 x1 s) = keep s := by
  simp only [brxStale, keep_ite, ite_self, keep_record, keep_brxMod]

theorem keep_beamCheckFault x0 x1 x2 x3 s : keep (beamCheckFault x0 x1 x2 x3 s) = keep s := by
  simp only [beamCheckFault, ↓keep_mk, keep_eta, keep_ite, ite_self, implies_true, keep_foldl, keep_record, keep_brxStale]

theorem keep_beamSend x0 x1 x2 x3 s : keep (beamSend x0 x1 x2 x3 s) = keep s := by
  simp only [beamSend, keep_ite, ite_self, keep_btxMod, keep_beamWire, keep_beamWire3]

theorem keep_beamOpen x0 s : keep (beamOpen x0 s) = keep s := by
  simp only [beamOpen, keep_ite, ite_self, implies_true, keep_foldl, keep_btxMod]

theorem keep_beamStrobe x0 x1 x2 x3 s : keep (beamStrobe x0 x1 x2 x3 s) = keep s := by
  simp only [beamStrobe, keep_ite, ite_self, implies_true, keep_foldl, keep_btxMod, keep_beamCheckFault, keep_beamSend]

theorem keep_beamSafeDue x0 s : keep (beamSafeDue x0 s) = keep s := by
  simp only [beamSafeDue, keep_ite, ite_self, implies_true, keep_foldl, keep_beamSend, keep_btxMod]

theorem keep_snapshotTaken x0 x1 s : keep (snapshotTaken x0 x1 s) = keep s := by
  simp only [snapshotTaken, ↓keep_mk, keep_eta, keep_ite, ite_self, implies_true, keep_foldl, keep_portMod, keep_taskMod]

theorem keep_dBytesPut x0 x1 s : keep (dBytesPut x0 x1 s) = keep s := by
  unfold dBytesPut
  repeat' split
  all_goals simp only [↓keep_mk, keep_eta, keep_galMod]

theorem keep_pagePut x0 x1 s : keep (pagePut x0 x1 s) = keep s := by
  simp only [pagePut, ↓keep_mk, keep_eta, keep_ite, ite_self, keep_galMod]

theorem keep_exCommit x0 s : keep (exCommit x0 s) = keep s := by
  unfold exCommit
  repeat' split
  all_goals simp only [↓keep_mk, keep_eta, implies_true, keep_foldl]

theorem keep_retainPut p k m o l s : keep (retainPut p k m o l s) = keep s := by
  induction l generalizing o s with
  | nil => rfl
  | cons x l ih =>
    obtain ⟨a, n⟩ := x
    simp only [retainPut, ih, keep_ite, keep_dBytesPut, ite_self]

theorem keep_restartTask x0 x1 x2 x3 x4 s : keep (restartTask x0 x1 x2 x3 x4 s) = keep s := by
  unfold restartTask
  repeat' split
  all_goals simp only [↓keep_mk, keep_eta, implies_true, keep_foldl, keep_pagePut, keep_retainPut, keep_slotMod,
      keep_exCommit, keep_taskMod]

theorem keep_taskRestart x0 x1 x2 x3 s : keep (taskRestart x0 x1 x2 x3 s) = keep s := by
  unfold taskRestart
  repeat' split
  all_goals simp only [keep_aoUpdate, keep_latchUpdate, keep_beamOpen, keep_restartTask]

theorem keep_areaMod x0 x1 s : keep (areaMod x0 x1 s) = keep s := by
  simp only [areaMod, ↓keep_mk, keep_eta, keep_ite, ite_self]

theorem keep_opSpecStart x0 s : keep (opSpecStart x0 s) = keep s := by
  unfold opSpecStart
  repeat' split
  all_goals simp only [keep_groupStart]

theorem keep_specDrop x0 x1 x2 s : keep (specDrop x0 x1 x2 s) = keep s := by
  simp only [specDrop, keep_ite, ite_self, implies_true, keep_foldl, keep_slotMod, keep_taskMod, keep_ctrAdd,
      keep_traceGroup, keep_galMod]

theorem keep_squashFrom f i n s : keep (squashFrom f i n s) = keep s := by
  induction f generalizing i n s with
  | zero => rfl
  | succ f ih =>
    unfold squashFrom
    dsimp only
    have e : ∀ (l : List SpecGroup) (b : SpecGroup → Bool) s, keep (l.foldl (fun s g =>
        specDrop i g (b g) (g.pubs.foldl (fun s p =>
        s.fab.lamps.foldl (fun s (x : Nat × Lamp) =>
          if x.1 = i then s
          else match (lampOf s x.1).specs.findIdx? fun h => h.used.any fun u => u.1 == p.slot with
            | some m => squashFrom f x.1 m s
            | none => s) s) s)) s) = keep s := by
      intro l b s
      refine keep_foldl _ _ _ fun s g => ?_
      rw [keep_specDrop]
      refine keep_foldl _ _ _ fun s p => ?_
      refine keep_foldl _ _ _ fun s x => ?_
      split
      · rfl
      · split
        · exact ih _ _ _
        · rfl
    rw [show ∀ (x y : State), keep x = keep s → keep y = keep s → ∀ c [Decidable c], keep (if c then x else y) = keep s from
      fun x y hx hy c _ => by split <;> assumption]
    · rw [keep_lampIdle, keep_lampMod]
      exact e _ _ _
    · rw [keep_lampMod]
      exact e _ _ _

theorem keep_squash x0 s : keep (squash x0 s) = keep s := by
  simp only [squash, keep_takeGroups, keep_squashFrom]

theorem keep_specCommit x0 x1 s : keep (specCommit x0 x1 s) = keep s := by
  unfold specCommit
  repeat' split
  all_goals simp only [keep_lampMod, keep_ctrAdd, keep_traceGroup, keep_galMod, keep_taskMod, keep_trapTake, keep_groupDone]

theorem keep_opValidate x0 s : keep (opValidate x0 s) = keep s := by
  unfold opValidate
  repeat' split
  all_goals simp only [keep_ite, ite_self, keep_takeGroups, keep_specCommit, keep_squash]

theorem keep_drainOne x0 x1 s : keep (drainOne x0 x1 s) = keep s := by
  unfold drainOne
  repeat' split
  all_goals simp only [keep_dWordPut, keep_outPut, keep_tcPut, keep_slotMod]

theorem keep_opDrain x0 s : keep (opDrain x0 s) = keep s := by
  unfold opDrain
  repeat' split
  all_goals simp only [keep_drainOne, keep_lampMod, keep_takeGroups]

theorem keep_raShow x0 x1 s : keep (raShow x0 x1 s) = keep s := by
  simp only [raShow, implies_true, keep_foldl, keep_galMod]

theorem keep_opRaSuspended x0 s : keep (opRaSuspended x0 s) = keep s := by
  simp only [opRaSuspended, keep_ite, ite_self, keep_taskMod, keep_record, keep_raShow]

theorem keep_opRaResumed x0 s : keep (opRaResumed x0 s) = keep s := by
  simp only [opRaResumed, keep_ite, ite_self, keep_record, keep_raShow, keep_taskMod]

theorem keep_mapOne x0 s : keep (mapOne x0 s) = keep s := by
  unfold mapOne
  repeat' split
  all_goals simp only [↓keep_mk, keep_eta, keep_dBytesPut, keep_slotMod]

theorem keep_slotsSet x0 x1 x2 s : keep (slotsSet x0 x1 x2 s) = keep s := by
  simp only [slotsSet, implies_true, keep_foldl, keep_slotMod]

theorem keep_mapTaskState x0 x1 x2 x3 s : keep (mapTaskState x0 x1 x2 x3 s) = keep s := by
  simp only [mapTaskState, implies_true, keep_foldl, keep_slotsSet, keep_mapOne]

theorem keep_mapInverse x0 x1 x2 x3 s : keep (mapInverse x0 x1 x2 x3 s) = keep s := by
  unfold mapInverse
  repeat' first
    | rfl
    | (simp only [↓keep_mk, keep_eta, keep_ite, ite_self, keep_dBytesPut, keep_mapOne]; done)
    | refine keep_snd (by assumption) ?_
    | simp only []
    | split
    | refine (keep_foldl _ _ _ ?_).trans ?_
    | intro _

theorem keep_declareCut x0 s : keep (declareCut x0 s).2 = keep s := by
  simp only [declareCut, ↓keep_mk, keep_eta]

theorem keep_proofVerdict s : keep (proofVerdict s) = keep s := by
  unfold proofVerdict
  repeat' split
  all_goals simp only [↓keep_mk, keep_eta, keep_record, keep_declareCut]

theorem keep_proofCompare x0 s : keep (proofCompare x0 s) = keep s := by
  unfold proofCompare
  dsimp only
  repeat' split
  all_goals simp only [↓keep_mk, keep_eta, keep_proofFail, keep_proofVerdict]

theorem keep_shadowCapture x0 x1 s : keep (shadowCapture x0 x1 s) = keep s := by
  unfold shadowCapture
  repeat' split
  all_goals simp only [↓keep_mk, keep_eta]

theorem keep_shadowCycle x0 s : keep (shadowCycle x0 s) = keep s := by
  unfold shadowCycle
  dsimp only
  repeat' split
  all_goals simp only [↓keep_mk, keep_eta, implies_true, keep_proofFail, keep_shadowCapture, keep_onShadow, keep_takeGroups]

theorem keep_shadowStrobe x0 s : keep (shadowStrobe x0 s) = keep s := by
  unfold shadowStrobe
  dsimp only
  repeat' split
  all_goals simp only [keep_proofCompare, keep_proofFail]

theorem keep_twMod x0 x1 s : keep (twMod x0 x1 s) = keep s := by
  simp only [twMod, ↓keep_mk, keep_eta]

theorem keep_roleNote x0 x1 x2 x3 s : keep (roleNote x0 x1 x2 x3 s) = keep s := by
  simp only [roleNote, ↓keep_mk, keep_eta]

theorem keep_roleLoops x0 x1 s : keep (roleLoops x0 x1 s) = keep s := by
  simp only [roleLoops, ↓keep_mk, keep_eta, keep_ite, ite_self, keep_hartStart]

theorem keep_roleSet x0 x1 x2 s : keep (roleSet x0 x1 x2 s) = keep s := by
  simp only [roleSet, ↓keep_mk, keep_eta, keep_ite, ite_self, implies_true, keep_proofAbort, keep_roleNote,
      keep_modeChange, keep_tasksHalt, keep_record, keep_aoUpdate, keep_latchUpdate, keep_roleLoops]

theorem keep_partnerSign x0 s : keep (partnerSign x0 s) = keep s := by
  simp only [partnerSign, ↓keep_mk, keep_eta]

theorem keep_frameIn x0 f1 s (h1 : ∀ u, keep (f1 u) = keep u) : keep (frameIn x0 f1 s) = keep s := by
  simp only [frameIn, ↓keep_mk, keep_eta, keep_ite, ite_self, keep_outsUpdate, keep_partnerSign, h1]

theorem keep_apartJudged x0 x1 x2 s : keep (apartJudged x0 x1 x2 s) = keep s := by
  simp only [apartJudged, ↓keep_mk, keep_eta, keep_ite, ite_self, keep_proofVerdict, keep_proofFail]

theorem keep_apartTry x0 s : keep (apartTry x0 s) = keep s := by
  unfold apartTry
  repeat' split
  all_goals simp only [↓keep_mk, keep_eta, keep_apartJudged]

theorem keep_proofApart x0 s : keep (proofApart x0 s) = keep s := by
  unfold proofApart
  repeat' split
  all_goals simp only [↓keep_mk, keep_eta, keep_ite, ite_self, keep_apartTry]

theorem keep_snapSend x0 x1 s : keep (snapSend x0 x1 s) = keep s := by
  simp only [snapSend, keep_ite, ite_self, implies_true, keep_foldl, keep_twinQueue]

theorem keep_viewSet x0 x1 s : keep (viewSet x0 x1 s) = keep s := by
  simp only [viewSet, keep_traceImages, keep_taskMod]

theorem keep_logicStart x0 s : keep (logicStart x0 s) = keep s := by
  simp only [logicStart, keep_takeGroups, keep_shadowCycle, keep_taskMod]

theorem keep_viewForm x0 x1 x2 s : keep (viewForm x0 x1 x2 s) = keep s := by
  simp only [viewForm, keep_viewSet, keep_twMod, keep_logicStart]

theorem keep_startAgree x0 s : keep (startAgree x0 s) = keep s := by
  simp only [startAgree, keep_ite, ite_self, keep_taskMod]

theorem keep_agreeTry x0 s : keep (agreeTry x0 s) = keep s := by
  simp only [agreeTry, keep_ite, ite_self, keep_startAgree, keep_viewForm]

theorem keep_opSnapshotFrame x0 x1 x2 x3 x4 x5 x6 s : keep (opSnapshotFrame x0 x1 x2 x3 x4 x5 x6 s) = keep s := by
  simp only [opSnapshotFrame, keep_ite, ite_self, implies_true, keep_frameIn, keep_twMod, keep_agreeTry]

theorem keep_opAgreeDeadline x0 s : keep (opAgreeDeadline x0 s) = keep s := by
  simp only [opAgreeDeadline, ↓keep_mk, keep_eta, keep_ite, ite_self, keep_reach, keep_viewForm, keep_record]

theorem keep_armTask x0 x1 s : keep (armTask x0 x1 s) = keep s := by
  simp only [armTask, keep_taskMod]

theorem keep_adoptTask x0 s : keep (adoptTask x0 s) = keep s := by
  simp only [adoptTask, keep_twMod]

theorem keep_assistDeclare s : keep (assistDeclare s) = keep s := by
  simp only [assistDeclare, ↓keep_mk, keep_eta, keep_ite, ite_self, keep_twinQueue]

theorem keep_qualify x0 x1 s : keep (qualify x0 x1 s) = keep s := by
  simp only [qualify, keep_ite, ite_self, keep_assistDeclare, keep_twMod, keep_rejoinFail]

theorem keep_rejoinCapture x0 s : keep (rejoinCapture x0 s) = keep s := by
  unfold rejoinCapture
  repeat' split
  all_goals simp only [↓keep_mk, keep_eta, keep_ite, ite_self]

theorem keep_joinFirst x0 s : keep (joinFirst x0 s) = keep s := by
  simp only [joinFirst, keep_ite, ite_self, keep_twMod, keep_taskMod]

theorem keep_digestOutcome x0 s : keep (digestOutcome x0 s) = keep s := by
  unfold digestOutcome
  dsimp only
  repeat' split
  all_goals simp only [↓keep_mk, keep_eta, keep_armTask, keep_qualify, keep_record, keep_sectorSafe, keep_adoptTask,
      keep_twMod]

theorem keep_digestTry x0 s : keep (digestTry x0 s) = keep s := by
  simp only [digestTry, keep_ite, ite_self, keep_digestOutcome]

theorem keep_opDigestFrame x0 x1 x2 s : keep (opDigestFrame x0 x1 x2 s) = keep s := by
  simp only [opDigestFrame, keep_ite, ite_self, implies_true, keep_frameIn, keep_digestTry, keep_twMod, keep_digestOutcome]

theorem keep_opDigestDeadline x0 s : keep (opDigestDeadline x0 s) = keep s := by
  simp only [opDigestDeadline, ↓keep_mk, keep_eta, keep_ite, ite_self, keep_reach, keep_armTask, keep_record]

theorem keep_digestSend x0 s : keep (digestSend x0 s) = keep s := by
  simp only [digestSend, keep_ite, ite_self, keep_twMod, keep_taskMod, keep_twinQueue, keep_armTask, keep_digestTry]

theorem keep_retainStart x0 x1 x2 s : keep (retainStart x0 x1 x2 s) = keep s := by
  unfold retainStart
  repeat' split
  all_goals simp only [↓keep_mk, keep_eta, keep_areaMod, keep_nvmPush]

theorem keep_snapTry s : keep (snapTry s) = keep s := by
  unfold snapTry
  repeat' split
  all_goals simp only [↓keep_mk, keep_eta, keep_retainStart]

theorem keep_snapAsk x0 x1 s : keep (snapAsk x0 x1 s) = keep s := by
  simp only [snapAsk, ↓keep_mk, keep_eta, keep_snapTry]

theorem keep_snapAbandon s : keep (snapAbandon s) = keep s := by
  unfold snapAbandon
  repeat' split
  all_goals simp only [↓keep_mk, keep_eta, implies_true, keep_foldl, keep_finish, keep_record]

theorem keep_saveStart x0 x1 s : keep (saveStart x0 x1 s).2 = keep s := by
  unfold saveStart
  repeat' split
  all_goals simp only [keep_retainStart, keep_snapAbandon]

theorem keep_savingTry s : keep (savingTry s) = keep s := by
  simp only [savingTry, ↓keep_mk, keep_eta, keep_ite, ite_self, keep_outputsSafe, keep_lampsStop, keep_saveStart,
      keep_snapDrop, keep_counterPut, keep_flushStaged]

theorem keep_switchTask x0 x1 s : keep (switchTask x0 x1 s) = keep s := by
  unfold switchTask
  repeat' split
  all_goals simp only [↓keep_mk, keep_eta, keep_slotsSet, keep_mapInverse, keep_mapTaskState]

theorem keep_editFlush s : keep (editFlush s) = keep s := by
  simp only [editFlush, implies_true, keep_foldl, keep_switchTask]

theorem keep_forcesPut x0 s : keep (forcesPut x0 s) = keep s := by
  simp only [forcesPut, ↓keep_mk, keep_eta, implies_true, keep_modeChange]

theorem keep_forcesDrop x0 x1 s : keep (forcesDrop x0 x1 s) = keep s := by
  simp only [forcesDrop, keep_ite, ite_self, implies_true, keep_foldl, keep_record, keep_forcesPut]

theorem keep_autoRelease x0 x1 s : keep (autoRelease x0 x1 s) = keep s := by
  simp only [autoRelease, keep_ite, ite_self, implies_true, keep_foldl, keep_record, keep_forcesPut]

theorem keep_warmTimers x0 x1 s : keep (warmTimers x0 x1 s) = keep s := by
  unfold warmTimers
  repeat' split
  all_goals simp only [↓keep_mk, keep_eta, keep_ite, ite_self, implies_true, keep_foldl]

theorem keep_cycleStart x0 x1 x2 x3 x4 x5 s : keep (cycleStart x0 x1 x2 x3 x4 x5 s) = keep s := by
  simp only [cycleStart, keep_ite, ite_self, keep_record, keep_switchTask, keep_autoRelease, keep_warmTimers,
      keep_taskMod, keep_rejoinCapture, keep_joinFirst, keep_ctrAdd, keep_snapshotTaken, keep_snapSend, keep_twMod,
      keep_viewForm, keep_agreeTry, keep_logicStart, keep_viewSet]

theorem keep_opScheduled x0 s : keep (opScheduled x0 s) = keep s := by
  unfold opScheduled
  repeat' split
  all_goals simp only [keep_cycleStart, keep_reach, keep_rejoinFail, keep_beamSafeDue, keep_taskMod]

theorem keep_opLateStart x0 s : keep (opLateStart x0 s) = keep s := by
  unfold opLateStart
  repeat' split
  all_goals simp only [keep_cycleStart, keep_reach]

theorem keep_triggerAt x0 x1 s : keep (triggerAt x0 x1 s) = keep s := by
  unfold triggerAt
  dsimp only
  repeat' split
  all_goals simp only [keep_cycleStart, keep_taskMod, keep_record]

theorem keep_triggerTask x0 s : keep (triggerTask x0 s) = keep s := by
  simp only [triggerTask, keep_triggerAt]

theorem keep_stretch x0 s : keep (stretch x0 s) = keep s := by
  simp only [stretch, keep_taskMod]

theorem keep_opLogicDeadline x0 s : keep (opLogicDeadline x0 s) = keep s := by
  simp only [opLogicDeadline, keep_ite, ite_self, keep_stretch, keep_reach]

theorem keep_opWatchdog x0 x1 s : keep (opWatchdog x0 x1 s) = keep s := by
  simp only [opWatchdog, keep_ite, ite_self, keep_reach, keep_sectorSafe, keep_record, keep_taskStop]

theorem keep_opLogicEnd x0 x1 s : keep (opLogicEnd x0 x1 s) = keep s := by
  simp only [opLogicEnd, keep_ite, ite_self, keep_reach, keep_opWatchdog, keep_stretch, keep_taskMod, keep_snapTry,
      keep_proofApart, keep_proofCompare, keep_digestSend]

theorem keep_reqCommit x0 s : keep (reqCommit x0 s) = keep s := by
  simp only [reqCommit, ↓keep_mk, keep_eta]

theorem keep_raiseEvents x0 s : keep (raiseEvents x0 s) = keep s := by
  simp only [raiseEvents, keep_ite, ite_self, implies_true, keep_foldl, keep_triggerTask]

theorem keep_beamSilent s : keep (beamSilent s) = keep s := by
  simp only [beamSilent, ↓keep_mk, keep_eta]

theorem keep_stopField s : keep (stopField s) = keep s := by
  simp only [stopField, keep_ite, ite_self, implies_true, keep_foldl, keep_setSector, keep_aoUpdate, keep_latchUpdate,
      keep_beamSilent, keep_canDiscard]

theorem keep_stopTry s : keep (stopTry s) = keep s := by
  simp only [stopTry, ↓keep_mk, keep_eta, keep_ite, keep_ite_snd, ite_self, keep_snapDrop, keep_stopField, keep_saveStart]

theorem keep_afterStrobe x0 s : keep (afterStrobe x0 s) = keep s := by
  unfold afterStrobe
  dsimp only
  repeat' split
  all_goals simp only [keep_taskMod, keep_twMod, keep_stopTry, keep_cycleStart]

theorem keep_strobeRoles x0 s : keep (strobeRoles x0 s) = keep s := by
  simp only [strobeRoles, ↓keep_mk, keep_eta, keep_ite, ite_self, keep_roleSet, keep_record]

theorem keep_opStrobe x0 x1 x2 x3 x4 s : keep (opStrobe x0 x1 x2 x3 x4 s) = keep s := by
  unfold opStrobe
  repeat' split
  all_goals simp only [↓keep_mk, keep_eta, keep_ite, ite_self, implies_true, keep_foldl, keep_shadowStrobe, keep_reach,
      keep_exCommit, keep_traceImages, keep_ctrAdd, keep_taskMod, keep_latchUpdate, keep_rfxUpdate, keep_reqCommit,
      keep_doStrobe, keep_aoStrobe, keep_beamStrobe, keep_canStrobe, keep_doClamp, keep_lifeCheck, keep_strobeRoles,
      keep_afterStrobe, keep_raiseEvents]

theorem keep_galPlace x0 s : keep (galPlace x0 s) = keep s := by
  simp only [galPlace, keep_galMod]

theorem keep_relocate x0 x1 s : keep (relocate x0 x1 s).2 = keep s := by
  unfold relocate
  repeat' split
  all_goals simp only [keep_galMod, keep_record, keep_proofAbort]

theorem keep_recCold x0 s : keep (recCold x0 s) = keep s := by
  simp only [recCold, keep_record]

theorem keep_recWarm x0 s : keep (recWarm x0 s) = keep s := by
  simp only [recWarm, keep_record]

theorem keep_sectorRestart x0 x1 s : keep (sectorRestart x0 x1 s) = keep s := by
  unfold sectorRestart
  dsimp only
  repeat' split
  all_goals simp only [implies_true, keep_foldl, keep_record, keep_setSector, keep_forcesDrop, keep_taskRestart,
      keep_cutsClose, keep_recWarm, keep_recCold]

theorem keep_autoRestart x0 s : keep (autoRestart x0 s) = keep s := by
  simp only [autoRestart, ↓keep_mk, keep_eta, keep_ite, ite_self, keep_record, keep_sectorRestart]

theorem keep_scratchZero x0 x1 s : keep (scratchZero x0 x1 s) = keep s := by
  simp only [scratchZero, keep_galMod]

theorem keep_rangeClear x0 x1 s : keep (rangeClear x0 x1 s) = keep s := by
  simp only [rangeClear, ↓keep_mk, keep_eta]

theorem keep_lbistStart x0 x1 x2 s : keep (lbistStart x0 x1 x2 s) = keep s := by
  simp only [lbistStart, keep_rangeClear, keep_rangeMod]

theorem keep_opMismatch x0 x1 x2 x3 x4 s : keep (opMismatch x0 x1 x2 x3 x4 s) = keep s := by
  simp only [opMismatch, keep_ite, ite_self, keep_rangeMod, keep_record, keep_proofAbort, keep_sectorSafe, keep_lbistStart]

theorem keep_retestDone x0 x1 x2 s : keep (retestDone x0 x1 x2 s) = keep s := by
  unfold retestDone
  dsimp only
  repeat' split
  all_goals simp only [keep_record, keep_rangeMod, keep_nvmJournal, keep_galMod, keep_longDone]

theorem keep_retire x0 x1 x2 x3 s : keep (retire x0 x1 x2 x3 s) = keep s := by
  simp only [retire, keep_ite, ite_self, keep_nvmJournal, keep_rangeMod, keep_relocate, keep_record]

theorem keep_opLbist x0 x1 x2 x3 s : keep (opLbist x0 x1 x2 x3 s) = keep s := by
  simp only [opLbist, keep_ite, ite_self, keep_reach, keep_scratchZero, keep_rangeMod, keep_record, keep_retestDone,
      keep_retire, keep_autoRestart]

theorem keep_opSplit x0 x1 x2 s : keep (opSplit x0 x1 x2 s) = keep s := by
  simp only [opSplit, keep_ite, ite_self, keep_scratchZero, keep_rangeMod, keep_takeGroups, keep_record]

theorem keep_opJoined x0 x1 x2 s : keep (opJoined x0 x1 x2 s) = keep s := by
  simp only [opJoined, keep_ite, ite_self, keep_scratchZero, keep_rangeMod, keep_takeGroups, keep_record]

theorem keep_opJoinFailed x0 x1 x2 x3 x4 x5 s : keep (opJoinFailed x0 x1 x2 x3 x4 x5 s) = keep s := by
  simp only [opJoinFailed, keep_ite, ite_self, keep_rangeMod, keep_lbistStart, keep_record]

theorem keep_opGalSleep x0 s : keep (opGalSleep x0 s) = keep s := by
  simp only [opGalSleep, ↓keep_mk, keep_eta, keep_ite, ite_self, keep_galMod, keep_record]

theorem keep_galWake x0 x1 s : keep (galWake x0 x1 s) = keep s := by
  simp only [galWake, keep_galMod]

theorem keep_opGalWake x0 x1 s : keep (opGalWake x0 x1 s) = keep s := by
  simp only [opGalWake, keep_ite, ite_self, implies_true, keep_foldl, keep_advance, keep_galMod, keep_lbistStart,
      keep_rangeMod, keep_record, keep_galPlace]

theorem keep_codeLoad x0 x1 x2 x3 s : keep (codeLoad x0 x1 x2 x3 s) = keep s := by
  simp only [codeLoad, keep_ite, ite_self, implies_true, keep_foldl, keep_galMod]

theorem keep_galLoad x0 s : keep (galLoad x0 s) = keep s := by
  unfold galLoad
  repeat' split
  all_goals simp only [keep_ite, ite_self, keep_codeLoad, keep_galMod]

theorem keep_opMemReady x0 s : keep (opMemReady x0 s) = keep s := by
  simp only [opMemReady, keep_ite, ite_self, keep_takeGroups, keep_galLoad, keep_galMod]

theorem keep_opGalFault x0 s : keep (opGalFault x0 s) = keep s := by
  simp only [opGalFault, ↓keep_mk, keep_eta, keep_ite, ite_self, keep_galMod, keep_record, keep_sectorSafe,
      keep_proofAbort, keep_unitDown]

theorem tight_opIcxFault d s : (keep s).Tight (keep (opIcxFault d s)) := by
  unfold opIcxFault
  refine tight_ite (fun _ => tight_refl _) (fun _ => ?_)
  refine tight_trans (tight_eq ?_) (tight_enterSafe _ _ _ _)
  rw [keep_record]; rfl

theorem keep_opScrub x0 x1 x2 x3 s : keep (opScrub x0 x1 x2 x3 s) = keep s := by
  unfold opScrub
  repeat' split
  all_goals simp only [keep_galMod, keep_record, keep_eccUncorr, keep_eccLeave]

end Sys2Proof.Machine
end

