-- ==== Sys2Proof/Laws/KeptNet.lean ====
section
/-!
SUPPORT. What every command leaves of the parts that `keep` shows: registers, network, commands, NVM and KAP.
-/
namespace Sys2Proof.Machine

theorem keep_regLatch x0 s : keep (regLatch x0 s) = keep s := by
  unfold regLatch
  repeat' split
  all_goals simp only [↓keep_mk, keep_eta]

theorem keep_gatedAccess s : keep (gatedAccess s) = keep s := by
  simp only [gatedAccess, ↓keep_mk, keep_eta]

theorem keep_regRead l s : keep (regRead l s).2 = keep s := by
  induction l generalizing s with
  | nil => rfl
  | cons a as ih =>
    simp only [regRead]
    split
    · rfl
    · split
      · exact keep_gatedAccess _
      · have e := ih (regLatch a s)
        rw [keep_regLatch] at e
        split <;> rename_i hv <;> rw [hv] at e <;> exact e

theorem keep_opLatchedLow x0 s : keep (opLatchedLow x0 s) = keep s := by
  simp only [opLatchedLow, keep_regRead]

theorem keep_opRegWrite x0 x1 x2 s : keep (opRegWrite x0 x1 x2 s) = keep s := by
  unfold opRegWrite
  repeat' first
    | rfl
    | (simp only [keep_ite]; done)
    | refine (keep_ioWrite _ _ _ _ _ _ _ (by assumption)).trans ?_
    | refine keep_snd (by assumption) ?_
    | simp only [keep_ite]
    | split
    | refine (keep_foldl _ _ _ ?_).trans ?_
    | intro _

theorem keep_beamFlush s : keep (beamFlush s) = keep s := by
  simp only [beamFlush, ↓keep_mk, keep_eta, keep_ite, ite_self, implies_true, keep_foldl, keep_beamWire]

theorem keep_opLinkUp x0 s : keep (opLinkUp x0 s) = keep s := by
  simp only [opLinkUp, keep_ite, ite_self, keep_portUpd, keep_record, keep_beamFlush]

theorem keep_opLinkDown x0 s : keep (opLinkDown x0 s) = keep s := by
  simp only [opLinkDown, keep_ite, ite_self, keep_record, keep_portUpd]

theorem keep_prpPurge s : keep (prpPurge s) = keep s := by
  simp only [prpPurge, ↓keep_mk, keep_eta]

theorem keep_prpTake x0 x1 s : keep (prpTake x0 x1 s).2 = keep s := by
  unfold prpTake
  repeat' split
  all_goals simp only [↓keep_mk, keep_eta, keep_ite_snd, ite_self, keep_prpPurge]

theorem keep_fwTake x0 x1 s : keep (fwTake x0 x1 s).2 = keep s := by
  unfold fwTake
  repeat' split
  all_goals simp only [↓keep_mk, keep_eta, keep_record]

theorem keep_kapConnect x0 x1 x2 s : keep (kapConnect x0 x1 x2 s) = keep s := by
  simp only [kapConnect, ↓keep_mk, keep_eta, keep_ite, ite_self, keep_emit]

theorem keep_opEthFrame x0 x1 s : keep (opEthFrame x0 x1 s) = keep s := by
  unfold opEthFrame
  dsimp only
  repeat' split
  all_goals simp only [↓keep_mk, keep_eta, keep_portUpd, keep_prpTake, keep_fwTake, keep_kapConnect]

theorem keep_opPrpSend s : keep (opPrpSend s) = keep s := by
  simp only [opPrpSend, ↓keep_mk, keep_eta, keep_reach, keep_ecnSend]

theorem keep_beamKey x0 x1 s : ∀ t, (beamKey x0 x1 s) = .ok t → keep t = keep s := by
  intro  t h
  unfold beamKey at h
  simp only [] at h
  repeat' split at h
  all_goals first
    | cases h
    | skip
  all_goals repeat first
    | rfl
    | (simp only [↓keep_mk, keep_eta, keep_ite, keep_ite_snd, ite_self, implies_true, keep_foldl, keep_brxMod]; done)
    | refine keep_snd (by assumption) ?_
    | simp only [↓keep_mk, keep_eta, keep_ite, keep_ite_snd, ite_self, implies_true, keep_foldl, keep_brxMod]

theorem keep_beamEpoch x0 x1 s : keep (beamEpoch x0 x1 s) = keep s := by
  simp only [beamEpoch, keep_ite, ite_self, keep_nvmJournal, keep_brxMod]

theorem keep_beamDeliver x0 x1 x2 x3 x4 s : keep (beamDeliver x0 x1 x2 x3 x4 s) = keep s := by
  simp only [beamDeliver, ↓keep_mk, keep_eta, keep_ite, ite_self, keep_record, keep_traceBeam, keep_brxMod]

theorem keep_beamOrder x0 x1 x2 x3 s : keep (beamOrder x0 x1 x2 x3 s) = keep s := by
  simp only [beamOrder, ↓keep_mk, keep_eta, keep_ite, ite_self, keep_record, keep_brxMod, keep_beamDeliver]

theorem keep_opBeamReceive x0 x1 s : keep (opBeamReceive x0 x1 s) = keep s := by
  unfold opBeamReceive
  repeat' first
    | rfl
    | (simp only [↓keep_mk, keep_eta, keep_ite, ite_self, keep_record, keep_beamEpoch, keep_beamCheckFault,
        keep_beamOrder]; done)
    | refine (keep_beamKey _ _ _ _ (by assumption)).trans ?_
    | refine keep_snd (by assumption) ?_
    | simp only [↓keep_mk, keep_eta, keep_ite, ite_self, keep_record, keep_beamEpoch, keep_beamCheckFault, keep_beamOrder]
    | split
    | refine (keep_foldl _ _ _ ?_).trans ?_
    | intro _

theorem keep_opBeamRxTimeout x0 s : keep (opBeamRxTimeout x0 s) = keep s := by
  simp only [opBeamRxTimeout, keep_ite, ite_self, keep_reach, keep_brxStale]

theorem keep_beamRestarted s : keep (beamRestarted s) = keep s := by
  simp only [beamRestarted, ↓keep_mk, keep_eta]

theorem keep_opBeamTxLate s : keep (opBeamTxLate s) = keep s := by
  unfold opBeamTxLate
  repeat' split
  all_goals simp only [↓keep_mk, keep_eta, keep_reach]

theorem keep_opDiagSend s : keep (opDiagSend s) = keep s := by
  unfold opDiagSend
  repeat' split
  all_goals simp only [↓keep_mk, keep_eta, keep_reach, keep_beamWire3]

theorem keep_opHbSend s : keep (opHbSend s) = keep s := by
  simp only [opHbSend, ↓keep_mk, keep_eta, keep_ite, ite_self, keep_reach, keep_beamWire]

theorem keep_partnerReport x0 x1 x2 x3 x4 x5 s : keep (partnerReport x0 x1 x2 x3 x4 x5 s) = keep s := by
  simp only [partnerReport, ↓keep_mk, keep_eta]

theorem keep_rolePend x0 x1 x2 s : keep (rolePend x0 x1 x2 s) = keep s := by
  simp only [rolePend, ↓keep_mk, keep_eta]

theorem keep_doublePrincipal x0 s : keep (doublePrincipal x0 s) = keep s := by
  simp only [doublePrincipal, ↓keep_mk, keep_eta, keep_ite, ite_self, keep_record, keep_rolePend]

theorem keep_silenceDecide x0 s : keep (silenceDecide x0 s) = keep s := by
  simp only [silenceDecide, ↓keep_mk, keep_eta, keep_ite, ite_self, keep_rolePend]

theorem keep_opHbReceived x0 s : keep (opHbReceived x0 s) = keep s := by
  simp only [opHbReceived, ↓keep_mk, keep_eta, keep_ite, ite_self, keep_partnerReport, keep_aoUpdate, keep_outsUpdate,
      keep_partnerSign, keep_silenceDecide, keep_doublePrincipal]

theorem keep_denyRole x0 s : keep (denyRole x0 s) = keep s := by
  unfold denyRole
  repeat' split
  all_goals simp only [keep_record]

theorem keep_command x0 f1 s (h1 : ∀ a0 u, keep (f1 a0 u).2 = keep u) : keep (command x0 f1 s) = keep s := by
  unfold command
  repeat' first
    | rfl
    | (simp only [↓keep_mk, keep_eta, keep_ite, keep_finish, h1]; done)
    | refine keep_snd (by assumption) ?_
    | exact h1 _ _
    | exact h1 _
    | exact h1 _ _ (by assumption)
    | simp only [↓keep_mk, keep_eta, keep_ite, keep_finish]
    | split
    | refine (keep_foldl _ _ _ ?_).trans ?_
    | intro _

theorem keep_commandData x0 f1 s (h1 : ∀ a0 u, keep (f1 a0 u).2 = keep u) : keep (commandData x0 f1 s) = keep s := by
  unfold commandData
  repeat' first
    | rfl
    | (simp only [↓keep_mk, keep_eta, keep_ite, keep_finish, h1]; done)
    | refine keep_snd (by assumption) ?_
    | exact h1 _ _
    | exact h1 _
    | exact h1 _ _ (by assumption)
    | simp only [↓keep_mk, keep_eta, keep_ite, keep_finish]
    | split
    | refine (keep_foldl _ _ _ ?_).trans ?_
    | intro _

theorem keep_simple x0 x1 f2 s (h2 : ∀ a0 u, keep (f2 a0 u).2 = keep u) : keep (simple x0 x1 f2 s) = keep s := by
  unfold simple
  repeat' first
    | rfl
    | (simp only [h2]; done)
    | refine (keep_command _ _ _ ?_).trans ?_
    | refine keep_snd (by assumption) ?_
    | exact h2 _ _
    | exact h2 _
    | exact h2 _ _ (by assumption)
    | simp only []
    | split
    | refine (keep_foldl _ _ _ ?_).trans ?_
    | intro _

theorem keep_readCmd x0 x1 s : keep (readCmd x0 x1 s) = keep s := by
  simp only [readCmd, implies_true, keep_command]

theorem keep_longStart x0 s : keep (longStart x0 s) = keep s := by
  simp only [longStart, ↓keep_mk, keep_eta]

theorem keep_longWith x0 x1 s : keep (longWith x0 x1 s) = keep s := by
  simp only [longWith, ↓keep_mk, keep_eta]

theorem keep_opLongComplete x0 s : keep (opLongComplete x0 s) = keep s := by
  unfold opLongComplete
  repeat' split
  all_goals simp only [↓keep_mk, keep_eta, keep_finish]

theorem keep_twinSend x0 s : keep (twinSend x0 s) = keep s := by
  simp only [twinSend, ↓keep_mk, keep_eta, keep_ite, ite_self, keep_fkWrite]

theorem keep_twinWide x0 x1 f2 s (h2 : ∀ a0 u, keep (f2 a0 u).2 = keep u) : keep (twinWide x0 x1 f2 s) = keep s := by
  unfold twinWide
  repeat' first
    | rfl
    | (simp only [↓keep_mk, keep_eta, keep_ite_snd, ite_self, keep_twinSend, h2]; done)
    | refine (keep_commandData _ _ _ ?_).trans ?_
    | refine keep_snd (by assumption) ?_
    | exact h2 _ _
    | exact h2 _
    | exact h2 _ _ (by assumption)
    | simp only []
    | split
    | refine (keep_foldl _ _ _ ?_).trans ?_
    | intro _

theorem keep_ringAdd x0 s : keep (ringAdd x0 s) = keep s := by
  simp only [ringAdd, ↓keep_mk, keep_eta]

theorem keep_appendDone x0 s : keep (appendDone x0 s) = keep s := by
  simp only [appendDone, ↓keep_mk, keep_eta, keep_ite, ite_self, implies_true, keep_foldl, keep_ringAdd, keep_flushStaged]

theorem keep_recorderFail x0 x1 s : keep (recorderFail x0 x1 s) = keep s := by
  simp only [recorderFail, ↓keep_mk, keep_eta, keep_ite, ite_self, keep_nvmJournal, keep_record]

theorem keep_stopSaved x0 s : keep (stopSaved x0 s) = keep s := by
  simp only [stopSaved, ↓keep_mk, keep_eta, keep_ite, ite_self]

theorem keep_retainDone x0 s : keep (retainDone x0 s) = keep s := by
  simp only [retainDone, ↓keep_mk, keep_eta, keep_ite, ite_self, implies_true, keep_foldl, keep_areaMod, keep_record,
      keep_finish, keep_snapTry, keep_stopSaved]

theorem keep_retainFail x0 x1 s : keep (retainFail x0 x1 s) = keep s := by
  simp only [retainFail, ↓keep_mk, keep_eta, keep_ite, ite_self, implies_true, keep_foldl, keep_areaMod, keep_record,
      keep_finish, keep_snapTry, keep_stopSaved]

theorem keep_jobDone x0 s : keep (jobDone x0 s) = keep s := by
  unfold jobDone
  repeat' split
  all_goals simp only [↓keep_mk, keep_eta, keep_appendDone, keep_nvmPush, keep_retainDone]

theorem keep_jobFail x0 x1 s : keep (jobFail x0 x1 s) = keep s := by
  unfold jobFail
  repeat' split
  all_goals simp only [↓keep_mk, keep_eta, keep_recorderFail, keep_retainFail]

theorem keep_opPageCommit x0 x1 s : keep (opPageCommit x0 x1 s) = keep s := by
  unfold opPageCommit
  repeat' split
  all_goals simp only [↓keep_mk, keep_eta, keep_ite, ite_self, keep_jobDone, keep_jobFail, keep_record]

theorem keep_opRecFlush s : keep (opRecFlush s) = keep s := by
  unfold opRecFlush
  repeat' split
  all_goals simp only [keep_flushStaged, keep_reach]

theorem keep_bucketSum x0 x1 s : keep (bucketSum x0 x1 s) = keep s := by
  simp only [bucketSum, ↓keep_mk, keep_eta, keep_ite, ite_self, keep_stage]

theorem keep_opSuppressed s : keep (opSuppressed s) = keep s := by
  simp only [opSuppressed, implies_true, keep_foldl, keep_reach, keep_bucketSum]

theorem keep_opSnapshotDue s : keep (opSnapshotDue s) = keep s := by
  unfold opSnapshotDue
  repeat' split
  all_goals simp only [↓keep_mk, keep_eta, keep_ite, ite_self, keep_reach, keep_snapAsk, keep_record]

theorem keep_opOperating s : keep (opOperating s) = keep s := by
  simp only [opOperating, ↓keep_mk, keep_eta, keep_ite, ite_self, keep_advance, keep_counterPut]

theorem keep_sessionMod x0 x1 s : keep (sessionMod x0 x1 s) = keep s := by
  simp only [sessionMod, ↓keep_mk, keep_eta]

theorem keep_mbxBindTo x0 x1 x2 s : keep (mbxBindTo x0 x1 x2 s) = keep s := by
  unfold mbxBindTo
  repeat' split
  all_goals simp only [keep_mbxMod, keep_sessionMod, keep_fkNext, keep_record]

theorem keep_mbxOffer x0 s : keep (mbxOffer x0 s) = keep s := by
  unfold mbxOffer
  dsimp only
  repeat' split
  all_goals simp only [keep_mbxBindTo]

theorem keep_mbxRelease x0 s : keep (mbxRelease x0 s) = keep s := by
  unfold mbxRelease
  dsimp only
  repeat' split
  all_goals simp only [↓keep_mk, keep_eta, keep_mbxMod, keep_mbxOffer]

theorem keep_watchClose x0 s : keep (watchClose x0 s) = keep s := by
  simp only [watchClose, ↓keep_mk, keep_eta, keep_ite, ite_self, keep_record]

theorem keep_sessionClose x0 x1 s : keep (sessionClose x0 x1 s) = keep s := by
  unfold sessionClose
  repeat' split
  all_goals simp only [↓keep_mk, keep_eta, keep_ite, ite_self, keep_emit, keep_record, keep_mbxMod, keep_watchClose]

theorem keep_auth_tail (s s1 : State) (peer n : Nat) (f : List Nat) (b : Bar) (e : keep s1 = keep s) :
    keep (if 10 ≤ f.length then record 0x0D05 0 (items [peer, f.length])
      { s1 with sec := { s1.sec with bars := tabPut {} s1.sec.bars peer { fails := [], barred := some n } } }
      else { s1 with sec := { s1.sec with bars := tabPut {} s1.sec.bars peer { b with fails := f } } }) = keep s := by
  simp only [keep_ite, ite_self, keep_record, ↓keep_mk, keep_eta, e]

theorem keep_authFail peer port reason cert s : keep (authFail peer port reason cert s) = keep s := by
  have e := keep_record 0x0D04 0 (items [peer, port, reason] ++ item128 cert) s
  unfold authFail
  generalize record _ _ _ s = s1 at e ⊢
  exact keep_auth_tail _ _ _ _ _ _ e

theorem keep_handshakeDrop x0 s : keep (handshakeDrop x0 s) = keep s := by
  simp only [handshakeDrop, ↓keep_mk, keep_eta]

theorem keep_sessionOpen x0 x1 x2 s : keep (sessionOpen x0 x1 x2 s) = keep s := by
  unfold sessionOpen
  dsimp only
  repeat' split
  all_goals simp only [↓keep_mk, keep_eta, keep_record, keep_emit, keep_mbxBindTo]

theorem keep_opSessionOpen x0 x1 s : keep (opSessionOpen x0 x1 s) = keep s := by
  unfold opSessionOpen
  repeat' split
  all_goals simp only [keep_ite, ite_self, keep_handshakeDrop, keep_emit, keep_authFail, keep_sessionOpen]

theorem keep_opHandshakeTimeout x0 s : keep (opHandshakeTimeout x0 s) = keep s := by
  unfold opHandshakeTimeout
  repeat' split
  all_goals simp only [keep_reach, keep_emit, keep_authFail, keep_handshakeDrop]

theorem keep_opKeyUpdate x0 s : keep (opKeyUpdate x0 s) = keep s := by
  unfold opKeyUpdate
  repeat' split
  all_goals simp only [keep_reach, keep_sessionMod]

theorem keep_opSessionClose x0 x1 s : keep (opSessionClose x0 x1 s) = keep s := by
  unfold opSessionClose
  repeat' split
  all_goals simp only [keep_ite, ite_self, keep_sessionClose, keep_reach, keep_record]

theorem keep_opLockoutEnd x0 s : keep (opLockoutEnd x0 s) = keep s := by
  unfold opLockoutEnd
  repeat' split
  all_goals simp only [↓keep_mk, keep_eta, keep_reach]

theorem keep_opRetention x0 s : keep (opRetention x0 s) = keep s := by
  unfold opRetention
  repeat' split
  all_goals simp only [keep_mbxRelease, keep_reach]

theorem keep_kapRecord x0 x1 x2 f3 s (h3 : ∀ a0 u, keep (f3 a0 u).2 = keep u) : keep (kapRecord x0 x1 x2 f3 s) = keep s := by
  unfold kapRecord
  repeat' split
  all_goals simp only [keep_sessionMod, keep_emit, h3]

theorem keep_kapMailbox x0 x1 x2 f3 s (h3 : ∀ a0 u, keep (f3 a0 u).2 = keep u) : keep (kapMailbox x0 x1 x2 f3 s) = keep s := by
  unfold kapMailbox
  repeat' first
    | rfl
    | (simp only [implies_true, h3]; done)
    | refine (keep_kapRecord _ _ _ _ _ ?_).trans ?_
    | refine keep_snd (by assumption) ?_
    | exact h3 _ _
    | exact h3 _
    | exact h3 _ _ (by assumption)
    | simp only [↓keep_mk, keep_eta, keep_ite, keep_ite_snd, ite_self, implies_true, keep_foldl, keep_kapRecord, h3]
    | split
    | refine (keep_foldl _ _ _ ?_).trans ?_
    | intro _

theorem keep_opMbxWrite x0 x1 x2 s : keep (opMbxWrite x0 x1 x2 s) = keep s := by
  unfold opMbxWrite
  repeat' split
  all_goals simp only [implies_true, keep_kapMailbox, keep_tkWrite]

theorem keep_opMbxRead x0 x1 s : keep (opMbxRead x0 x1 s) = keep s := by
  simp only [opMbxRead, keep_ite_snd, ite_self, implies_true, keep_kapMailbox]

theorem keep_opMbxAck x0 x1 x2 s : keep (opMbxAck x0 x1 x2 s) = keep s := by
  simp only [opMbxAck, ↓keep_mk, keep_eta, keep_ite_snd, ite_self, implies_true, keep_kapMailbox, keep_fkNext, keep_mbxMod]

theorem keep_opAckRead x0 x1 s : keep (opAckRead x0 x1 s) = keep s := by
  simp only [opAckRead, implies_true, keep_kapMailbox]

theorem keep_regReadFor x0 x1 x2 x3 s : keep (regReadFor x0 x1 x2 x3 s).2 = keep s := by
  simp only [regReadFor, keep_ite_snd, ite_self, keep_regRead]

theorem keep_opRegRead x0 x1 x2 x3 s : keep (opRegRead x0 x1 x2 x3 s) = keep s := by
  unfold opRegRead
  repeat' first
    | rfl
    | (simp only [keep_ite_snd, ite_self, implies_true, keep_regReadFor]; done)
    | refine (keep_kapRecord _ _ _ _ _ ?_).trans ?_
    | refine keep_snd (by assumption) ?_
    | simp only [keep_ite_snd]
    | split
    | refine (keep_foldl _ _ _ ?_).trans ?_
    | intro _

theorem keep_opResume x0 x1 x2 s : keep (opResume x0 x1 x2 s) = keep s := by
  unfold opResume
  repeat' first
    | rfl
    | (simp only [keep_ite_snd, ite_self, implies_true, keep_mbxBindTo, keep_mbxRelease]; done)
    | refine (keep_kapRecord _ _ _ _ _ ?_).trans ?_
    | refine keep_snd (by assumption) ?_
    | simp only [keep_ite_snd]
    | split
    | refine (keep_foldl _ _ _ ?_).trans ?_
    | intro _

theorem keep_opUndefinedKap x0 x1 x2 s : keep (opUndefinedKap x0 x1 x2 s) = keep s := by
  simp only [opUndefinedKap, keep_ite, ite_self, implies_true, keep_kapMailbox]

theorem keep_tkAck x0 x1 s : keep (tkAck x0 x1 s) = keep s := by
  simp only [tkAck, keep_mbxMod]

theorem keep_enqueue x0 s : keep (enqueue x0 s).2 = keep s := by
  unfold enqueue
  repeat' split
  all_goals simp only [↓keep_mk, keep_eta, keep_record]

theorem keep_noteTake x0 s : keep (noteTake x0 s) = keep s := by
  simp only [noteTake, ↓keep_mk, keep_eta, keep_ite, ite_self, keep_record, keep_tkAck]

theorem keep_opTake x0 s : keep (opTake x0 s) = keep s := by
  unfold opTake
  dsimp only
  repeat' split
  all_goals simp only [keep_tkAck, keep_noteTake, keep_denyRole, keep_enqueue]

theorem keep_opMailboxPoll x0 s : keep (opMailboxPoll x0 s) = keep s := by
  unfold opMailboxPoll
  dsimp only
  repeat' split
  all_goals simp only [↓keep_mk, keep_eta, keep_mbxMod, keep_twinQueue, keep_fkWrite]

theorem keep_opCanCmd x0 x1 x2 x3 x4 s : keep (opCanCmd x0 x1 x2 x3 x4 s) = keep s := by
  unfold opCanCmd
  dsimp only
  repeat' split
  all_goals simp only [↓keep_mk, keep_eta, keep_record, keep_canReply, keep_enqueue]

theorem keep_keeperDown x0 s : keep (keeperDown x0 s) = keep s := by
  simp only [keeperDown, ↓keep_mk, keep_eta, implies_true, keep_foldl, keep_sessionClose, keep_proofAbort]

theorem keep_keeperResume s : keep (keeperResume s) = keep s := by
  unfold keeperResume
  repeat' split
  all_goals simp only [↓keep_mk, keep_eta, implies_true, keep_foldl, keep_record, keep_counterInc, keep_mbxMod, keep_finish]

theorem keep_opKeeperFault s : keep (opKeeperFault s) = keep s := by
  simp only [opKeeperFault, keep_ite, ite_self, keep_keeperDown]

theorem keep_viewPutV x0 s : keep (viewPutV x0 s) = keep s := by
  simp only [viewPutV, ↓keep_mk, keep_eta]

theorem keep_viewFollow s s1 : keep (viewFollow s s1) = keep s1 := by
  unfold viewFollow
  refine keep_foldl _ _ _ fun s u => ?_
  dsimp only
  split
  · rfl
  · exact keep_viewPutV _ _

theorem keep_viewCheck x0 s : keep (viewCheck x0 s) = keep s := by
  unfold viewCheck
  repeat' split
  all_goals simp only [↓keep_mk, keep_eta, keep_ite, ite_self, implies_true, keep_foldl, keep_viewPutV, keep_finish,
      keep_record]

theorem keep_viewRecord x0 s : keep (viewRecord x0 s) = keep s := by
  simp only [viewRecord, ↓keep_mk, keep_eta, keep_ite, ite_self, keep_record, keep_viewPutV]

theorem keep_opViewCheck s : keep (opViewCheck s) = keep s := by
  simp only [opViewCheck, keep_ite, ite_self, implies_true, keep_foldl, keep_viewRecord, keep_viewCheck, keep_reach]

end Sys2Proof.Machine
end

