-- ==== Sys2Proof/Laws/KeptCmd.lean ====
section
/-!
SUPPORT. What every command leaves of the parts that `keep` shows: the keeper commands.
-/
namespace Sys2Proof.Machine

theorem keep_schMod x0 x1 s : keep (schMod x0 x1 s) = keep s := by
  simp only [schMod, ↓keep_mk, keep_eta]

theorem keep_schCommand x0 s : keep (schCommand x0 s) = keep s := by
  unfold schCommand
  dsimp only
  repeat' split
  all_goals simp only [keep_slotOutcome, keep_denyRole, keep_enqueue]

theorem keep_schExec x0 s : keep (schExec x0 s) = keep s := by
  simp only [schExec, ↓keep_mk, keep_eta, keep_ite, ite_self, keep_schMod, keep_record, keep_triggerAt, keep_schCommand]

theorem keep_opScheduledAction s : keep (opScheduledAction s) = keep s := by
  unfold opScheduledAction
  repeat' split
  all_goals simp only [keep_schExec, keep_reach]

theorem keep_effSchedule x0 s : keep (effSchedule x0 s).2 = keep s := by
  unfold effSchedule
  repeat' split
  all_goals simp only [keep_ite_snd, ite_self, keep_schMod, keep_schExec]

theorem keep_effCancel x0 s : keep (effCancel x0 s).2 = keep s := by
  simp only [effCancel, ↓keep_mk, keep_eta]

theorem keep_opTimeRead s : keep (opTimeRead s) = keep s := by
  simp only [opTimeRead, keep_readCmd]

theorem keep_opTimeSettings s : keep (opTimeSettings s) = keep s := by
  simp only [opTimeSettings, ↓keep_mk, keep_eta, implies_true, keep_simple, keep_nvmJournal]

theorem keep_opTimeStep s : keep (opTimeStep s) = keep s := by
  simp only [opTimeStep, ↓keep_mk, keep_eta, implies_true, keep_simple, keep_tsStep]

theorem keep_opRtcRead x0 s : keep (opRtcRead x0 s) = keep s := by
  simp only [opRtcRead, keep_readCmd]

theorem keep_opRtcSet s : keep (opRtcSet s) = keep s := by
  simp only [opRtcSet, ↓keep_mk, keep_eta, implies_true, keep_simple, keep_record]

theorem keep_opWeekdaySet s : keep (opWeekdaySet s) = keep s := by
  simp only [opWeekdaySet, ↓keep_mk, keep_eta, implies_true, keep_simple, keep_record]

theorem keep_opRtcShiftCmd s : keep (opRtcShiftCmd s) = keep s := by
  simp only [opRtcShiftCmd, ↓keep_mk, keep_eta, implies_true, keep_simple]

theorem keep_opAlarmSet s : keep (opAlarmSet s) = keep s := by
  simp only [opAlarmSet, implies_true, keep_simple, keep_almMod]

theorem keep_opAlarmClear s : keep (opAlarmClear s) = keep s := by
  simp only [opAlarmClear, implies_true, keep_simple, keep_almMod]

theorem keep_opBackupClear s : keep (opBackupClear s) = keep s := by
  simp only [opBackupClear, ↓keep_mk, keep_eta, implies_true, keep_simple, keep_record]

theorem keep_opModuleStatus s : keep (opModuleStatus s) = keep s := by
  simp only [opModuleStatus, keep_readCmd]

theorem keep_opModeRead s : keep (opModeRead s) = keep s := by
  simp only [opModeRead, keep_readCmd]

theorem keep_opIdentityRead s : keep (opIdentityRead s) = keep s := by
  simp only [opIdentityRead, keep_readCmd]

theorem keep_opRegisterRead s : keep (opRegisterRead s) = keep s := by
  unfold opRegisterRead
  repeat' first
    | rfl
    | (simp only [keep_regReadFor]; done)
    | refine (keep_command _ _ _ ?_).trans ?_
    | refine keep_snd (by assumption) ?_
    | simp only [↓keep_mk, keep_eta, keep_ite, keep_ite_snd, ite_self, implies_true, keep_foldl, keep_command,
        keep_regReadFor]
    | split
    | refine (keep_foldl _ _ _ ?_).trans ?_
    | intro _

theorem tight_command op f s (h : ∀ q s, (keep s).Tight (keep (f q s).2)) : (keep s).Tight (keep (command op f s)) := by
  unfold command
  split
  · exact tight_refl _
  · rename_i q rest _
    refine tight_ite (fun _ => ?_) (fun _ => tight_refl _)
    dsimp only
    refine tight_ite (fun _ => ?_) (fun _ => ?_)
    · rw [keep_finish]; exact tight_eq rfl
    · have e := h q { s with kp := { s.kp with queue := rest } }
      split <;> rename_i hv <;> rw [hv] at e
      · rw [keep_finish]; exact e
      · exact e

theorem tight_simple op c f s (h : ∀ q s, c q s = none → (keep s).Tight (keep (f q s).2)) :
    (keep s).Tight (keep (simple op c f s)) := by
  unfold simple
  refine tight_command _ _ _ fun q s => ?_
  dsimp only
  split
  · exact tight_refl _
  · exact h q s ‹_›

theorem tight_opSafeCmd s : (keep s).Tight (keep (opSafeCmd s)) := by
  unfold opSafeCmd
  exact tight_simple _ _ _ _ fun q s _ => tight_enterSafe _ _ _ _

theorem keep_opSafeResetCmd s : keep (opSafeResetCmd s) = keep s := by
  simp only [opSafeResetCmd, ↓keep_mk, keep_eta, implies_true, keep_simple, keep_record]

theorem tight_opServiceEnter s : (keep s).Tight (keep (opServiceEnter s)) := by
  unfold opServiceEnter
  refine tight_simple _ _ _ _ fun q s hc => ?_
  dsimp only
  rw [keep_record, keep_maint]
  refine tight_maint_on _ ?_
  have hs : ¬ (scanning s = true) := by
    intro hs
    simp only [hs, true_or, if_true] at hc
    split at hc <;> cases hc
  simpa [keep, scans, scanning] using hs

theorem tight_serviceEnd c s : (keep s).Tight (keep (serviceEnd c s)) := by
  unfold serviceEnd
  refine tight_ite (fun _ => ?_) (fun _ => tight_refl _)
  rw [keep_record, keep_maint]
  exact tight_maint_off _

theorem tight_opServiceLeave s : (keep s).Tight (keep (opServiceLeave s)) := by
  unfold opServiceLeave
  exact tight_simple _ _ _ _ fun q s _ => tight_serviceEnd _ _

theorem keep_opKeeperRestart s : keep (opKeeperRestart s) = keep s := by
  simp only [opKeeperRestart, implies_true, keep_command, keep_keeperDown, keep_longWith]

theorem keep_opTransferOpen s : keep (opTransferOpen s) = keep s := by
  unfold opTransferOpen
  repeat' first
    | rfl
    | (simp only [↓keep_mk, keep_eta, implies_true]; done)
    | refine (keep_simple _ _ _ _ ?_).trans ?_
    | refine keep_snd (by assumption) ?_
    | simp only []
    | split
    | refine (keep_foldl _ _ _ ?_).trans ?_
    | intro _

theorem keep_opTransferData s : keep (opTransferData s) = keep s := by
  unfold opTransferData
  repeat' first
    | rfl
    | (simp only [↓keep_mk, keep_eta, keep_ite_snd, ite_self]; done)
    | refine (keep_commandData _ _ _ ?_).trans ?_
    | refine keep_snd (by assumption) ?_
    | simp only []
    | split
    | refine (keep_foldl _ _ _ ?_).trans ?_
    | intro _

theorem keep_opTransferClose s : keep (opTransferClose s) = keep s := by
  unfold opTransferClose
  repeat' first
    | rfl
    | (simp only [keep_ite_snd]; done)
    | refine (keep_command _ _ _ ?_).trans ?_
    | refine keep_snd (by assumption) ?_
    | simp only [keep_ite_snd]
    | split
    | refine (keep_foldl _ _ _ ?_).trans ?_
    | intro _

theorem keep_takeTransfer x0 x1 s : ∀ v0 t, (takeTransfer x0 x1 s) = some (v0, t) → keep t = keep s := by
  intro v0 t h
  unfold takeTransfer at h
  simp only [] at h
  repeat' split at h
  all_goals first
    | cases h
    | skip
  all_goals repeat first
    | rfl
    | (simp only [↓keep_mk, keep_eta, keep_ite, keep_ite_snd, ite_self, implies_true, keep_foldl]; done)
    | refine keep_snd (by assumption) ?_
    | simp only [↓keep_mk, keep_eta, keep_ite, keep_ite_snd, ite_self, implies_true, keep_foldl]

theorem keep_opTransferTimeout s : keep (opTransferTimeout s) = keep s := by
  unfold opTransferTimeout
  repeat' split
  all_goals simp only [↓keep_mk, keep_eta, keep_reach]

theorem keep_batchPut x0 x1 s : keep (batchPut x0 x1 s) = keep s := by
  unfold batchPut
  repeat' split
  all_goals simp only [keep_mbxMod]

theorem keep_opBatchRead s : keep (opBatchRead s) = keep s := by
  simp only [opBatchRead, keep_readCmd]

theorem keep_effForce x0 s : keep (effForce x0 s).2 = keep s := by
  unfold effForce
  dsimp only
  repeat' split
  all_goals simp only [keep_forcesPut, keep_record]

theorem keep_effRelease x0 s : keep (effRelease x0 s).2 = keep s := by
  simp only [effRelease, keep_forcesDrop]

theorem keep_opForceList s : keep (opForceList s) = keep s := by
  simp only [opForceList, implies_true, keep_command, keep_batchPut]

theorem keep_effPairClear x0 s : keep (effPairClear x0 s).2 = keep s := by
  simp only [effPairClear, implies_true, keep_foldl, keep_pairMod, keep_diAfter]

theorem keep_effCutReset x0 s : keep (effCutReset x0 s).2 = keep s := by
  simp only [effCutReset, keep_groupCutReset]

theorem keep_opCutTest s : keep (opCutTest s) = keep s := by
  simp only [opCutTest, keep_ite_snd, ite_self, implies_true, keep_command, keep_cutTestStart, keep_longStart]

theorem keep_opAoReset s : keep (opAoReset s) = keep s := by
  simp only [opAoReset, implies_true, keep_simple, keep_aoUpdate, keep_loMod]

theorem keep_opHartPass s : keep (opHartPass s) = keep s := by
  simp only [opHartPass, keep_ite_snd, ite_self, implies_true, keep_command, keep_hartMod, keep_longStart]

theorem keep_opReflexReset x0 s : keep (opReflexReset x0 s) = keep s := by
  simp only [opReflexReset, implies_true, keep_commandData, keep_reflexReset]

theorem keep_opCanStatus s : keep (opCanStatus s) = keep s := by
  simp only [opCanStatus, keep_readCmd]

theorem keep_opTxCancel s : keep (opTxCancel s) = keep s := by
  simp only [opTxCancel, implies_true, keep_simple, keep_canCancel]

theorem keep_opPortRestart s : keep (opPortRestart s) = keep s := by
  simp only [opPortRestart, implies_true, keep_simple, keep_canRestart]

theorem keep_opNetworkSet s : keep (opNetworkSet s) = keep s := by
  simp only [opNetworkSet, ↓keep_mk, keep_eta, implies_true, keep_simple, keep_nvmJournal]

theorem keep_opFirewallSet s : keep (opFirewallSet s) = keep s := by
  unfold opFirewallSet
  repeat' first
    | rfl
    | (simp only [↓keep_mk, keep_eta, keep_record, keep_nvmJournal]; done)
    | refine (keep_command _ _ _ ?_).trans ?_
    | refine (keep_takeTransfer _ _ _ _ _ (by assumption)).trans ?_
    | refine keep_snd (by assumption) ?_
    | simp only [↓keep_mk, keep_eta, keep_record, keep_nvmJournal]
    | split
    | refine (keep_foldl _ _ _ ?_).trans ?_
    | intro _

theorem keep_opBeamRxStatus s : keep (opBeamRxStatus s) = keep s := by
  simp only [opBeamRxStatus, keep_readCmd]

theorem keep_opBuoyStatus s : keep (opBuoyStatus s) = keep s := by
  simp only [opBuoyStatus, keep_ite_snd, ite_self, implies_true, keep_command]

theorem keep_opBuoyExchangeCmd s : keep (opBuoyExchangeCmd s) = keep s := by
  simp only [opBuoyExchangeCmd, implies_true, keep_simple, keep_viewFollow, keep_buoyExchange]

theorem keep_opTagRead s : keep (opTagRead s) = keep s := by
  simp only [opTagRead, ↓keep_mk, keep_eta, keep_ite_snd, ite_self, implies_true, keep_command, keep_batchPut]

theorem keep_withRandom x0 f1 s (h1 : ∀ u, keep (f1 u).2 = keep u) : keep (withRandom x0 f1 s).2 = keep s := by
  unfold withRandom
  repeat' split
  all_goals simp only [↓keep_mk, keep_eta, h1]

theorem keep_opRecorderRead s : keep (opRecorderRead s) = keep s := by
  simp only [opRecorderRead, ↓keep_mk, keep_eta, keep_ite_snd, ite_self, implies_true, keep_foldl, keep_command,
      keep_freeNext, keep_batchPut, keep_record, keep_longWith]

theorem keep_opClearPrepare s : keep (opClearPrepare s) = keep s := by
  unfold opClearPrepare
  repeat' first
    | rfl
    | (simp only [↓keep_mk, keep_eta, implies_true, keep_withRandom, keep_freeNext]; done)
    | refine (keep_command _ _ _ ?_).trans ?_
    | refine keep_snd (by assumption) ?_
    | simp only []
    | split
    | refine (keep_foldl _ _ _ ?_).trans ?_
    | intro _

theorem keep_recorderClear x0 s : keep (recorderClear x0 s) = keep s := by
  simp only [recorderClear, ↓keep_mk, keep_eta, keep_ite, ite_self, keep_record, keep_flushStaged, keep_nvmJournal,
      keep_nvmPush]

theorem keep_opClearConfirm s : keep (opClearConfirm s) = keep s := by
  simp only [opClearConfirm, ↓keep_mk, keep_eta, keep_ite_snd, ite_self, implies_true, keep_command, keep_recorderClear]

theorem keep_opCounterRead s : keep (opCounterRead s) = keep s := by
  simp only [opCounterRead, keep_readCmd]

theorem keep_opRetainSnapshot s : keep (opRetainSnapshot s) = keep s := by
  simp only [opRetainSnapshot, keep_ite_snd, ite_self, implies_true, keep_command, keep_snapAsk]

theorem keep_opLastLightRead s : keep (opLastLightRead s) = keep s := by
  simp only [opLastLightRead, implies_true, keep_command, keep_batchPut]

theorem keep_opSessionInfo s : keep (opSessionInfo s) = keep s := by
  simp only [opSessionInfo, keep_readCmd]

theorem keep_opEnrollRequest x0 x1 s : keep (opEnrollRequest x0 x1 s) = keep s := by
  simp only [opEnrollRequest, ↓keep_mk, keep_eta, keep_ite_snd, ite_self, implies_true, keep_command, keep_withRandom,
      keep_record, keep_batchPut, keep_longWith]

theorem keep_enroll x0 x1 x2 x3 s : keep (enroll x0 x1 x2 x3 s) = keep s := by
  simp only [enroll, ↓keep_mk, keep_eta, keep_nvmJournal, keep_counterPut, keep_record]

theorem keep_opEnrollInstall x0 x1 x2 x3 s : keep (opEnrollInstall x0 x1 x2 x3 s) = keep s := by
  unfold opEnrollInstall
  repeat' first
    | rfl
    | (simp only [keep_ite_snd, ite_self, keep_enroll]; done)
    | refine (keep_command _ _ _ ?_).trans ?_
    | refine (keep_takeTransfer _ _ _ _ _ (by assumption)).trans ?_
    | refine keep_snd (by assumption) ?_
    | simp only [keep_ite_snd, ite_self, keep_enroll]
    | split
    | refine (keep_foldl _ _ _ ?_).trans ?_
    | intro _

theorem tight_ownerInstall h l s : (keep s).Tight (keep (ownerInstall h l s)) := by
  unfold ownerInstall
  dsimp only
  have t : (keep s).Tight { keep s with vsLock := s.sec.vsLock || l } :=
    ⟨rfl, rfl, rfl, rfl, rfl, id, fun h => by have h' : s.sec.vsLock = true := h; simp [h'], id, Nat.le_refl _, Nat.le_refl _, id⟩
  refine tight_ite (fun _ => ?_) (fun _ => ?_)
  · rw [keep_record, keep_record]
    split <;> exact t
  · rw [keep_record]
    split <;> exact t

theorem tight_opOwnerInstall h p l s : (keep s).Tight (keep (opOwnerInstall h p l s)) := by
  unfold opOwnerInstall
  refine tight_command _ _ _ fun q s => ?_
  split
  · exact tight_refl _
  · split
    · exact tight_refl _
    · split
      · exact tight_refl _
      · rename_i u hu
        have e : keep u = keep s := keep_takeTransfer _ _ _ _ _ hu
        split
        · exact e ▸ tight_ownerInstall _ _ _
        · exact tight_eq e

theorem keep_canEpochBump s : keep (canEpochBump s) = keep s := by
  simp only [canEpochBump, ↓keep_mk, keep_eta, keep_record]

theorem keep_effRotate x0 s : keep (effRotate x0 s).2 = keep s := by
  unfold effRotate
  repeat' split
  all_goals simp only [keep_epochBump, keep_epochBumps, keep_record, keep_canEpochBump]

theorem keep_opKeyRotate s : keep (opKeyRotate s) = keep s := by
  simp only [opKeyRotate, implies_true, keep_twinWide, keep_effRotate]

theorem keep_opFuseStatus s : keep (opFuseStatus s) = keep s := by
  simp only [opFuseStatus, keep_readCmd]

theorem keep_opTrngFail x0 s : keep (opTrngFail x0 s) = keep s := by
  simp only [opTrngFail, ↓keep_mk, keep_eta, keep_ite, ite_self, implies_true, keep_foldl, keep_record, keep_finish]

theorem keep_opTrngRestored s : keep (opTrngRestored s) = keep s := by
  unfold opTrngRestored
  repeat' split
  all_goals simp only [↓keep_mk, keep_eta, keep_record]

theorem keep_hold_tail (s s1 : State) (w : List Req) (n : Nat) (e : keep s1 = keep s) :
    keep (w.foldl (fun s q => finish q (rcAns 0x0402) s)
      { s1 with sec := { s1.sec with trngWait := [], trngFailedReqs := n } }) = keep s := by
  rw [keep_foldl _ _ _ (fun s q => keep_finish _ _ _)]
  simp only [↓keep_mk, keep_eta, e]

theorem keep_opTrngHold s : keep (opTrngHold s) = keep s := by
  unfold opTrngHold
  split
  · have e := keep_reach (s.sec.trngFailTs + 50000000) s
    generalize reach _ s = s1 at e ⊢
    exact keep_hold_tail _ _ _ _ e
  · rfl

theorem keep_fwPutInactive x0 s : keep (fwPutInactive x0 s) = keep s := by
  simp only [fwPutInactive, ↓keep_mk, keep_eta]

theorem keep_fwRefused x0 x1 x2 s : keep (fwRefused x0 x1 x2 s) = keep s := by
  simp only [fwRefused, keep_longWith, keep_record]

theorem keep_opFwWrite x0 x1 x2 x3 s : keep (opFwWrite x0 x1 x2 x3 s) = keep s := by
  unfold opFwWrite
  repeat' first
    | rfl
    | (simp only [↓keep_mk, keep_eta, keep_ite_snd, keep_record, keep_fwRefused, keep_fwPutInactive, keep_longWith]; done)
    | refine (keep_command _ _ _ ?_).trans ?_
    | refine (keep_takeTransfer _ _ _ _ _ (by assumption)).trans ?_
    | refine keep_snd (by assumption) ?_
    | simp only [↓keep_mk, keep_eta, keep_ite_snd, keep_record, keep_fwRefused, keep_fwPutInactive, keep_longWith]
    | split
    | refine (keep_foldl _ _ _ ?_).trans ?_
    | intro _

theorem keep_opActivate s : keep (opActivate s) = keep s := by
  simp only [opActivate, ↓keep_mk, keep_eta, keep_ite_snd, ite_self, implies_true, keep_command, keep_flushStaged,
      keep_longStart, keep_keeperDown]

theorem keep_opFwStatus s : keep (opFwStatus s) = keep s := by
  simp only [opFwStatus, keep_readCmd]

theorem keep_settingsApply s : keep (settingsApply s) = keep s := by
  simp only [settingsApply, ↓keep_mk, keep_eta]

theorem keep_settingReset x0 s : keep (settingReset x0 s) = keep s := by
  simp only [settingReset, ↓keep_mk, keep_eta, keep_ite, ite_self, keep_nvmJournal]

theorem keep_settingsConvert x0 s : keep (settingsConvert x0 s).2 = keep s := by
  simp only [settingsConvert, ↓keep_mk, keep_eta, keep_ite, ite_self, implies_true, keep_foldl, keep_settingReset,
      keep_record]

theorem keep_longAnswer x0 x1 s : keep (longAnswer x0 x1 s) = keep s := by
  simp only [longAnswer, ↓keep_mk, keep_eta]

theorem keep_activateEnd x0 x1 s : keep (activateEnd x0 x1 s) = keep s := by
  simp only [activateEnd, ↓keep_mk, keep_eta, keep_ite, ite_self, keep_longAnswer, keep_settingsConvert, keep_record]

theorem keep_opKeeperResume x0 s : keep (opKeeperResume x0 s) = keep s := by
  unfold opKeeperResume
  repeat' split
  all_goals simp only [↓keep_mk, keep_eta, keep_settingsApply, keep_activateEnd, keep_keeperResume]

theorem tight_svnBurn p o n s (h : p = 1 → o = s.sec.svnKeeper) (g : p ≠ 1 → o = s.sec.svnLroom) :
    (keep s).Tight (keep (svnBurn p o n s)) := by
  unfold svnBurn
  refine tight_ite (fun lt => ?_) (fun _ => tight_refl _)
  dsimp only
  rw [keep_record]
  refine tight_ite (fun c => ?_) (fun c => ?_)
  · refine ⟨rfl, rfl, rfl, rfl, rfl, id, id, id, ?_, Nat.le_refl _, id⟩
    show s.sec.svnKeeper ≤ n
    have := h c; omega
  · refine ⟨rfl, rfl, rfl, rfl, rfl, id, id, id, Nat.le_refl _, ?_, id⟩
    show s.sec.svnLroom ≤ n
    have := g c; omega

theorem keep_slotInvalidate s : keep (slotInvalidate s) = keep s := by
  simp only [slotInvalidate, ↓keep_mk, keep_eta, keep_ite, ite_self, keep_record]

theorem svnBurn_lroom (o n : Nat) (s : State) : (svnBurn 1 o n s).sec.svnLroom = s.sec.svnLroom := by
  unfold svnBurn
  split
  · have e := congrArg Kept.svnLroom (keep_record 0x0D03 1 (items [1, o,
      n]) { s with sec := { s.sec with svnKeeper := n } })
    exact e
  · rfl

theorem tight_rollbackAdvance s : (keep s).Tight (keep (rollbackAdvance s)) := by
  unfold rollbackAdvance
  dsimp only
  rw [keep_slotInvalidate, keep_record]
  refine tight_trans (tight_svnBurn 1 s.sec.svnKeeper (fwActive s).svnK s (fun _ => rfl) (fun h => absurd rfl h)) ?_
  refine tight_trans (tight_svnBurn 2 s.sec.svnLroom (fwActive s).svnL _ (fun h => by cases h) (fun _ => (svnBurn_lroom _ _ _).symm)) ?_
  exact tight_eq rfl

theorem tight_opRollback3600 s : (keep s).Tight (keep (opRollback3600 s)) := by
  unfold opRollback3600
  split
  · exact tight_refl _
  · exact tight_ite (fun _ => tight_refl _) fun _ =>
      tight_trans (tight_eq (keep_reach (s.fw.runSince + 3600000000000) s)) (tight_rollbackAdvance _)

theorem keep_trialFallback x0 s : keep (trialFallback x0 s) = keep s := by
  simp only [trialFallback, ↓keep_mk, keep_eta, keep_ite, ite_self, keep_record]

theorem tight_fuseEffect c o x s : (keep s).Tight (keep (fuseEffect c o x s)) := by
  unfold fuseEffect
  dsimp only
  refine tight_ite (fun _ => ?_) fun _ => tight_ite (fun _ => ?_) fun _ => tight_ite (fun _ => ?_) fun _ =>
    tight_ite (fun _ => ?_) fun _ => tight_ite (fun _ => ?_) fun _ => tight_refl _
  · exact ⟨rfl, rfl, rfl, rfl, rfl, fun h => by have h' : s.sec.debugLock = true := h; simp [keep, h'], id, id, Nat.le_refl _, Nat.le_refl _, id⟩
  · exact ⟨rfl, rfl, rfl, rfl, rfl, id, id, id, Nat.le_max_left _ _, Nat.le_refl _, id⟩
  · exact ⟨rfl, rfl, rfl, rfl, rfl, id, id, id, Nat.le_refl _, Nat.le_max_left _ _, id⟩
  · exact ⟨rfl, rfl, rfl, rfl, rfl, id, fun h => by have h' : s.sec.vsLock = true := h; simp [keep, h'], id, Nat.le_refl _, Nat.le_refl _, id⟩
  · exact ⟨rfl, rfl, rfl, rfl, rfl, id, id, fun _ => rfl, Nat.le_refl _, Nat.le_refl _, id⟩

theorem keep_fuseFirst x0 x1 s : keep (fuseFirst x0 x1 s) = keep s := by
  simp only [fuseFirst, ↓keep_mk, keep_eta, keep_ite, ite_self, keep_record]

theorem tight_opFuseRead ws t s : (keep s).Tight (keep (opFuseRead ws t s)) := by
  unfold opFuseRead
  dsimp only
  refine tight_trans (tight_foldl _ ws s fun s y => ?_) (tight_eq rfl)
  rw [keep_fuseFirst]
  exact tight_fuseEffect _ _ _ _

theorem keep_opLampRoomRestart s : keep (opLampRoomRestart s) = keep s := by
  simp only [opLampRoomRestart]

theorem keep_galTake x0 x1 s : keep (galTake x0 x1 s) = keep s := by
  unfold galTake
  dsimp only
  repeat' split
  all_goals simp only [implies_true, keep_foldl, keep_unitDown, keep_galMod, keep_galPlace, keep_rangeMod, keep_galLoad,
      keep_galWake]

theorem keep_canEnables x0 s : keep (canEnables x0 s) = keep s := by
  simp only [canEnables, ↓keep_mk, keep_eta]

theorem keep_limitsTake x0 s : keep (limitsTake x0 s) = keep s := by
  simp only [limitsTake, ↓keep_mk, keep_eta]

theorem keep_memTake x0 s : keep (memTake x0 s) = keep s := by
  simp only [memTake, ↓keep_mk, keep_eta]

theorem keep_imageTake x0 s : keep (imageTake x0 s) = keep s := by
  simp only [imageTake, ↓keep_mk, keep_eta, implies_true, keep_foldl, keep_memTake, keep_galTake, keep_canEnables,
      keep_canLoad, keep_loopLoad, keep_dioLoad, keep_beamRestarted, keep_rfxLoad, keep_limitsTake]

theorem keep_searchBegin s : keep (searchBegin s) = keep s := by
  simp only [searchBegin, ↓keep_mk, keep_eta, implies_true, keep_modeChange]

theorem keep_roleForImage s : keep (roleForImage s) = keep s := by
  simp only [roleForImage, ↓keep_mk, keep_eta, keep_ite, ite_self, implies_true, keep_searchBegin, keep_modeChange]

theorem keep_tagAsk x0 s : keep (tagAsk x0 s) = keep s := by
  simp only [tagAsk, ↓keep_mk, keep_eta]

theorem keep_programSwap s : keep (programSwap s) = keep s := by
  unfold programSwap
  repeat' split
  all_goals simp only [↓keep_mk, keep_eta, keep_tagAsk, keep_roleForImage, keep_imageTake]

theorem keep_loadRefused x0 x1 x2 s : keep (loadRefused x0 x1 x2 s) = keep s := by
  simp only [loadRefused, ↓keep_mk, keep_eta, keep_longWith]

theorem keep_loadRecord x0 s : keep (loadRecord x0 s) = keep s := by
  unfold loadRecord
  repeat' split
  all_goals simp only [keep_record]

theorem keep_loadStore x0 s : keep (loadStore x0 s) = keep s := by
  unfold loadStore
  repeat' split
  all_goals simp only [↓keep_mk, keep_eta]

theorem keep_effLoad x0 s : keep (effLoad x0 s).2 = keep s := by
  simp only [effLoad, keep_viewFollow, keep_programSwap]

theorem keep_opProgramLoad x0 s : keep (opProgramLoad x0 s) = keep s := by
  unfold opProgramLoad
  repeat' first
    | rfl
    | (simp only [↓keep_mk, keep_eta, keep_ite_snd, ite_self, keep_loadRefused, keep_loadRecord, keep_loadStore,
        keep_twinSend, keep_longStart, keep_viewFollow, keep_programSwap, keep_longWith]; done)
    | refine (keep_command _ _ _ ?_).trans ?_
    | refine (keep_takeTransfer _ _ _ _ _ (by assumption)).trans ?_
    | refine keep_snd (by assumption) ?_
    | simp only [↓keep_mk, keep_eta, keep_ite_snd, ite_self, keep_loadRefused, keep_loadRecord, keep_loadStore,
        keep_twinSend, keep_longStart, keep_viewFollow, keep_programSwap, keep_longWith]
    | split
    | refine (keep_foldl _ _ _ ?_).trans ?_
    | intro _

theorem keep_opProgramInfo s : keep (opProgramInfo s) = keep s := by
  simp only [opProgramInfo, keep_readCmd]

theorem keep_runDeclare x0 x1 x2 s : keep (runDeclare x0 x1 x2 s) = keep s := by
  simp only [runDeclare, ↓keep_mk, keep_eta, keep_ite, ite_self, keep_cutTestStart]

theorem keep_effRun x0 x1 s : keep (effRun x0 x1 s).2 = keep s := by
  simp only [effRun, keep_runDeclare]

theorem keep_runRecord s : keep (runRecord s) = keep s := by
  unfold runRecord
  repeat' split
  all_goals simp only [keep_record]

theorem keep_opRun s : keep (opRun s) = keep s := by
  simp only [opRun, implies_true, keep_twinWide, keep_effRun, keep_runRecord]

theorem keep_coldFab s : keep (coldFab s) = keep s := by
  simp only [coldFab, ↓keep_mk, keep_eta]

theorem keep_coldIo s : keep (coldIo s) = keep s := by
  simp only [coldIo, ↓keep_mk, keep_eta]

theorem keep_coldNet s : keep (coldNet s) = keep s := by
  simp only [coldNet, ↓keep_mk, keep_eta]

theorem keep_coldCounters s : keep (coldCounters s) = keep s := by
  simp only [coldCounters, keep_coldNet, keep_coldIo, keep_coldFab]

theorem keep_sectorStart s x1 : keep (sectorStart s x1) = keep s := by
  simp only [sectorStart, keep_ite, ite_self, keep_cutsClose, keep_setSector]

theorem keep_tasksRestart x0 x1 x2 s : keep (tasksRestart x0 x1 x2 s) = keep s := by
  simp only [tasksRestart, keep_ite, ite_self, implies_true, keep_foldl, keep_sectorStart, keep_taskRestart, keep_taskMod]

theorem keep_runTimers s : keep (runTimers s) = keep s := by
  simp only [runTimers, ↓keep_mk, keep_eta]

theorem keep_runPrep x0 x1 s : keep (runPrep x0 x1 s) = keep s := by
  simp only [runPrep, keep_ite, ite_self, keep_record, keep_forcesDrop, keep_counterInc, keep_coldCounters]

theorem keep_runGo src s : keep (runGo src s) = { keep s with scan := true } := by
  unfold runGo
  dsimp only
  rw [keep_aoUpdate, keep_latchUpdate, keep_runTimers, keep_beamRestarted, keep_pairsRestart, keep_diRestartCounts,
    keep_canRestarted, keep_tasksRestart, setExec_keep]
  rfl

theorem keep_runNote x0 x1 s : keep (runNote x0 x1 s) = keep s := by
  unfold runNote
  repeat' split
  all_goals simp only [keep_recWarm, keep_recCold]

theorem keep_runBegin w p s : keep (runBegin w p s) = { keep s with scan := true } := by
  unfold runBegin
  have e := keep_editFlush s
  generalize editFlush s = s0 at e ⊢
  generalize (if w = true then retainSource s0 else none) = src
  exact (keep_runNote _ _ _).trans ((keep_runGo _ _).trans (by rw [keep_runPrep, e]))

theorem keep_effStop x0 x1 s : keep (effStop x0 x1 s).2 = keep s := by
  simp only [effStop, ↓keep_mk, keep_eta, keep_ite, ite_self, keep_proofAbort, keep_rejoinFail]

theorem keep_opStop s : keep (opStop s) = keep s := by
  simp only [opStop, implies_true, keep_twinWide, keep_effStop]

theorem keep_opStopReached s : keep (opStopReached s) = keep s := by
  unfold opStopReached
  repeat' split
  all_goals simp only [↓keep_mk, keep_eta, keep_ite, ite_self, implies_true, keep_foldl, keep_reach, keep_taskMod,
      keep_cycleAbandon, keep_lampsStop, keep_stopTry]

theorem keep_stopTasks s : keep (stopTasks s) = keep s := by
  simp only [stopTasks, ↓keep_mk, keep_eta, keep_ite, ite_self, implies_true, keep_foldl, keep_taskMod, keep_setSector]

theorem tight_opStopDone s : (keep s).Tight (keep (opStopDone s)) := by
  unfold opStopDone
  refine tight_ite (fun _ => ?_) (fun _ => tight_refl _)
  dsimp only
  simp only [keep_record, ↓keep_mk, keep_eta, keep_stopTasks, keep_editFlush, setExec_keep]
  exact tight_scan_off _

theorem keep_opTaskStatus s : keep (opTaskStatus s) = keep s := by
  simp only [opTaskStatus, keep_readCmd]

theorem keep_effTaskRestart x0 s : keep (effTaskRestart x0 s).2 = keep s := by
  simp only [effTaskRestart, keep_forcesDrop, keep_recCold, keep_taskRestart]

theorem keep_opTaskRestart s : keep (opTaskRestart s) = keep s := by
  simp only [opTaskRestart, implies_true, keep_twinWide, keep_effTaskRestart]

theorem keep_opSectorRestart s : keep (opSectorRestart s) = keep s := by
  simp only [opSectorRestart, implies_true, keep_simple, keep_sectorRestart]

theorem keep_opRangeRetest s : keep (opRangeRetest s) = keep s := by
  simp only [opRangeRetest, keep_ite_snd, ite_self, implies_true, keep_command, keep_rangeMod, keep_lbistStart,
      keep_longStart]

theorem keep_opImageRead s : keep (opImageRead s) = keep s := by
  simp only [opImageRead, keep_readCmd]

theorem keep_opForceAuto x0 s : keep (opForceAuto x0 s) = keep s := by
  unfold opForceAuto
  repeat' split
  all_goals simp only [keep_opScheduled]

theorem keep_opEditStatus s : keep (opEditStatus s) = keep s := by
  simp only [opEditStatus, keep_readCmd]

theorem keep_editLoadMem x0 x1 s : keep (editLoadMem x0 x1 s) = keep s := by
  simp only [editLoadMem, ↓keep_mk, keep_eta, keep_ite, ite_self, implies_true, keep_foldl, keep_codeLoad, keep_pagePut]

theorem keep_hostTake x0 s : keep (hostTake x0 s) = keep s := by
  unfold hostTake
  repeat' split
  all_goals simp only [implies_true, keep_foldl, keep_galMod, keep_codeLoad, keep_galWake]

theorem keep_editAccept x0 x1 x2 x3 s : keep (editAccept x0 x1 x2 x3 s) = keep s := by
  unfold editAccept
  dsimp only
  repeat' split
  all_goals simp only [↓keep_mk, keep_eta, keep_editFlush, keep_record, keep_hostTake, keep_editLoadMem]

theorem keep_editRefuse x0 x1 x2 x3 s : keep (editRefuse x0 x1 x2 x3 s) = keep s := by
  simp only [editRefuse, ↓keep_mk, keep_eta, keep_ite, ite_self, keep_record, keep_longWith]

theorem keep_effEdit x0 x1 s : keep (effEdit x0 x1 s).2 = keep s := by
  unfold effEdit
  repeat' split
  all_goals simp only [keep_editAccept]

theorem keep_deltaRecord x0 x1 s : keep (deltaRecord x0 x1 s) = keep s := by
  unfold deltaRecord
  repeat' split
  all_goals simp only [keep_record]

theorem keep_commandOwn x0 f1 s (h1 : ∀ a0 u, keep (f1 a0 u).2 = keep u) : keep (commandOwn x0 f1 s) = keep s := by
  unfold commandOwn
  repeat' first
    | rfl
    | (simp only [↓keep_mk, keep_eta, keep_ite, keep_finish, h1]; done)
    | refine keep_snd (by assumption) ?_
    | exact h1 _ _
    | exact h1 _
    | exact h1 _ _ (by assumption)
    | simp only [keep_ite, keep_finish]
    | split
    | refine (keep_foldl _ _ _ ?_).trans ?_
    | intro _

theorem keep_galSplits x0 x1 s : keep (galSplits x0 x1 s) = keep s := by
  simp only [galSplits, keep_ite, ite_self, keep_galMod]

theorem keep_galRetake x0 x1 s : keep (galRetake x0 x1 s) = keep s := by
  unfold galRetake
  dsimp only
  repeat' split
  all_goals simp only [keep_galMod, keep_unitDown, keep_galWake, keep_galPlace]

theorem keep_stopEditTake x0 s : keep (stopEditTake x0 s) = keep s := by
  simp only [stopEditTake, ↓keep_mk, keep_eta, keep_ite, ite_self, implies_true, keep_foldl, keep_galRetake, keep_taskMod,
      keep_roleForImage]

theorem keep_shadowStop s : keep (shadowStop s) = keep s := by
  unfold shadowStop
  refine proof_end _ s ?_
  simp only [↓keep_mk, keep_eta, keep_releaseHost]

theorem keep_cutApply x0 x1 s : keep (cutApply x0 x1 s) = keep s := by
  unfold cutApply
  repeat' split
  all_goals simp only [↓keep_mk, keep_eta, keep_ite, ite_self, implies_true, keep_foldl, keep_shadowStop, keep_rfxSwap,
      keep_editFlush, keep_stopEditTake, keep_forcesDrop, keep_galSplits, keep_record, keep_tagAsk, keep_snapAsk,
      keep_counterInc]

theorem keep_opTCut s : keep (opTCut s) = keep s := by
  unfold opTCut
  repeat' split
  all_goals simp only [↓keep_mk, keep_eta, keep_reach, keep_cutApply]

theorem keep_opEditLoad x0 s : keep (opEditLoad x0 s) = keep s := by
  unfold opEditLoad
  repeat' first
    | rfl
    | (simp only [↓keep_mk, keep_eta, keep_ite, keep_ite_snd, ite_self, keep_editRefuse, keep_deltaRecord, keep_twinSend,
        keep_longStart, keep_effEdit, keep_longWith, keep_opTCut]; done)
    | refine (keep_commandOwn _ _ _ ?_).trans ?_
    | refine (keep_takeTransfer _ _ _ _ _ (by assumption)).trans ?_
    | refine keep_snd (by assumption) ?_
    | simp only [↓keep_mk, keep_eta, keep_ite, keep_ite_snd, ite_self, keep_editRefuse, keep_deltaRecord, keep_twinSend,
        keep_longStart, keep_effEdit, keep_longWith, keep_opTCut]
    | split
    | refine (keep_foldl _ _ _ ?_).trans ?_
    | intro _

theorem keep_cutDeclare x0 x1 s : keep (cutDeclare x0 x1 s) = keep s := by
  simp only [cutDeclare, ↓keep_mk, keep_eta]

theorem keep_effCut x0 x1 s : keep (effCut x0 x1 s).2 = keep s := by
  simp only [effCut, keep_cutDeclare]

theorem keep_effAbort x0 s : keep (effAbort x0 s).2 = keep s := by
  simp only [effAbort, keep_proofAbort]

theorem keep_effRollback x0 x1 s : keep (effRollback x0 x1 s).2 = keep s := by
  simp only [effRollback, keep_cutDeclare]

theorem keep_editCommit s : keep (editCommit s) = keep s := by
  simp only [editCommit, ↓keep_mk, keep_eta, keep_record]

theorem keep_effCommit x0 s : keep (effCommit x0 s).2 = keep s := by
  simp only [effCommit, keep_editCommit]

theorem keep_ps_tail (s1 s : State) (e : Edit) (r : Reflex) (pl : List Byte) (h : keep s1 = keep s) :
    keep (aoUpdate (rfxUpdate (latchUpdate (record 0x0503 0 pl { s1 with edit := e, rfx := r })))) = keep s := by
  simp only [keep_aoUpdate, keep_rfxUpdate, keep_latchUpdate, keep_record, ↓keep_mk, keep_eta, h]

theorem keep_opProofStart s : keep (opProofStart s) = keep s := by
  unfold opProofStart
  split
  · split
    · rfl
    · rename_i x d _ _ hx
      have hr : s.mode.exec = .run := Classical.not_not.1 hx
      have e := keep_reach x.ts s
      have er : (reach x.ts s).mode = s.mode := by unfold reach advance; split <;> rfl
      generalize reach x.ts s = s1 at e er ⊢
      refine keep_ps_tail _ s _ _ _ ?_
      refine (setExec_same _ _ _ ?_).trans ?_
      · show scans s1.mode.exec = _
        rw [er, hr]; rfl
      · simpa only [↓keep_mk, keep_eta] using e
  · rfl

theorem keep_opEditExpired s : keep (opEditExpired s) = keep s := by
  unfold opEditExpired
  repeat' split
  all_goals simp only [↓keep_mk, keep_eta, keep_reach, keep_proofRelease, keep_record]

theorem keep_opEditCommitted s : keep (opEditCommitted s) = keep s := by
  unfold opEditCommitted
  repeat' split
  all_goals simp only [keep_editCommit, keep_reach]

theorem keep_twinEff x0 x1 s : keep (twinEff x0 x1 s).2 = keep s := by
  unfold twinEff
  repeat' split
  all_goals simp only [keep_effLoad, keep_effRun, keep_effStop, keep_effTaskRestart, keep_effEdit, keep_effCut,
      keep_effAbort, keep_effRollback, keep_effCommit, keep_effForce, keep_effRelease, keep_effPairClear,
      keep_effCutReset, keep_effSchedule, keep_effCancel, keep_effRotate]

theorem keep_twinAnswer x0 x1 s : keep (twinAnswer x0 x1 s) = keep s := by
  simp only [twinAnswer, keep_ite, ite_self, keep_longDone, keep_finish]

theorem keep_twinDeclare x0 x1 s : keep (twinDeclare x0 x1 s) = keep s := by
  unfold twinDeclare
  repeat' first
    | rfl
    | (simp only [↓keep_mk, keep_eta, keep_ite, keep_twinEff, keep_twinAnswer]; done)
    | refine keep_snd (by assumption) ?_
    | simp only [↓keep_mk, keep_eta, keep_ite, keep_twinAnswer]
    | split
    | refine (keep_foldl _ _ _ ?_).trans ?_
    | intro _

theorem keep_twinTake x0 x1 s : keep (twinTake x0 x1 s) = keep s := by
  unfold twinTake
  repeat' first
    | rfl
    | (simp only [keep_twinAnswer, keep_twinEff]; done)
    | refine keep_snd (by assumption) ?_
    | simp only [keep_twinAnswer]
    | split
    | refine (keep_foldl _ _ _ ?_).trans ?_
    | intro _

theorem keep_partnerAnswer x0 x1 s : keep (partnerAnswer x0 x1 s) = keep s := by
  simp only [partnerAnswer, keep_twinSend]

theorem keep_twinAnswered x0 x1 x2 s : keep (twinAnswered x0 x1 x2 s) = keep s := by
  unfold twinAnswered
  repeat' split
  all_goals simp only [↓keep_mk, keep_eta, keep_twinDeclare, keep_twinSend, keep_twinAnswer]

theorem keep_twinStore x0 s : keep (twinStore x0 s) = keep s := by
  simp only [twinStore, keep_mbxMod]

theorem keep_opMailbox x0 x1 s : keep (opMailbox x0 x1 s) = keep s := by
  unfold opMailbox
  repeat' split
  all_goals simp only [↓keep_mk, keep_eta, keep_ite, ite_self, implies_true, keep_frameIn, keep_twinStore,
      keep_partnerAnswer, keep_loadStore, keep_loadRecord, keep_twinAnswered, keep_twinDeclare]

theorem keep_opTwinTimeout s : keep (opTwinTimeout s) = keep s := by
  unfold opTwinTimeout
  repeat' split
  all_goals simp only [↓keep_mk, keep_eta, keep_reach, keep_twinAnswer]

theorem tight_opDeclared s : (keep s).Tight (keep (opDeclared s)) := by
  unfold opDeclared
  split
  · exact tight_refl _
  · dsimp only
    split
    · rw [keep_twinTake]
      exact tight_eq (keep_reach _ _)
    · refine tight_ite (fun _ => tight_refl _) (fun _ => ?_)
      rename_i d _ _ _ _ _ _
      have e : ∀ l, keep { reach d.ts s with mode := { (reach d.ts s).mode with declared := l } } = keep s := fun l => keep_reach _ _
      refine tight_ite (fun hr => ?_) (fun _ => tight_eq (e _))
      rw [keep_runBegin, e]
      refine tight_scan_on _ ?_
      have hm := hr.1
      simp only [runMode, Bool.and_eq_true, Bool.not_eq_true'] at hm
      have := congrArg Kept.maint (keep_reach d.ts s)
      exact this.symm.trans hm.1.1.2
    · exact tight_refl _

theorem keep_opTwinStatus s : keep (opTwinStatus s) = keep s := by
  simp only [opTwinStatus, keep_readCmd]

theorem keep_opRoleSwap s : keep (opRoleSwap s) = keep s := by
  simp only [opRoleSwap, implies_true, keep_simple, keep_relinquish]

theorem keep_opRejoin s : keep (opRejoin s) = keep s := by
  simp only [opRejoin, ↓keep_mk, keep_eta, implies_true, keep_simple, keep_roleSet]

end Sys2Proof.Machine
end

