-- ==== Sys2Proof/Laws/KeptTwin.lean ====
section
/-!
SUPPORT. What every command leaves of the parts that `keep` shows: the twin, power, start, tag and watch port.
-/
namespace Sys2Proof.Machine

theorem keep_aluR x0 x1 x2 x3 x4 x5 s : keep (aluR x0 x1 x2 x3 x4 x5 s) = keep s := by
  unfold aluR
  refine (keep_lampExec _ _ _ _ ?_).trans rfl
  intro u t h
  simp only [] at h
  repeat' split at h
  all_goals first
    | cases h
    | skip
  all_goals repeat first
    | rfl
    | (simp only [keep_lampWrite]; done)
    | refine (keep_lampExec _ _ _ _ ?_).trans ?_
    | simp only [↓keep_mk, keep_eta, keep_ite, keep_ite_snd, ite_self, implies_true, keep_foldl, keep_lampExec,
        keep_lampWrite]

theorem keep_aluI x0 x1 x2 x3 s : keep (aluI x0 x1 x2 x3 s) = keep s := by
  simp only [aluI, keep_aluR]

theorem keep_aluDiv x0 x1 x2 x3 x4 x5 s : keep (aluDiv x0 x1 x2 x3 x4 x5 s) = keep s := by
  unfold aluDiv
  refine (keep_lampExec _ _ _ _ ?_).trans rfl
  intro u t h
  simp only [] at h
  repeat' split at h
  all_goals first
    | cases h
    | skip
  all_goals repeat first
    | rfl
    | (simp only [keep_lampWrite]; done)
    | refine (keep_lampExec _ _ _ _ ?_).trans ?_
    | simp only [↓keep_mk, keep_eta, keep_ite, keep_ite_snd, ite_self, implies_true, keep_foldl, keep_lampExec,
        keep_lampWrite]

theorem keep_aluField x0 x1 x2 x3 x4 x5 s : keep (aluField x0 x1 x2 x3 x4 x5 s) = keep s := by
  unfold aluField
  refine (keep_lampExec _ _ _ _ ?_).trans rfl
  intro u t h
  simp only [] at h
  repeat' split at h
  all_goals first
    | cases h
    | skip
  all_goals repeat first
    | rfl
    | (simp only [keep_lampWrite]; done)
    | refine (keep_lampExec _ _ _ _ ?_).trans ?_
    | simp only [↓keep_mk, keep_eta, keep_ite, keep_ite_snd, ite_self, implies_true, keep_foldl, keep_lampExec,
        keep_lampWrite]

theorem keep_absentGo x0 s : keep (absentGo x0 s) = keep s := by
  unfold absentGo
  repeat' first
    | rfl
    | (simp only [keep_ite, keep_viewForm]; done)
    | refine keep_snd (by assumption) ?_
    | simp only [keep_ite]
    | split
    | refine (keep_foldl _ _ _ ?_).trans ?_
    | intro _

theorem keep_opTwinLock x0 x1 x2 s : keep (opTwinLock x0 x1 x2 s) = keep s := by
  simp only [opTwinLock, ↓keep_mk, keep_eta, keep_ite, ite_self, keep_record]

theorem keep_lockLost s : keep (lockLost s) = keep s := by
  simp only [lockLost, ↓keep_mk, keep_eta, keep_ite, ite_self, keep_record, keep_proofAbort, keep_rejoinFail,
      keep_roleSet, keep_latchUpdate, keep_absentGo, keep_candLost]

theorem keep_opTwinLockLost s : keep (opTwinLockLost s) = keep s := by
  simp only [opTwinLockLost, ↓keep_mk, keep_eta, keep_ite, ite_self, keep_lockLost]

theorem keep_opBlockLockLost x0 s : keep (opBlockLockLost x0 s) = keep s := by
  simp only [opBlockLockLost, ↓keep_mk, keep_eta, keep_ite, ite_self, keep_lockLost]

theorem keep_opTwinSilence s : keep (opTwinSilence s) = keep s := by
  simp only [opTwinSilence, ↓keep_mk, keep_eta, keep_ite, ite_self, keep_reach, keep_record]

theorem keep_opPartnerInvisible s : keep (opPartnerInvisible s) = keep s := by
  simp only [opPartnerInvisible, ↓keep_mk, keep_eta, keep_ite, ite_self, keep_reach, keep_record, keep_rolePend,
      keep_aoUpdate, keep_outsUpdate]

theorem keep_opRelinquish x0 x1 x2 s : keep (opRelinquish x0 x1 x2 s) = keep s := by
  simp only [opRelinquish, ↓keep_mk, keep_eta, keep_ite, ite_self, implies_true, keep_frameIn, keep_twinQueue]

theorem keep_opRoleAck x0 x1 x2 s : keep (opRoleAck x0 x1 x2 s) = keep s := by
  unfold opRoleAck
  repeat' first
    | rfl
    | (simp only [↓keep_mk, keep_eta, keep_ite, ite_self]; done)
    | refine (keep_frameIn _ _ _ ?_).trans ?_
    | refine keep_snd (by assumption) ?_
    | simp only []
    | split
    | refine (keep_foldl _ _ _ ?_).trans ?_
    | intro _

theorem keep_opSectorFail x0 x1 x2 s : keep (opSectorFail x0 x1 x2 s) = keep s := by
  simp only [opSectorFail, ↓keep_mk, keep_eta, implies_true, keep_frameIn, keep_proofAbort, keep_record, keep_absentGo]

theorem keep_opProofFrame x0 x1 s : keep (opProofFrame x0 x1 s) = keep s := by
  unfold opProofFrame
  repeat' split
  all_goals simp only [↓keep_mk, keep_eta, keep_ite, ite_self, implies_true, keep_frameIn, keep_apartTry,
      keep_apartJudged, keep_proofFail]

theorem keep_partnerTime x0 s : keep (partnerTime x0 s) = keep s := by
  simp only [partnerTime, ↓keep_mk, keep_eta, keep_ite, ite_self, keep_candMod, keep_candLost]

theorem keep_twinOffset x0 s : keep (twinOffset x0 s) = keep s := by
  simp only [twinOffset, ↓keep_mk, keep_eta, keep_ite, ite_self, keep_tsStep, keep_reselect, keep_partnerTime]

theorem keep_partnerSeen x0 s : keep (partnerSeen x0 s) = keep s := by
  simp only [partnerSeen, ↓keep_mk, keep_eta, keep_ite, ite_self, keep_rolePend, keep_rejoinFail]

theorem keep_opStatus x0 x1 s : keep (opStatus x0 x1 s) = keep s := by
  simp only [opStatus, ↓keep_mk, keep_eta, keep_ite, ite_self, implies_true, keep_frameIn, keep_partnerReport,
      keep_aoUpdate, keep_outsUpdate, keep_doublePrincipal, keep_partnerSeen, keep_twinOffset]

theorem keep_opRoleChange s : keep (opRoleChange s) = keep s := by
  unfold opRoleChange
  repeat' split
  all_goals simp only [↓keep_mk, keep_eta, keep_reach, keep_epochBump, keep_roleSet, keep_record]

theorem keep_copyFrame s : ∀ v0 t, (copyFrame s) = some (v0, t) → keep t = keep s := by
  intro v0 t h
  unfold copyFrame at h
  simp only [] at h
  repeat' split at h
  all_goals first
    | cases h
    | skip
  all_goals repeat first
    | rfl
    | (simp only [↓keep_mk, keep_eta, keep_ite, keep_ite_snd, ite_self, implies_true, keep_foldl]; done)
    | refine keep_snd (by assumption) ?_
    | simp only [↓keep_mk, keep_eta, keep_ite, keep_ite_snd, ite_self, implies_true, keep_foldl]

theorem keep_slotFrame s : keep (slotFrame s).2 = keep s := by
  unfold slotFrame
  repeat' first
    | rfl
    | (simp only [keep_ite_snd]; done)
    | refine (keep_copyFrame _ _ _ (by assumption)).trans ?_
    | refine keep_snd (by assumption) ?_
    | simp only [keep_ite_snd]
    | split
    | refine (keep_foldl _ _ _ ?_).trans ?_
    | intro _

theorem keep_slotLoad x0 s : keep (slotLoad x0 s) = keep s := by
  simp only [slotLoad, ↓keep_mk, keep_eta, keep_ite, ite_self]

theorem keep_opFrameSlot s : keep (opFrameSlot s) = keep s := by
  simp only [opFrameSlot, ↓keep_mk, keep_eta, keep_ite, ite_self, keep_reach, keep_slotFrame, keep_emit, keep_slotLoad]

theorem keep_restartCount x0 s : keep (restartCount x0 s) = keep s := by
  simp only [restartCount, ↓keep_mk, keep_eta, keep_record]

theorem keep_rejoinBegin x s : keep (rejoinBegin x s) = { keep s with scan := true } := by
  unfold rejoinBegin
  dsimp only
  repeat' split
  all_goals simp only [keep_twinQueue, ↓keep_mk, keep_eta, keep_rejoinFail, keep_programSwap, keep_loadStore,
      keep_loadRecord,
    setExec_keep, keep_record] <;> rfl

theorem tight_opRejoinStart x s : (keep s).Tight (keep (opRejoinStart x s)) := by
  unfold opRejoinStart
  by_cases c : rejoinMay s = true
  · have hm : (keep s).maint = false := by
      simp only [rejoinMay, Bool.and_eq_true, Bool.not_eq_true'] at c
      exact c.1.1.1.1.1
    simp only [c, Bool.not_true, Bool.false_eq_true, if_false]
    refine tight_ite (fun _ => tight_ite (fun _ => ?_) (fun _ => tight_refl _)) (fun _ => tight_ite (fun _ => ?_) (fun _ => tight_refl _))
    · rw [keep_rejoinBegin]; exact tight_scan_on _ hm
    · split
      · rw [keep_rejoinBegin, keep_roleSet, keep_foldl _ _ _ fun s k => keep_restartCount _ _]
        exact tight_scan_on _ hm
      · exact tight_eq (keep_foldl _ _ _ fun s k => keep_record _ _ _ _)
  · rw [Bool.not_eq_true] at c
    simp only [c, Bool.not_false, if_true]
    exact tight_refl _

theorem keep_opIsolatedReady s : keep (opIsolatedReady s) = keep s := by
  simp only [opIsolatedReady, keep_ite, ite_self, keep_reach, keep_roleSet]

theorem keep_copyBegin s : keep (copyBegin s) = keep s := by
  simp only [copyBegin, ↓keep_mk, keep_eta, keep_ite, ite_self, keep_twinQueue, keep_proofAbort]

theorem keep_opRejoinCtrl x0 x1 s : keep (opRejoinCtrl x0 x1 s) = keep s := by
  unfold opRejoinCtrl
  repeat' split
  all_goals simp only [↓keep_mk, keep_eta, keep_ite, ite_self, implies_true, keep_frameIn, keep_copyBegin, keep_rejoinFail]

theorem keep_taskArrive x0 x1 s : keep (taskArrive x0 x1 s) = keep s := by
  simp only [taskArrive, ↓keep_mk, keep_eta, keep_ite, ite_self, keep_taskMod, keep_agreeTry]

theorem keep_stateArrive x0 s : keep (stateArrive x0 s) = keep s := by
  unfold stateArrive
  repeat' split
  all_goals simp only [↓keep_mk, keep_eta, keep_pagePut, keep_slotMod, keep_taskArrive, keep_forcesPut, keep_btxMod,
      keep_counterPut]

theorem keep_opRejoinData x0 x1 s : keep (opRejoinData x0 x1 s) = keep s := by
  simp only [opRejoinData, ↓keep_mk, keep_eta, keep_ite, ite_self, implies_true, keep_foldl, keep_frameIn, keep_stateArrive]

theorem keep_opPassEnd x0 s : keep (opPassEnd x0 s) = keep s := by
  unfold opPassEnd
  repeat' split
  all_goals simp only [↓keep_mk, keep_eta, keep_ite, ite_self, keep_twinQueue]

theorem keep_opTJoin s : keep (opTJoin s) = keep s := by
  unfold opTJoin
  repeat' split
  all_goals simp only [↓keep_mk, keep_eta, keep_ite, ite_self, implies_true, keep_foldl, keep_reach, keep_setSector,
      keep_taskMod, keep_aoUpdate, keep_latchUpdate, keep_pairsRestart, keep_cutsClose]

theorem keep_opRejoinFailed s : keep (opRejoinFailed s) = keep s := by
  simp only [opRejoinFailed, keep_ite, ite_self, keep_rejoinFail, keep_reach]

theorem keep_opRejoinRetry s : keep (opRejoinRetry s) = keep s := by
  unfold opRejoinRetry
  repeat' split
  all_goals simp only [↓keep_mk, keep_eta, keep_reach]

theorem keep_opTAssist s : keep (opTAssist s) = keep s := by
  unfold opTAssist
  repeat' split
  all_goals simp only [keep_reach]

theorem keep_resetState s : keep (resetState s) = { keep s with scan := false, maint := false } := rfl

theorem tight_resetState s : (keep s).Tight (keep (resetState s)) := by
  rw [keep_resetState]
  exact tight_trans (tight_scan_off _) (tight_maint_off _)

theorem tight_moduleReset c s : (keep s).Tight (keep (moduleReset c s)) := by
  unfold moduleReset
  dsimp only
  have e : (keep s).Tight (keep (trialFallback c (serviceEnd 2 { s with rcd := { s.rcd with ready := false } }))) := by
    rw [keep_trialFallback]
    exact tight_serviceEnd 2 { s with rcd := { s.rcd with ready := false } }
  generalize trialFallback c _ = s1 at e ⊢
  exact tight_trans e (tight_trans (tight_resetState s1) (tight_eq rfl))

theorem tight_opModuleReset c s : (keep s).Tight (keep (opModuleReset c s)) :=
  tight_ite (fun _ => tight_refl _) (fun _ => tight_moduleReset _ _)

theorem tight_opSafeResetDelay s : (keep s).Tight (keep (opSafeResetDelay s)) := by
  unfold opSafeResetDelay
  split
  · exact tight_refl _
  · rename_i t _
    refine tight_trans (tight_eq (keep_reach t s)) ?_
    dsimp only
    generalize reach t s = s1
    exact tight_moduleReset 5 { s1 with mode := { s1.mode with safeLatched := false } }

theorem keep_backupLost s : keep (backupLost s) = keep s := by
  simp only [backupLost, ↓keep_mk, keep_eta]

theorem keep_backupLost' (s : State) : keep (backupLost s) = keep s := keep_backupLost s

theorem tight_opPowerUp off l b x y s : (keep s).Tight (keep (opPowerUp off l b x y s)) := by
  unfold opPowerUp
  dsimp only
  have e : keep (if (l || s.rtc.stopped) = true then backupLost (advance off { s with rcd := stagedLost s.rcd })
      else advance off { s with rcd := stagedLost s.rcd }) = keep s := by
    rw [keep_ite, keep_backupLost, keep_advance, ite_self]; rfl
  generalize (if (l || s.rtc.stopped) = true then backupLost (advance off { s with rcd := stagedLost s.rcd })
      else advance off { s with rcd := stagedLost s.rcd }) = s1 at e ⊢
  refine e ▸ tight_trans (tight_serviceEnd 2 s1) ?_
  generalize serviceEnd 2 s1 = s2
  exact tight_resetState s2

theorem keep_opPllLock s : keep (opPllLock s) = keep s := by
  simp only [opPllLock, ↓keep_mk, keep_eta, keep_ite, ite_self]

theorem keep_opPllTimeout s : keep (opPllTimeout s) = keep s := by
  simp only [opPllTimeout, ↓keep_mk, keep_eta, keep_ite, ite_self, keep_reach]

theorem keep_superHold s : keep (superHold s) = keep s := by
  simp only [superHold, ↓keep_mk, keep_eta]

theorem tight_opClockFault c s : (keep s).Tight (keep (opClockFault c s)) := by
  unfold opClockFault
  refine tight_ite (fun _ => tight_refl _) (fun _ => ?_)
  dsimp only
  refine tight_ite (fun _ => ?_) (fun _ => ?_)
  · rw [keep_superHold]
    refine tight_trans (tight_eq ?_) (tight_enterSafe _ _ _ _)
    simp only [keep_ite, ↓keep_mk, keep_eta, ite_self]
  · refine tight_trans (tight_eq ?_) (tight_enterSafe _ _ _ _)
    simp only [keep_ite, ↓keep_mk, keep_eta, ite_self]

theorem tight_opKeeperCore s : (keep s).Tight (keep (opKeeperCore s)) := by
  unfold opKeeperCore
  refine tight_ite (fun _ => tight_refl _) (fun _ => ?_)
  rw [keep_superHold]
  exact tight_enterSafe _ _ _ _

theorem keep_wdgExpire s : keep (wdgExpire s) = keep s := by
  simp only [wdgExpire, ↓keep_mk, keep_eta, keep_ite, ite_self, keep_flushStaged, keep_record]

theorem keep_opRcFault x0 x1 s : keep (opRcFault x0 x1 s) = keep s := by
  simp only [opRcFault, ↓keep_mk, keep_eta, keep_ite, ite_self, keep_record, keep_wdgExpire]

theorem keep_opXtalStopped s : keep (opXtalStopped s) = keep s := by
  simp only [opXtalStopped, ↓keep_mk, keep_eta]

theorem keep_opWdgExpired s : keep (opWdgExpired s) = keep s := by
  simp only [opWdgExpired, keep_ite, ite_self, keep_wdgExpire, keep_reach]

theorem keep_opWdgKick x0 s : keep (opWdgKick x0 s) = keep s := by
  simp only [opWdgKick, ↓keep_mk, keep_eta, keep_ite, ite_self, keep_wdgExpire]

theorem tight_opWdgHard s : (keep s).Tight (keep (opWdgHard s)) := by
  unfold opWdgHard
  split
  · exact tight_refl _
  · exact tight_trans (tight_eq (keep_reach _ s)) (tight_moduleReset _ _)

theorem keep_opWdgClock s : keep (opWdgClock s) = keep s := by
  simp only [opWdgClock, ↓keep_mk, keep_eta, keep_ite, ite_self, keep_wdgExpire]

theorem keep_opFreqGate x0 x1 s : keep (opFreqGate x0 x1 s) = keep s := by
  unfold opFreqGate
  repeat' split
  all_goals simp only [↓keep_mk, keep_eta, keep_reach]

theorem keep_feedMod x0 x1 s : keep (feedMod x0 x1 s) = keep s := by
  simp only [feedMod, ↓keep_mk, keep_eta]

theorem keep_rideStart s : keep (rideStart s) = keep s := by
  simp only [rideStart, ↓keep_mk, keep_eta, keep_ite, ite_self, implies_true, keep_modeChange, keep_record,
      keep_relinquish, keep_proofAbort, keep_counterInc]

theorem keep_feedGone x0 s : keep (feedGone x0 s) = keep s := by
  simp only [feedGone, ↓keep_mk, keep_eta, keep_ite, ite_self, keep_record, keep_rideStart]

theorem keep_opFeedGone x0 x1 s : keep (opFeedGone x0 x1 s) = keep s := by
  simp only [opFeedGone, keep_ite, ite_self, keep_feedGone, keep_feedMod]

theorem keep_rideEnd s : keep (rideEnd s) = keep s := by
  unfold rideEnd
  repeat' split
  all_goals simp only [↓keep_mk, keep_eta, implies_true, keep_modeChange, keep_record]

theorem tight_opFeedBack b mv s : (keep s).Tight (keep (opFeedBack b mv s)) := by
  unfold opFeedBack
  refine tight_ite (fun _ => tight_refl _) (fun _ => ?_)
  dsimp only
  generalize items _ = pl
  have e := (keep_record 0x0F02 0x02D0 pl (feedMod b (fun f => { f with mv := mv, ok := true, disc := false }) s)).trans
    (keep_feedMod b (fun f => { f with mv := mv, ok := true, disc := false }) s)
  generalize record 0x0F02 0x02D0 pl _ = s1 at e ⊢
  refine tight_ite (fun _ => ?_) (fun _ => tight_eq ((keep_rideEnd _).trans e))
  exact tight_trans (tight_eq e) (tight_moduleReset 2 { s1 with pwr := { s1.pwr with off := false } })

theorem keep_opOvervolt x0 x1 s : keep (opOvervolt x0 x1 s) = keep s := by
  simp only [opOvervolt, ↓keep_mk, keep_eta, keep_feedMod, keep_record]

theorem keep_opOvervoltDisc x0 x1 s : keep (opOvervoltDisc x0 x1 s) = keep s := by
  simp only [opOvervoltDisc, ↓keep_mk, keep_eta, keep_ite, ite_self, keep_feedMod, keep_record, keep_feedGone]

theorem keep_opHoldup x0 s : keep (opHoldup x0 s) = keep s := by
  simp only [opHoldup, ↓keep_mk, keep_eta]

theorem keep_opSavingStart s : keep (opSavingStart s) = keep s := by
  unfold opSavingStart
  repeat' split
  all_goals simp only [↓keep_mk, keep_eta, implies_true, keep_foldl, keep_reach, keep_modeChange, keep_record,
      keep_cycleAbandon, keep_savingTry]

theorem keep_ringFlush s : keep (ringFlush s) = keep s := by
  simp only [ringFlush, ↓keep_mk, keep_eta, keep_ite, ite_self, implies_true, keep_foldl, keep_ringAdd]

theorem tight_opPowerDownDone s : (keep s).Tight (keep (opPowerDownDone s)) := by
  unfold opPowerDownDone
  dsimp only
  have e := keep_savingTry s
  generalize savingTry s = s1 at e ⊢
  refine e ▸ tight_ite (fun _ => ?_) (fun _ => tight_refl _)
  generalize items _ = pl
  have e2 := (keep_ringFlush (record 0x0F07 0x02D0 pl s1)).trans (keep_record 0x0F07 0x02D0 pl s1)
  generalize ringFlush _ = s2 at e2 ⊢
  rw [← e2]
  refine tight_ite (fun _ => tight_moduleReset 2 { s2 with pwr := { s2.pwr with rideTs := none } }) (fun _ => ?_)
  exact tight_resetState s2

theorem keep_opClockSelect s : keep (opClockSelect s) = keep s := by
  simp only [opClockSelect, ↓keep_mk, keep_eta, keep_ite, ite_self, implies_true, keep_simple, keep_record]

theorem keep_opClockMeasure s : keep (opClockMeasure s) = keep s := by
  simp only [opClockMeasure, ↓keep_mk, keep_eta, keep_ite_snd, ite_self, implies_true, keep_simple]

theorem keep_opWatchdogSet s : keep (opWatchdogSet s) = keep s := by
  simp only [opWatchdogSet, ↓keep_mk, keep_eta, implies_true, keep_simple, keep_nvmJournal, keep_record]

theorem keep_recoverKeep x0 s : keep (recoverKeep x0 s) = keep s := by
  unfold recoverKeep
  repeat' split
  all_goals simp only [keep_appendDone, keep_retainDone, keep_areaMod]

theorem keep_recoverDrop x0 s : keep (recoverDrop x0 s) = keep s := by
  unfold recoverDrop
  repeat' split
  all_goals simp only [↓keep_mk, keep_eta, keep_areaMod]

theorem keep_opNvmRecovered x0 x1 s : keep (opNvmRecovered x0 x1 s) = keep s := by
  simp only [opNvmRecovered, ↓keep_mk, keep_eta, keep_ite, ite_self, implies_true, keep_foldl, keep_recoverKeep,
      keep_recoverDrop, keep_flushStaged]

theorem keep_recorderStart x0 s : keep (recorderStart x0 s) = keep s := by
  simp only [recorderStart, ↓keep_mk, keep_eta, keep_ite, ite_self, implies_true, keep_foldl, keep_recorderFail, keep_stage]

theorem keep_lastLightCopy s : keep (lastLightCopy s) = keep s := by
  simp only [lastLightCopy, keep_ite, ite_self, keep_record, keep_stage]

theorem keep_rtcStart s : keep (rtcStart s) = keep s := by
  unfold rtcStart
  repeat' first
    | rfl
    | (simp only [↓keep_mk, keep_eta, keep_ite, ite_self, keep_almMod, keep_record]; done)
    | refine keep_snd (by assumption) ?_
    | simp only [↓keep_mk, keep_eta, keep_ite, ite_self, keep_record]
    | split
    | refine (keep_foldl _ _ _ ?_).trans ?_
    | intro _

theorem keep_startRecords x0 s : keep (startRecords x0 s) = keep s := by
  simp only [startRecords, ↓keep_mk, keep_eta, keep_ite, ite_self, implies_true, keep_foldl, keep_record,
      keep_lastLightCopy, keep_rtcStart]

theorem keep_startRun s : keep (startRun s) = keep s := by
  simp only [startRun, ↓keep_mk, keep_eta, keep_ite, ite_self, keep_runDeclare]

theorem keep_startCounters s : keep (startCounters s) = keep s := by
  simp only [startCounters, ↓keep_mk, keep_eta, keep_ite, ite_self, keep_counterPut]

theorem keep_tagStart x0 s : keep (tagStart x0 s) = keep s := by
  unfold tagStart
  repeat' split
  all_goals simp only [↓keep_mk, keep_eta, keep_record]

theorem keep_imageStart s : keep (imageStart s) = keep s := by
  unfold imageStart
  repeat' split
  all_goals simp only [keep_ite, ite_self, keep_imageTake, keep_record]

theorem keep_enStart s : keep (enStart s) = keep s := by
  simp only [enStart, ↓keep_mk, keep_eta]

theorem keep_bootWindow s : keep (bootWindow s) = keep s := by
  simp only [bootWindow, ↓keep_mk, keep_eta]

theorem keep_repeatCheck s : keep (repeatCheck s) = keep s := by
  simp only [repeatCheck, ↓keep_mk, keep_eta, keep_ite, ite_self, keep_record]

theorem tight_keeperStart r k t s : (keep s).Tight (keep (keeperStart r k t s)) := by
  unfold keeperStart
  dsimp only
  have e1 : ∀ u, keep { u with kp := { u.kp with ready := true, epoch := (u.kp.epoch + 1) % 2 ^ 32 }, fw := { u.fw with runSince := now u } } = keep u := fun _ => rfl
  have e := (keep_tagStart t (repeatCheck (imageStart (epochBumps 2 (startCounters
    { enStart (bootWindow (settingsApply (startRecords r (recorderStart k s)))) with
      kp := { (enStart (bootWindow (settingsApply (startRecords r (recorderStart k s))))).kp with
        ready := true, epoch := ((enStart (bootWindow (settingsApply (startRecords r (recorderStart k s))))).kp.epoch + 1) % 2 ^ 32 }
      fw := { (enStart (bootWindow (settingsApply (startRecords r (recorderStart k s))))).fw with
        runSince := now (enStart (bootWindow (settingsApply (startRecords r (recorderStart k s))))) } }))))).trans
    (by rw [keep_repeatCheck, keep_imageStart, keep_epochBumps, keep_startCounters, e1, keep_enStart, keep_bootWindow,
        keep_settingsApply, keep_startRecords, keep_recorderStart])
  generalize tagStart t _ = s1 at e ⊢
  have f : (keep s1).Tight (keep (if s1.mode.safeLatched = true then setExec 11 .safe s1 else s1)) :=
    tight_ite (fun _ => setExec_keep 11 .safe s1 ▸ tight_scan_off _) (fun _ => tight_refl _)
  generalize (if s1.mode.safeLatched = true then setExec 11 .safe s1 else s1) = s2 at f ⊢
  refine e ▸ tight_trans f (tight_eq ?_)
  split
  · exact keep_searchBegin _
  · exact keep_startRun _

theorem tight_opBootVerified a b k t s : (keep s).Tight (keep (opBootVerified a b k t s)) := by
  unfold opBootVerified
  refine tight_ite (fun _ => tight_refl _) (fun _ => ?_)
  dsimp only
  split
  · exact tight_keeperStart _ _ _ _
  · refine tight_trans (tight_eq ?_) (tight_keeperStart _ _ _ _)
    rfl
  · exact tight_eq rfl

theorem keep_opSearchEnd s : keep (opSearchEnd s) = keep s := by
  unfold opSearchEnd
  dsimp only
  repeat' split
  all_goals simp only [↓keep_mk, keep_eta, keep_reach, keep_roleSet, keep_startRun]

theorem keep_tagMod x0 x1 s : keep (tagMod x0 x1 s) = keep s := by
  simp only [tagMod, ↓keep_mk, keep_eta]

theorem keep_tagCopy x0 x1 x2 x3 x4 x5 s : keep (tagCopy x0 x1 x2 x3 x4 x5 s) = keep s := by
  simp only [tagCopy, keep_tagMod]

theorem keep_tagBegin x0 s : keep (tagBegin x0 s) = keep s := by
  simp only [tagBegin, ↓keep_mk, keep_eta, keep_tagMod, keep_tagCopy]

theorem keep_tagDefer x0 x1 s : keep (tagDefer x0 x1 s) = keep s := by
  simp only [tagDefer, ↓keep_mk, keep_eta, keep_ite, ite_self, keep_tagMod]

theorem keep_opTagWrite x0 s : keep (opTagWrite x0 s) = keep s := by
  simp only [opTagWrite, keep_ite, ite_self, keep_tagDefer, keep_tagMod, keep_tagBegin]

theorem keep_tagNext s : keep (tagNext s) = keep s := by
  unfold tagNext
  repeat' split
  all_goals simp only [keep_tagBegin]

theorem keep_opTagComplete x0 s : keep (opTagComplete x0 s) = keep s := by
  unfold opTagComplete
  dsimp only
  repeat' split
  all_goals simp only [↓keep_mk, keep_eta, keep_reach, keep_tagCopy, keep_emit, keep_record, keep_tagNext, keep_tagMod,
      keep_tagBegin]

theorem keep_opTagRf s : keep (opTagRf s) = keep s := by
  unfold opTagRf
  dsimp only
  repeat' split
  all_goals simp only [↓keep_mk, keep_eta, keep_ite, ite_self, implies_true, keep_foldl, keep_reach, keep_tagDefer]

theorem keep_opTagRfGone s : keep (opTagRfGone s) = keep s := by
  simp only [opTagRfGone, ↓keep_mk, keep_eta]

theorem keep_opTagRetry x0 s : keep (opTagRetry x0 s) = keep s := by
  unfold opTagRetry
  dsimp only
  repeat' split
  all_goals simp only [keep_reach, keep_tagMod, keep_tagBegin]

theorem keep_watchSet x0 x1 s : keep (watchSet x0 x1 s) = keep s := by
  simp only [watchSet, ↓keep_mk, keep_eta, keep_ite, ite_self, keep_watchClose, keep_record]

theorem keep_opTraceSet s : keep (opTraceSet s) = keep s := by
  unfold opTraceSet
  repeat' first
    | rfl
    | (simp only [keep_watchSet]; done)
    | refine (keep_simple _ _ _ _ ?_).trans ?_
    | refine keep_snd (by assumption) ?_
    | simp only []
    | split
    | refine (keep_foldl _ _ _ ?_).trans ?_
    | intro _

theorem keep_opCounterSelect s : keep (opCounterSelect s) = keep s := by
  simp only [opCounterSelect, ↓keep_mk, keep_eta, implies_true, keep_simple, keep_record]

theorem keep_opSnapshot s : keep (opSnapshot s) = keep s := by
  unfold opSnapshot
  repeat' first
    | rfl
    | (simp only []; done)
    | refine (keep_command _ _ _ ?_).trans ?_
    | refine keep_snd (by assumption) ?_
    | simp only []
    | split
    | refine (keep_foldl _ _ _ ?_).trans ?_
    | intro _

theorem keep_opObsStall x0 s : keep (opObsStall x0 s) = keep s := by
  unfold opObsStall
  repeat' split
  all_goals simp only [↓keep_mk, keep_eta, keep_ite, ite_self, keep_lampMod, keep_rangeMod, keep_ctrAdd, keep_record]

theorem keep_opLossEntry s : keep (opLossEntry s) = keep s := by
  simp only [opLossEntry, ↓keep_mk, keep_eta, keep_ite, ite_self]

theorem keep_traceOut x0 s : keep (traceOut x0 s) = keep s := by
  simp only [traceOut, ↓keep_mk, keep_eta, keep_emit, keep_ctrAdd]

theorem keep_traceDrain s : keep (traceDrain s) = keep s := by
  unfold traceDrain
  repeat' split
  all_goals simp only [↓keep_mk, keep_eta, keep_traceOut]

theorem keep_idleTick s : keep (idleTick s) = keep s := by
  simp only [idleTick, keep_traceDrain, keep_advance]

theorem keep_State_withFetchWord s x1 x2 : keep (State.withFetchWord s x1 x2) = keep s := by
  unfold State.withFetchWord
  repeat' first
    | rfl
    | (simp only [↓keep_mk, keep_eta, keep_ite, keep_ite_snd, ite_self, implies_true, keep_foldl]; done)
    | refine keep_snd (by assumption) ?_
    | simp only [↓keep_mk, keep_eta, keep_ite, keep_ite_snd, ite_self, implies_true, keep_foldl]
    | split
    | refine (keep_foldl _ _ _ ?_).trans ?_
    | intro _

end Sys2Proof.Machine
end

