-- ==== Sys2Proof/Laws/Tab.lean ====
section
/-!
SUPPORT. Laws of the sparse tables: a read after a write, other keys, and the canonical form.
-/
namespace Sys2Proof.Machine

variable {α : Type}

@[simp] theorem tabGet_nil (d : α) (k : Nat) : tabGet d [] k = d := rfl

theorem tabGet_tabDel_self (d : α) (t : Tab α) (k : Nat) : tabGet d (tabDel t k) k = d := by
  induction t with
  | nil => rfl
  | cons x t ih =>
    obtain ⟨j, v⟩ := x
    simp only [tabDel]
    split
    · exact ih
    · rename_i h; simp [tabGet, h, ih]

theorem tabGet_tabDel_ne (d : α) (t : Tab α) {k i : Nat} (h : i ≠ k) : tabGet d (tabDel t k) i = tabGet d t i := by
  induction t with
  | nil => rfl
  | cons x t ih =>
    obtain ⟨j, v⟩ := x
    simp only [tabDel]
    split
    · rename_i e; subst e; rw [ih]; simp [tabGet, h.symm]
    · simp only [tabGet, ih]

variable [DecidableEq α]

/-- A read after a write to the same key gives the value written. -/
@[simp] theorem tabGet_tabPut_self (d : α) (t : Tab α) (k : Nat) (v : α) : tabGet d (tabPut d t k v) k = v := by
  induction t with
  | nil => simp only [tabPut]; split <;> simp_all [tabGet]
  | cons x t ih =>
    obtain ⟨j, w⟩ := x
    simp only [tabPut]
    repeat' split
    all_goals simp_all [tabGet, tabGet_tabDel_self]

/-- A write leaves every other key alone. -/
theorem tabGet_tabPut_ne (d : α) (t : Tab α) {k i : Nat} (v : α) (h : i ≠ k) :
    tabGet d (tabPut d t k v) i = tabGet d t i := by
  have h' : ¬ k = i := fun e => h e.symm
  induction t with
  | nil => simp only [tabPut]; split <;> simp_all [tabGet]
  | cons x t ih =>
    obtain ⟨j, w⟩ := x
    simp only [tabPut]
    repeat' split
    all_goals simp_all [tabGet, tabGet_tabDel_ne]

/-- Both cases of a read after a write. -/
theorem tabGet_tabPut (d : α) (t : Tab α) (k i : Nat) (v : α) :
    tabGet d (tabPut d t k v) i = if i = k then v else tabGet d t i := by
  split
  · rename_i h; subst h; simp
  · rename_i h; exact tabGet_tabPut_ne d t v h

@[simp] theorem tabGet_tabMod_self (d : α) (t : Tab α) (k : Nat) (f : α → α) :
    tabGet d (tabMod d t k f) k = f (tabGet d t k) := tabGet_tabPut_self ..

theorem tabGet_tabMod_ne (d : α) (t : Tab α) {k i : Nat} (f : α → α) (h : i ≠ k) :
    tabGet d (tabMod d t k f) i = tabGet d t i := tabGet_tabPut_ne d t _ h

theorem tabWfFrom_mono (d : α) {lo hi : Nat} (t : Tab α) (h : lo ≤ hi) (w : tabWfFrom d hi t = true) :
    tabWfFrom d lo t = true := by
  cases t with
  | nil => rfl
  | cons x t =>
    simp only [tabWfFrom, Bool.and_eq_true, decide_eq_true_eq] at *
    exact ⟨⟨by omega, w.1.2⟩, w.2⟩

theorem tabDel_of_wf (d : α) {lo k : Nat} (t : Tab α) (w : tabWfFrom d lo t = true) (h : k < lo) : tabDel t k = t := by
  induction t generalizing lo with
  | nil => rfl
  | cons x t ih =>
    obtain ⟨j, v⟩ := x
    simp [tabWfFrom] at w
    have : ¬ j = k := by omega
    simp [tabDel, this, ih w.2 (by omega)]

theorem tabPut_wfFrom (d : α) {lo k : Nat} (t : Tab α) (v : α) (w : tabWfFrom d lo t = true) (h : lo ≤ k) :
    tabWfFrom d lo (tabPut d t k v) = true := by
  induction t generalizing lo with
  | nil => simp only [tabPut]; split <;> simp_all [tabWfFrom]
  | cons x t ih =>
    obtain ⟨j, u⟩ := x
    have w' := w
    simp [tabWfFrom] at w
    simp only [tabPut]
    split
    · rename_i e
      subst e
      rw [tabDel_of_wf d t w.2 (by omega)]
      split
      · exact tabWfFrom_mono d t (by omega) w.2
      · simp_all [tabWfFrom]
    · split
      · rename_i e1 e2
        rw [tabDel_of_wf d t w.2 (by omega)]
        split
        · exact w'
        · simp_all [tabWfFrom] <;> omega
      · simp only [tabWfFrom, Bool.and_eq_true, decide_eq_true_eq]
        exact ⟨w.1, ih w.2 (by omega)⟩

/-- A write keeps the canonical form. -/
theorem tabPut_wf (d : α) (t : Tab α) (k : Nat) (v : α) (w : tabWf d t = true) : tabWf d (tabPut d t k v) = true :=
  tabPut_wfFrom d t v w (Nat.zero_le k)

/-- A change of one entry keeps the canonical form. -/
theorem tabMod_wf (d : α) (t : Tab α) (k : Nat) (f : α → α) (w : tabWf d t = true) : tabWf d (tabMod d t k f) = true :=
  tabPut_wf d t k _ w

/-! ### Byte memories -/

/-- Bytes written at rising addresses: those addresses read the bytes, every other address as before. -/
theorem byteAt_bytesPut (m : Tab Byte) (a i : Nat) (bs : List Byte) :
    byteAt (bytesPut m a bs) i = if a ≤ i ∧ i < a + bs.length then bs.getD (i - a) 0 else byteAt m i := by
  induction bs generalizing m a with
  | nil => simp [bytesPut] <;> omega
  | cons b bs ih =>
    rw [bytesPut, ih]
    simp only [byteAt, bytePut, tabGet_tabPut, List.length_cons]
    by_cases h : i = a
    · subst h; rw [if_neg (by omega)]; simp
    · by_cases h2 : a + 1 ≤ i ∧ i < a + 1 + bs.length
      · have : i - a = (i - (a + 1)) + 1 := by omega
        rw [if_pos h2, if_pos (by omega), this]; simp
      · rw [if_neg h2, if_neg h, if_neg (by omega)]

theorem bytesPut_wf (m : Tab Byte) (a : Nat) (bs : List Byte) (w : tabWf 0 m = true) : tabWf 0 (bytesPut m a bs) = true := by
  induction bs generalizing m a with
  | nil => exact w
  | cons b bs ih => exact ih _ _ (tabPut_wf 0 m a b w)

/-- Every memory operation keeps the canonical form. -/
theorem memory_wf_bytePut (m : Tab Byte) (a : Nat) (v : Byte) (w : Memory.wf m = true) : Memory.wf (bytePut m a v) = true :=
  tabPut_wf 0 m a v w
theorem memory_wf_bytesPut (m : Tab Byte) (a : Nat) (bs : List Byte) (w : Memory.wf m = true) :
    Memory.wf (bytesPut m a bs) = true := bytesPut_wf m a bs w
theorem memory_wf_wordPut (m : Tab Byte) (a : Nat) (v : Word) (w : Memory.wf m = true) : Memory.wf (wordPut m a v) = true :=
  bytesPut_wf m a _ w
theorem memory_wf_halfPut (m : Tab Byte) (a : Nat) (v : Half) (w : Memory.wf m = true) : Memory.wf (halfPut m a v) = true :=
  bytesPut_wf m a _ w

/-- A word written reads back, and every byte outside it reads as before. -/
theorem wordAt_wordPut (m : Tab Byte) (a : Nat) (w : Word) : wordAt (wordPut m a w) a = w := by
  simp only [wordAt, wordPut, byteAt_bytesPut, wordBytes, List.length_cons, List.length_nil]
  simp
  apply BitVec.eq_of_getLsbD_eq
  intro i h
  change BitVec.getLsbD (w := 8 + 8 + 8 + 8) (BitVec.extractLsb' 24 8 w ++ BitVec.extractLsb' 16 8 w ++
    BitVec.extractLsb' 8 8 w ++ BitVec.extractLsb' 0 8 w) i = _
  rw [BitVec.getLsbD_append, BitVec.getLsbD_append, BitVec.getLsbD_append]
  by_cases h1 : i < 8
  · simp [h1]
  · by_cases h2 : i < 16
    · have : i - 8 < 8 := by omega
      simp [h1, this]; congr 1; omega
    · by_cases h3 : i < 24
      · have a : ¬ i - 8 < 8 := by omega
        have b : i - 8 - 8 < 8 := by omega
        simp [h1, a, b]; congr 1; omega
      · have a : ¬ i - 8 < 8 := by omega
        have b : ¬ i - 8 - 8 < 8 := by omega
        have c : i - 8 - 8 - 8 < 8 := by omega
        simp [h1, a, b, c]; congr 1; omega

theorem byteAt_wordPut_ne (m : Tab Byte) {a i : Nat} (w : Word) (h : i < a ∨ a + 4 ≤ i) :
    byteAt (wordPut m a w) i = byteAt m i := by
  rw [wordPut, byteAt_bytesPut, if_neg]; simp [wordBytes]; omega

end Sys2Proof.Machine
end

