-- ==== Sys2Proof/Laws/State.lean ====
section
/-!
SUPPORT. What each named update leaves alone: one lemma per block of the state per update.
-/
namespace Sys2Proof.Machine

/-! advance -/

@[simp] theorem advance_id (dt : Nat) (s : State) : (advance dt s).id = s.id := rfl
@[simp] theorem advance_mode (dt : Nat) (s : State) : (advance dt s).mode = s.mode := rfl
@[simp] theorem advance_img (dt : Nat) (s : State) : (advance dt s).img = s.img := rfl
@[simp] theorem advance_imgAlt (dt : Nat) (s : State) : (advance dt s).imgAlt = s.imgAlt := rfl
@[simp] theorem advance_fab (dt : Nat) (s : State) : (advance dt s).fab = s.fab := rfl
@[simp] theorem advance_rfx (dt : Nat) (s : State) : (advance dt s).rfx = s.rfx := rfl
@[simp] theorem advance_dio (dt : Nat) (s : State) : (advance dt s).dio = s.dio := rfl
@[simp] theorem advance_loop (dt : Nat) (s : State) : (advance dt s).loop = s.loop := rfl
@[simp] theorem advance_buoy (dt : Nat) (s : State) : (advance dt s).buoy = s.buoy := rfl
@[simp] theorem advance_can (dt : Nat) (s : State) : (advance dt s).can = s.can := rfl
@[simp] theorem advance_net (dt : Nat) (s : State) : (advance dt s).net = s.net := rfl
@[simp] theorem advance_beam (dt : Nat) (s : State) : (advance dt s).beam = s.beam := rfl
@[simp] theorem advance_kp (dt : Nat) (s : State) : (advance dt s).kp = s.kp := rfl
@[simp] theorem advance_twin (dt : Nat) (s : State) : (advance dt s).twin = s.twin := rfl
@[simp] theorem advance_edit (dt : Nat) (s : State) : (advance dt s).edit = s.edit := rfl
@[simp] theorem advance_rcd (dt : Nat) (s : State) : (advance dt s).rcd = s.rcd := rfl
@[simp] theorem advance_nvm (dt : Nat) (s : State) : (advance dt s).nvm = s.nvm := rfl
@[simp] theorem advance_clk (dt : Nat) (s : State) : (advance dt s).clk = s.clk := rfl
@[simp] theorem advance_wdg (dt : Nat) (s : State) : (advance dt s).wdg = s.wdg := rfl
@[simp] theorem advance_pwr (dt : Nat) (s : State) : (advance dt s).pwr = s.pwr := rfl
@[simp] theorem advance_sec (dt : Nat) (s : State) : (advance dt s).sec = s.sec := rfl
@[simp] theorem advance_fw (dt : Nat) (s : State) : (advance dt s).fw = s.fw := rfl
@[simp] theorem advance_watch (dt : Nat) (s : State) : (advance dt s).watch = s.watch := rfl
@[simp] theorem advance_tag (dt : Nat) (s : State) : (advance dt s).tag = s.tag := rfl
@[simp] theorem advance_latch (dt : Nat) (s : State) : (advance dt s).latch = s.latch := rfl
@[simp] theorem advance_free (dt : Nat) (s : State) : (advance dt s).free = s.free := rfl
@[simp] theorem advance_out (dt : Nat) (s : State) : (advance dt s).out = s.out := rfl
@[simp] theorem advance_pending (dt : Nat) (s : State) : (advance dt s).pending = s.pending := rfl

/-! emit -/

@[simp] theorem emit_id (e : Emit) (s : State) : (emit e s).id = s.id := rfl
@[simp] theorem emit_mode (e : Emit) (s : State) : (emit e s).mode = s.mode := rfl
@[simp] theorem emit_img (e : Emit) (s : State) : (emit e s).img = s.img := rfl
@[simp] theorem emit_imgAlt (e : Emit) (s : State) : (emit e s).imgAlt = s.imgAlt := rfl
@[simp] theorem emit_fab (e : Emit) (s : State) : (emit e s).fab = s.fab := rfl
@[simp] theorem emit_rfx (e : Emit) (s : State) : (emit e s).rfx = s.rfx := rfl
@[simp] theorem emit_dio (e : Emit) (s : State) : (emit e s).dio = s.dio := rfl
@[simp] theorem emit_loop (e : Emit) (s : State) : (emit e s).loop = s.loop := rfl
@[simp] theorem emit_buoy (e : Emit) (s : State) : (emit e s).buoy = s.buoy := rfl
@[simp] theorem emit_can (e : Emit) (s : State) : (emit e s).can = s.can := rfl
@[simp] theorem emit_net (e : Emit) (s : State) : (emit e s).net = s.net := rfl
@[simp] theorem emit_beam (e : Emit) (s : State) : (emit e s).beam = s.beam := rfl
@[simp] theorem emit_kp (e : Emit) (s : State) : (emit e s).kp = s.kp := rfl
@[simp] theorem emit_time (e : Emit) (s : State) : (emit e s).time = s.time := rfl
@[simp] theorem emit_rtc (e : Emit) (s : State) : (emit e s).rtc = s.rtc := rfl
@[simp] theorem emit_twin (e : Emit) (s : State) : (emit e s).twin = s.twin := rfl
@[simp] theorem emit_edit (e : Emit) (s : State) : (emit e s).edit = s.edit := rfl
@[simp] theorem emit_rcd (e : Emit) (s : State) : (emit e s).rcd = s.rcd := rfl
@[simp] theorem emit_nvm (e : Emit) (s : State) : (emit e s).nvm = s.nvm := rfl
@[simp] theorem emit_clk (e : Emit) (s : State) : (emit e s).clk = s.clk := rfl
@[simp] theorem emit_wdg (e : Emit) (s : State) : (emit e s).wdg = s.wdg := rfl
@[simp] theorem emit_pwr (e : Emit) (s : State) : (emit e s).pwr = s.pwr := rfl
@[simp] theorem emit_sec (e : Emit) (s : State) : (emit e s).sec = s.sec := rfl
@[simp] theorem emit_fw (e : Emit) (s : State) : (emit e s).fw = s.fw := rfl
@[simp] theorem emit_watch (e : Emit) (s : State) : (emit e s).watch = s.watch := rfl
@[simp] theorem emit_tag (e : Emit) (s : State) : (emit e s).tag = s.tag := rfl
@[simp] theorem emit_latch (e : Emit) (s : State) : (emit e s).latch = s.latch := rfl
@[simp] theorem emit_free (e : Emit) (s : State) : (emit e s).free = s.free := rfl
@[simp] theorem emit_pending (e : Emit) (s : State) : (emit e s).pending = s.pending := rfl

/-! nvmPush -/

@[simp] theorem nvmPush_id (j : NvmJob) (s : State) : (nvmPush j s).id = s.id := rfl
@[simp] theorem nvmPush_mode (j : NvmJob) (s : State) : (nvmPush j s).mode = s.mode := rfl
@[simp] theorem nvmPush_img (j : NvmJob) (s : State) : (nvmPush j s).img = s.img := rfl
@[simp] theorem nvmPush_imgAlt (j : NvmJob) (s : State) : (nvmPush j s).imgAlt = s.imgAlt := rfl
@[simp] theorem nvmPush_fab (j : NvmJob) (s : State) : (nvmPush j s).fab = s.fab := rfl
@[simp] theorem nvmPush_rfx (j : NvmJob) (s : State) : (nvmPush j s).rfx = s.rfx := rfl
@[simp] theorem nvmPush_dio (j : NvmJob) (s : State) : (nvmPush j s).dio = s.dio := rfl
@[simp] theorem nvmPush_loop (j : NvmJob) (s : State) : (nvmPush j s).loop = s.loop := rfl
@[simp] theorem nvmPush_buoy (j : NvmJob) (s : State) : (nvmPush j s).buoy = s.buoy := rfl
@[simp] theorem nvmPush_can (j : NvmJob) (s : State) : (nvmPush j s).can = s.can := rfl
@[simp] theorem nvmPush_net (j : NvmJob) (s : State) : (nvmPush j s).net = s.net := rfl
@[simp] theorem nvmPush_beam (j : NvmJob) (s : State) : (nvmPush j s).beam = s.beam := rfl
@[simp] theorem nvmPush_kp (j : NvmJob) (s : State) : (nvmPush j s).kp = s.kp := rfl
@[simp] theorem nvmPush_time (j : NvmJob) (s : State) : (nvmPush j s).time = s.time := rfl
@[simp] theorem nvmPush_rtc (j : NvmJob) (s : State) : (nvmPush j s).rtc = s.rtc := rfl
@[simp] theorem nvmPush_twin (j : NvmJob) (s : State) : (nvmPush j s).twin = s.twin := rfl
@[simp] theorem nvmPush_edit (j : NvmJob) (s : State) : (nvmPush j s).edit = s.edit := rfl
@[simp] theorem nvmPush_rcd (j : NvmJob) (s : State) : (nvmPush j s).rcd = s.rcd := rfl
@[simp] theorem nvmPush_clk (j : NvmJob) (s : State) : (nvmPush j s).clk = s.clk := rfl
@[simp] theorem nvmPush_wdg (j : NvmJob) (s : State) : (nvmPush j s).wdg = s.wdg := rfl
@[simp] theorem nvmPush_pwr (j : NvmJob) (s : State) : (nvmPush j s).pwr = s.pwr := rfl
@[simp] theorem nvmPush_sec (j : NvmJob) (s : State) : (nvmPush j s).sec = s.sec := rfl
@[simp] theorem nvmPush_fw (j : NvmJob) (s : State) : (nvmPush j s).fw = s.fw := rfl
@[simp] theorem nvmPush_watch (j : NvmJob) (s : State) : (nvmPush j s).watch = s.watch := rfl
@[simp] theorem nvmPush_tag (j : NvmJob) (s : State) : (nvmPush j s).tag = s.tag := rfl
@[simp] theorem nvmPush_latch (j : NvmJob) (s : State) : (nvmPush j s).latch = s.latch := rfl
@[simp] theorem nvmPush_free (j : NvmJob) (s : State) : (nvmPush j s).free = s.free := rfl
@[simp] theorem nvmPush_out (j : NvmJob) (s : State) : (nvmPush j s).out = s.out := rfl
@[simp] theorem nvmPush_pending (j : NvmJob) (s : State) : (nvmPush j s).pending = s.pending := rfl

/-! counterPut -/

@[simp] theorem counterPut_id (c v cls : Nat) (s : State) : (counterPut c v cls s).id = s.id := rfl
@[simp] theorem counterPut_mode (c v cls : Nat) (s : State) : (counterPut c v cls s).mode = s.mode := rfl
@[simp] theorem counterPut_img (c v cls : Nat) (s : State) : (counterPut c v cls s).img = s.img := rfl
@[simp] theorem counterPut_imgAlt (c v cls : Nat) (s : State) : (counterPut c v cls s).imgAlt = s.imgAlt := rfl
@[simp] theorem counterPut_fab (c v cls : Nat) (s : State) : (counterPut c v cls s).fab = s.fab := rfl
@[simp] theorem counterPut_rfx (c v cls : Nat) (s : State) : (counterPut c v cls s).rfx = s.rfx := rfl
@[simp] theorem counterPut_dio (c v cls : Nat) (s : State) : (counterPut c v cls s).dio = s.dio := rfl
@[simp] theorem counterPut_loop (c v cls : Nat) (s : State) : (counterPut c v cls s).loop = s.loop := rfl
@[simp] theorem counterPut_buoy (c v cls : Nat) (s : State) : (counterPut c v cls s).buoy = s.buoy := rfl
@[simp] theorem counterPut_can (c v cls : Nat) (s : State) : (counterPut c v cls s).can = s.can := rfl
@[simp] theorem counterPut_net (c v cls : Nat) (s : State) : (counterPut c v cls s).net = s.net := rfl
@[simp] theorem counterPut_beam (c v cls : Nat) (s : State) : (counterPut c v cls s).beam = s.beam := rfl
@[simp] theorem counterPut_kp (c v cls : Nat) (s : State) : (counterPut c v cls s).kp = s.kp := rfl
@[simp] theorem counterPut_time (c v cls : Nat) (s : State) : (counterPut c v cls s).time = s.time := rfl
@[simp] theorem counterPut_rtc (c v cls : Nat) (s : State) : (counterPut c v cls s).rtc = s.rtc := rfl
@[simp] theorem counterPut_twin (c v cls : Nat) (s : State) : (counterPut c v cls s).twin = s.twin := rfl
@[simp] theorem counterPut_edit (c v cls : Nat) (s : State) : (counterPut c v cls s).edit = s.edit := rfl
@[simp] theorem counterPut_rcd (c v cls : Nat) (s : State) : (counterPut c v cls s).rcd = s.rcd := rfl
@[simp] theorem counterPut_clk (c v cls : Nat) (s : State) : (counterPut c v cls s).clk = s.clk := rfl
@[simp] theorem counterPut_wdg (c v cls : Nat) (s : State) : (counterPut c v cls s).wdg = s.wdg := rfl
@[simp] theorem counterPut_pwr (c v cls : Nat) (s : State) : (counterPut c v cls s).pwr = s.pwr := rfl
@[simp] theorem counterPut_sec (c v cls : Nat) (s : State) : (counterPut c v cls s).sec = s.sec := rfl
@[simp] theorem counterPut_fw (c v cls : Nat) (s : State) : (counterPut c v cls s).fw = s.fw := rfl
@[simp] theorem counterPut_watch (c v cls : Nat) (s : State) : (counterPut c v cls s).watch = s.watch := rfl
@[simp] theorem counterPut_tag (c v cls : Nat) (s : State) : (counterPut c v cls s).tag = s.tag := rfl
@[simp] theorem counterPut_latch (c v cls : Nat) (s : State) : (counterPut c v cls s).latch = s.latch := rfl
@[simp] theorem counterPut_free (c v cls : Nat) (s : State) : (counterPut c v cls s).free = s.free := rfl
@[simp] theorem counterPut_out (c v cls : Nat) (s : State) : (counterPut c v cls s).out = s.out := rfl
@[simp] theorem counterPut_pending (c v cls : Nat) (s : State) : (counterPut c v cls s).pending = s.pending := rfl

/-! counterInc -/

@[simp] theorem counterInc_id (c : Nat) (s : State) : (counterInc c s).id = s.id := rfl
@[simp] theorem counterInc_mode (c : Nat) (s : State) : (counterInc c s).mode = s.mode := rfl
@[simp] theorem counterInc_img (c : Nat) (s : State) : (counterInc c s).img = s.img := rfl
@[simp] theorem counterInc_imgAlt (c : Nat) (s : State) : (counterInc c s).imgAlt = s.imgAlt := rfl
@[simp] theorem counterInc_fab (c : Nat) (s : State) : (counterInc c s).fab = s.fab := rfl
@[simp] theorem counterInc_rfx (c : Nat) (s : State) : (counterInc c s).rfx = s.rfx := rfl
@[simp] theorem counterInc_dio (c : Nat) (s : State) : (counterInc c s).dio = s.dio := rfl
@[simp] theorem counterInc_loop (c : Nat) (s : State) : (counterInc c s).loop = s.loop := rfl
@[simp] theorem counterInc_buoy (c : Nat) (s : State) : (counterInc c s).buoy = s.buoy := rfl
@[simp] theorem counterInc_can (c : Nat) (s : State) : (counterInc c s).can = s.can := rfl
@[simp] theorem counterInc_net (c : Nat) (s : State) : (counterInc c s).net = s.net := rfl
@[simp] theorem counterInc_beam (c : Nat) (s : State) : (counterInc c s).beam = s.beam := rfl
@[simp] theorem counterInc_kp (c : Nat) (s : State) : (counterInc c s).kp = s.kp := rfl
@[simp] theorem counterInc_time (c : Nat) (s : State) : (counterInc c s).time = s.time := rfl
@[simp] theorem counterInc_rtc (c : Nat) (s : State) : (counterInc c s).rtc = s.rtc := rfl
@[simp] theorem counterInc_twin (c : Nat) (s : State) : (counterInc c s).twin = s.twin := rfl
@[simp] theorem counterInc_edit (c : Nat) (s : State) : (counterInc c s).edit = s.edit := rfl
@[simp] theorem counterInc_rcd (c : Nat) (s : State) : (counterInc c s).rcd = s.rcd := rfl
@[simp] theorem counterInc_clk (c : Nat) (s : State) : (counterInc c s).clk = s.clk := rfl
@[simp] theorem counterInc_wdg (c : Nat) (s : State) : (counterInc c s).wdg = s.wdg := rfl
@[simp] theorem counterInc_pwr (c : Nat) (s : State) : (counterInc c s).pwr = s.pwr := rfl
@[simp] theorem counterInc_sec (c : Nat) (s : State) : (counterInc c s).sec = s.sec := rfl
@[simp] theorem counterInc_fw (c : Nat) (s : State) : (counterInc c s).fw = s.fw := rfl
@[simp] theorem counterInc_watch (c : Nat) (s : State) : (counterInc c s).watch = s.watch := rfl
@[simp] theorem counterInc_tag (c : Nat) (s : State) : (counterInc c s).tag = s.tag := rfl
@[simp] theorem counterInc_latch (c : Nat) (s : State) : (counterInc c s).latch = s.latch := rfl
@[simp] theorem counterInc_free (c : Nat) (s : State) : (counterInc c s).free = s.free := rfl
@[simp] theorem counterInc_out (c : Nat) (s : State) : (counterInc c s).out = s.out := rfl
@[simp] theorem counterInc_pending (c : Nat) (s : State) : (counterInc c s).pending = s.pending := rfl

/-! nvmJournal -/

@[simp] theorem nvmJournal_id (i : Nat) (s : State) : (nvmJournal i s).id = s.id := rfl
@[simp] theorem nvmJournal_mode (i : Nat) (s : State) : (nvmJournal i s).mode = s.mode := rfl
@[simp] theorem nvmJournal_img (i : Nat) (s : State) : (nvmJournal i s).img = s.img := rfl
@[simp] theorem nvmJournal_imgAlt (i : Nat) (s : State) : (nvmJournal i s).imgAlt = s.imgAlt := rfl
@[simp] theorem nvmJournal_fab (i : Nat) (s : State) : (nvmJournal i s).fab = s.fab := rfl
@[simp] theorem nvmJournal_rfx (i : Nat) (s : State) : (nvmJournal i s).rfx = s.rfx := rfl
@[simp] theorem nvmJournal_dio (i : Nat) (s : State) : (nvmJournal i s).dio = s.dio := rfl
@[simp] theorem nvmJournal_loop (i : Nat) (s : State) : (nvmJournal i s).loop = s.loop := rfl
@[simp] theorem nvmJournal_buoy (i : Nat) (s : State) : (nvmJournal i s).buoy = s.buoy := rfl
@[simp] theorem nvmJournal_can (i : Nat) (s : State) : (nvmJournal i s).can = s.can := rfl
@[simp] theorem nvmJournal_net (i : Nat) (s : State) : (nvmJournal i s).net = s.net := rfl
@[simp] theorem nvmJournal_beam (i : Nat) (s : State) : (nvmJournal i s).beam = s.beam := rfl
@[simp] theorem nvmJournal_kp (i : Nat) (s : State) : (nvmJournal i s).kp = s.kp := rfl
@[simp] theorem nvmJournal_time (i : Nat) (s : State) : (nvmJournal i s).time = s.time := rfl
@[simp] theorem nvmJournal_rtc (i : Nat) (s : State) : (nvmJournal i s).rtc = s.rtc := rfl
@[simp] theorem nvmJournal_twin (i : Nat) (s : State) : (nvmJournal i s).twin = s.twin := rfl
@[simp] theorem nvmJournal_edit (i : Nat) (s : State) : (nvmJournal i s).edit = s.edit := rfl
@[simp] theorem nvmJournal_rcd (i : Nat) (s : State) : (nvmJournal i s).rcd = s.rcd := rfl
@[simp] theorem nvmJournal_clk (i : Nat) (s : State) : (nvmJournal i s).clk = s.clk := rfl
@[simp] theorem nvmJournal_wdg (i : Nat) (s : State) : (nvmJournal i s).wdg = s.wdg := rfl
@[simp] theorem nvmJournal_pwr (i : Nat) (s : State) : (nvmJournal i s).pwr = s.pwr := rfl
@[simp] theorem nvmJournal_sec (i : Nat) (s : State) : (nvmJournal i s).sec = s.sec := rfl
@[simp] theorem nvmJournal_fw (i : Nat) (s : State) : (nvmJournal i s).fw = s.fw := rfl
@[simp] theorem nvmJournal_watch (i : Nat) (s : State) : (nvmJournal i s).watch = s.watch := rfl
@[simp] theorem nvmJournal_tag (i : Nat) (s : State) : (nvmJournal i s).tag = s.tag := rfl
@[simp] theorem nvmJournal_latch (i : Nat) (s : State) : (nvmJournal i s).latch = s.latch := rfl
@[simp] theorem nvmJournal_free (i : Nat) (s : State) : (nvmJournal i s).free = s.free := rfl
@[simp] theorem nvmJournal_out (i : Nat) (s : State) : (nvmJournal i s).out = s.out := rfl
@[simp] theorem nvmJournal_pending (i : Nat) (s : State) : (nvmJournal i s).pending = s.pending := rfl

/-! taskMod -/

@[simp] theorem taskMod_id (k : Nat) (f : Task → Task) (s : State) : (taskMod k f s).id = s.id := rfl
@[simp] theorem taskMod_mode (k : Nat) (f : Task → Task) (s : State) : (taskMod k f s).mode = s.mode := rfl
@[simp] theorem taskMod_img (k : Nat) (f : Task → Task) (s : State) : (taskMod k f s).img = s.img := rfl
@[simp] theorem taskMod_imgAlt (k : Nat) (f : Task → Task) (s : State) : (taskMod k f s).imgAlt = s.imgAlt := rfl
@[simp] theorem taskMod_rfx (k : Nat) (f : Task → Task) (s : State) : (taskMod k f s).rfx = s.rfx := rfl
@[simp] theorem taskMod_dio (k : Nat) (f : Task → Task) (s : State) : (taskMod k f s).dio = s.dio := rfl
@[simp] theorem taskMod_loop (k : Nat) (f : Task → Task) (s : State) : (taskMod k f s).loop = s.loop := rfl
@[simp] theorem taskMod_buoy (k : Nat) (f : Task → Task) (s : State) : (taskMod k f s).buoy = s.buoy := rfl
@[simp] theorem taskMod_can (k : Nat) (f : Task → Task) (s : State) : (taskMod k f s).can = s.can := rfl
@[simp] theorem taskMod_net (k : Nat) (f : Task → Task) (s : State) : (taskMod k f s).net = s.net := rfl
@[simp] theorem taskMod_beam (k : Nat) (f : Task → Task) (s : State) : (taskMod k f s).beam = s.beam := rfl
@[simp] theorem taskMod_kp (k : Nat) (f : Task → Task) (s : State) : (taskMod k f s).kp = s.kp := rfl
@[simp] theorem taskMod_time (k : Nat) (f : Task → Task) (s : State) : (taskMod k f s).time = s.time := rfl
@[simp] theorem taskMod_rtc (k : Nat) (f : Task → Task) (s : State) : (taskMod k f s).rtc = s.rtc := rfl
@[simp] theorem taskMod_twin (k : Nat) (f : Task → Task) (s : State) : (taskMod k f s).twin = s.twin := rfl
@[simp] theorem taskMod_edit (k : Nat) (f : Task → Task) (s : State) : (taskMod k f s).edit = s.edit := rfl
@[simp] theorem taskMod_rcd (k : Nat) (f : Task → Task) (s : State) : (taskMod k f s).rcd = s.rcd := rfl
@[simp] theorem taskMod_nvm (k : Nat) (f : Task → Task) (s : State) : (taskMod k f s).nvm = s.nvm := rfl
@[simp] theorem taskMod_clk (k : Nat) (f : Task → Task) (s : State) : (taskMod k f s).clk = s.clk := rfl
@[simp] theorem taskMod_wdg (k : Nat) (f : Task → Task) (s : State) : (taskMod k f s).wdg = s.wdg := rfl
@[simp] theorem taskMod_pwr (k : Nat) (f : Task → Task) (s : State) : (taskMod k f s).pwr = s.pwr := rfl
@[simp] theorem taskMod_sec (k : Nat) (f : Task → Task) (s : State) : (taskMod k f s).sec = s.sec := rfl
@[simp] theorem taskMod_fw (k : Nat) (f : Task → Task) (s : State) : (taskMod k f s).fw = s.fw := rfl
@[simp] theorem taskMod_watch (k : Nat) (f : Task → Task) (s : State) : (taskMod k f s).watch = s.watch := rfl
@[simp] theorem taskMod_tag (k : Nat) (f : Task → Task) (s : State) : (taskMod k f s).tag = s.tag := rfl
@[simp] theorem taskMod_latch (k : Nat) (f : Task → Task) (s : State) : (taskMod k f s).latch = s.latch := rfl
@[simp] theorem taskMod_free (k : Nat) (f : Task → Task) (s : State) : (taskMod k f s).free = s.free := rfl
@[simp] theorem taskMod_out (k : Nat) (f : Task → Task) (s : State) : (taskMod k f s).out = s.out := rfl
@[simp] theorem taskMod_pending (k : Nat) (f : Task → Task) (s : State) : (taskMod k f s).pending = s.pending := rfl

/-! galMod -/

@[simp] theorem galMod_id (g : Nat) (f : Gallery → Gallery) (s : State) : (galMod g f s).id = s.id := rfl
@[simp] theorem galMod_mode (g : Nat) (f : Gallery → Gallery) (s : State) : (galMod g f s).mode = s.mode := rfl
@[simp] theorem galMod_img (g : Nat) (f : Gallery → Gallery) (s : State) : (galMod g f s).img = s.img := rfl
@[simp] theorem galMod_imgAlt (g : Nat) (f : Gallery → Gallery) (s : State) : (galMod g f s).imgAlt = s.imgAlt := rfl
@[simp] theorem galMod_rfx (g : Nat) (f : Gallery → Gallery) (s : State) : (galMod g f s).rfx = s.rfx := rfl
@[simp] theorem galMod_dio (g : Nat) (f : Gallery → Gallery) (s : State) : (galMod g f s).dio = s.dio := rfl
@[simp] theorem galMod_loop (g : Nat) (f : Gallery → Gallery) (s : State) : (galMod g f s).loop = s.loop := rfl
@[simp] theorem galMod_buoy (g : Nat) (f : Gallery → Gallery) (s : State) : (galMod g f s).buoy = s.buoy := rfl
@[simp] theorem galMod_can (g : Nat) (f : Gallery → Gallery) (s : State) : (galMod g f s).can = s.can := rfl
@[simp] theorem galMod_net (g : Nat) (f : Gallery → Gallery) (s : State) : (galMod g f s).net = s.net := rfl
@[simp] theorem galMod_beam (g : Nat) (f : Gallery → Gallery) (s : State) : (galMod g f s).beam = s.beam := rfl
@[simp] theorem galMod_kp (g : Nat) (f : Gallery → Gallery) (s : State) : (galMod g f s).kp = s.kp := rfl
@[simp] theorem galMod_time (g : Nat) (f : Gallery → Gallery) (s : State) : (galMod g f s).time = s.time := rfl
@[simp] theorem galMod_rtc (g : Nat) (f : Gallery → Gallery) (s : State) : (galMod g f s).rtc = s.rtc := rfl
@[simp] theorem galMod_twin (g : Nat) (f : Gallery → Gallery) (s : State) : (galMod g f s).twin = s.twin := rfl
@[simp] theorem galMod_edit (g : Nat) (f : Gallery → Gallery) (s : State) : (galMod g f s).edit = s.edit := rfl
@[simp] theorem galMod_rcd (g : Nat) (f : Gallery → Gallery) (s : State) : (galMod g f s).rcd = s.rcd := rfl
@[simp] theorem galMod_nvm (g : Nat) (f : Gallery → Gallery) (s : State) : (galMod g f s).nvm = s.nvm := rfl
@[simp] theorem galMod_clk (g : Nat) (f : Gallery → Gallery) (s : State) : (galMod g f s).clk = s.clk := rfl
@[simp] theorem galMod_wdg (g : Nat) (f : Gallery → Gallery) (s : State) : (galMod g f s).wdg = s.wdg := rfl
@[simp] theorem galMod_pwr (g : Nat) (f : Gallery → Gallery) (s : State) : (galMod g f s).pwr = s.pwr := rfl
@[simp] theorem galMod_sec (g : Nat) (f : Gallery → Gallery) (s : State) : (galMod g f s).sec = s.sec := rfl
@[simp] theorem galMod_fw (g : Nat) (f : Gallery → Gallery) (s : State) : (galMod g f s).fw = s.fw := rfl
@[simp] theorem galMod_watch (g : Nat) (f : Gallery → Gallery) (s : State) : (galMod g f s).watch = s.watch := rfl
@[simp] theorem galMod_tag (g : Nat) (f : Gallery → Gallery) (s : State) : (galMod g f s).tag = s.tag := rfl
@[simp] theorem galMod_latch (g : Nat) (f : Gallery → Gallery) (s : State) : (galMod g f s).latch = s.latch := rfl
@[simp] theorem galMod_free (g : Nat) (f : Gallery → Gallery) (s : State) : (galMod g f s).free = s.free := rfl
@[simp] theorem galMod_out (g : Nat) (f : Gallery → Gallery) (s : State) : (galMod g f s).out = s.out := rfl
@[simp] theorem galMod_pending (g : Nat) (f : Gallery → Gallery) (s : State) : (galMod g f s).pending = s.pending := rfl

/-! rangeMod -/

@[simp] theorem rangeMod_id (g r : Nat) (f : Range → Range) (s : State) : (rangeMod g r f s).id = s.id := rfl
@[simp] theorem rangeMod_mode (g r : Nat) (f : Range → Range) (s : State) : (rangeMod g r f s).mode = s.mode := rfl
@[simp] theorem rangeMod_img (g r : Nat) (f : Range → Range) (s : State) : (rangeMod g r f s).img = s.img := rfl
@[simp] theorem rangeMod_imgAlt (g r : Nat) (f : Range → Range) (s : State) : (rangeMod g r f s).imgAlt = s.imgAlt := rfl
@[simp] theorem rangeMod_rfx (g r : Nat) (f : Range → Range) (s : State) : (rangeMod g r f s).rfx = s.rfx := rfl
@[simp] theorem rangeMod_dio (g r : Nat) (f : Range → Range) (s : State) : (rangeMod g r f s).dio = s.dio := rfl
@[simp] theorem rangeMod_loop (g r : Nat) (f : Range → Range) (s : State) : (rangeMod g r f s).loop = s.loop := rfl
@[simp] theorem rangeMod_buoy (g r : Nat) (f : Range → Range) (s : State) : (rangeMod g r f s).buoy = s.buoy := rfl
@[simp] theorem rangeMod_can (g r : Nat) (f : Range → Range) (s : State) : (rangeMod g r f s).can = s.can := rfl
@[simp] theorem rangeMod_net (g r : Nat) (f : Range → Range) (s : State) : (rangeMod g r f s).net = s.net := rfl
@[simp] theorem rangeMod_beam (g r : Nat) (f : Range → Range) (s : State) : (rangeMod g r f s).beam = s.beam := rfl
@[simp] theorem rangeMod_kp (g r : Nat) (f : Range → Range) (s : State) : (rangeMod g r f s).kp = s.kp := rfl
@[simp] theorem rangeMod_time (g r : Nat) (f : Range → Range) (s : State) : (rangeMod g r f s).time = s.time := rfl
@[simp] theorem rangeMod_rtc (g r : Nat) (f : Range → Range) (s : State) : (rangeMod g r f s).rtc = s.rtc := rfl
@[simp] theorem rangeMod_twin (g r : Nat) (f : Range → Range) (s : State) : (rangeMod g r f s).twin = s.twin := rfl
@[simp] theorem rangeMod_edit (g r : Nat) (f : Range → Range) (s : State) : (rangeMod g r f s).edit = s.edit := rfl
@[simp] theorem rangeMod_rcd (g r : Nat) (f : Range → Range) (s : State) : (rangeMod g r f s).rcd = s.rcd := rfl
@[simp] theorem rangeMod_nvm (g r : Nat) (f : Range → Range) (s : State) : (rangeMod g r f s).nvm = s.nvm := rfl
@[simp] theorem rangeMod_clk (g r : Nat) (f : Range → Range) (s : State) : (rangeMod g r f s).clk = s.clk := rfl
@[simp] theorem rangeMod_wdg (g r : Nat) (f : Range → Range) (s : State) : (rangeMod g r f s).wdg = s.wdg := rfl
@[simp] theorem rangeMod_pwr (g r : Nat) (f : Range → Range) (s : State) : (rangeMod g r f s).pwr = s.pwr := rfl
@[simp] theorem rangeMod_sec (g r : Nat) (f : Range → Range) (s : State) : (rangeMod g r f s).sec = s.sec := rfl
@[simp] theorem rangeMod_fw (g r : Nat) (f : Range → Range) (s : State) : (rangeMod g r f s).fw = s.fw := rfl
@[simp] theorem rangeMod_watch (g r : Nat) (f : Range → Range) (s : State) : (rangeMod g r f s).watch = s.watch := rfl
@[simp] theorem rangeMod_tag (g r : Nat) (f : Range → Range) (s : State) : (rangeMod g r f s).tag = s.tag := rfl
@[simp] theorem rangeMod_latch (g r : Nat) (f : Range → Range) (s : State) : (rangeMod g r f s).latch = s.latch := rfl
@[simp] theorem rangeMod_free (g r : Nat) (f : Range → Range) (s : State) : (rangeMod g r f s).free = s.free := rfl
@[simp] theorem rangeMod_out (g r : Nat) (f : Range → Range) (s : State) : (rangeMod g r f s).out = s.out := rfl
@[simp] theorem rangeMod_pending (g r : Nat) (f : Range → Range) (s : State) : (rangeMod g r f s).pending = s.pending := rfl

/-! lampMod -/

@[simp] theorem lampMod_id (i : Nat) (f : Lamp → Lamp) (s : State) : (lampMod i f s).id = s.id := rfl
@[simp] theorem lampMod_mode (i : Nat) (f : Lamp → Lamp) (s : State) : (lampMod i f s).mode = s.mode := rfl
@[simp] theorem lampMod_img (i : Nat) (f : Lamp → Lamp) (s : State) : (lampMod i f s).img = s.img := rfl
@[simp] theorem lampMod_imgAlt (i : Nat) (f : Lamp → Lamp) (s : State) : (lampMod i f s).imgAlt = s.imgAlt := rfl
@[simp] theorem lampMod_rfx (i : Nat) (f : Lamp → Lamp) (s : State) : (lampMod i f s).rfx = s.rfx := rfl
@[simp] theorem lampMod_dio (i : Nat) (f : Lamp → Lamp) (s : State) : (lampMod i f s).dio = s.dio := rfl
@[simp] theorem lampMod_loop (i : Nat) (f : Lamp → Lamp) (s : State) : (lampMod i f s).loop = s.loop := rfl
@[simp] theorem lampMod_buoy (i : Nat) (f : Lamp → Lamp) (s : State) : (lampMod i f s).buoy = s.buoy := rfl
@[simp] theorem lampMod_can (i : Nat) (f : Lamp → Lamp) (s : State) : (lampMod i f s).can = s.can := rfl
@[simp] theorem lampMod_net (i : Nat) (f : Lamp → Lamp) (s : State) : (lampMod i f s).net = s.net := rfl
@[simp] theorem lampMod_beam (i : Nat) (f : Lamp → Lamp) (s : State) : (lampMod i f s).beam = s.beam := rfl
@[simp] theorem lampMod_kp (i : Nat) (f : Lamp → Lamp) (s : State) : (lampMod i f s).kp = s.kp := rfl
@[simp] theorem lampMod_time (i : Nat) (f : Lamp → Lamp) (s : State) : (lampMod i f s).time = s.time := rfl
@[simp] theorem lampMod_rtc (i : Nat) (f : Lamp → Lamp) (s : State) : (lampMod i f s).rtc = s.rtc := rfl
@[simp] theorem lampMod_twin (i : Nat) (f : Lamp → Lamp) (s : State) : (lampMod i f s).twin = s.twin := rfl
@[simp] theorem lampMod_edit (i : Nat) (f : Lamp → Lamp) (s : State) : (lampMod i f s).edit = s.edit := rfl
@[simp] theorem lampMod_rcd (i : Nat) (f : Lamp → Lamp) (s : State) : (lampMod i f s).rcd = s.rcd := rfl
@[simp] theorem lampMod_nvm (i : Nat) (f : Lamp → Lamp) (s : State) : (lampMod i f s).nvm = s.nvm := rfl
@[simp] theorem lampMod_clk (i : Nat) (f : Lamp → Lamp) (s : State) : (lampMod i f s).clk = s.clk := rfl
@[simp] theorem lampMod_wdg (i : Nat) (f : Lamp → Lamp) (s : State) : (lampMod i f s).wdg = s.wdg := rfl
@[simp] theorem lampMod_pwr (i : Nat) (f : Lamp → Lamp) (s : State) : (lampMod i f s).pwr = s.pwr := rfl
@[simp] theorem lampMod_sec (i : Nat) (f : Lamp → Lamp) (s : State) : (lampMod i f s).sec = s.sec := rfl
@[simp] theorem lampMod_fw (i : Nat) (f : Lamp → Lamp) (s : State) : (lampMod i f s).fw = s.fw := rfl
@[simp] theorem lampMod_watch (i : Nat) (f : Lamp → Lamp) (s : State) : (lampMod i f s).watch = s.watch := rfl
@[simp] theorem lampMod_tag (i : Nat) (f : Lamp → Lamp) (s : State) : (lampMod i f s).tag = s.tag := rfl
@[simp] theorem lampMod_latch (i : Nat) (f : Lamp → Lamp) (s : State) : (lampMod i f s).latch = s.latch := rfl
@[simp] theorem lampMod_free (i : Nat) (f : Lamp → Lamp) (s : State) : (lampMod i f s).free = s.free := rfl
@[simp] theorem lampMod_out (i : Nat) (f : Lamp → Lamp) (s : State) : (lampMod i f s).out = s.out := rfl
@[simp] theorem lampMod_pending (i : Nat) (f : Lamp → Lamp) (s : State) : (lampMod i f s).pending = s.pending := rfl

/-! slotMod -/

@[simp] theorem slotMod_id (n : Nat) (f : Slot → Slot) (s : State) : (slotMod n f s).id = s.id := rfl
@[simp] theorem slotMod_mode (n : Nat) (f : Slot → Slot) (s : State) : (slotMod n f s).mode = s.mode := rfl
@[simp] theorem slotMod_img (n : Nat) (f : Slot → Slot) (s : State) : (slotMod n f s).img = s.img := rfl
@[simp] theorem slotMod_imgAlt (n : Nat) (f : Slot → Slot) (s : State) : (slotMod n f s).imgAlt = s.imgAlt := rfl
@[simp] theorem slotMod_rfx (n : Nat) (f : Slot → Slot) (s : State) : (slotMod n f s).rfx = s.rfx := rfl
@[simp] theorem slotMod_dio (n : Nat) (f : Slot → Slot) (s : State) : (slotMod n f s).dio = s.dio := rfl
@[simp] theorem slotMod_loop (n : Nat) (f : Slot → Slot) (s : State) : (slotMod n f s).loop = s.loop := rfl
@[simp] theorem slotMod_buoy (n : Nat) (f : Slot → Slot) (s : State) : (slotMod n f s).buoy = s.buoy := rfl
@[simp] theorem slotMod_can (n : Nat) (f : Slot → Slot) (s : State) : (slotMod n f s).can = s.can := rfl
@[simp] theorem slotMod_net (n : Nat) (f : Slot → Slot) (s : State) : (slotMod n f s).net = s.net := rfl
@[simp] theorem slotMod_beam (n : Nat) (f : Slot → Slot) (s : State) : (slotMod n f s).beam = s.beam := rfl
@[simp] theorem slotMod_kp (n : Nat) (f : Slot → Slot) (s : State) : (slotMod n f s).kp = s.kp := rfl
@[simp] theorem slotMod_time (n : Nat) (f : Slot → Slot) (s : State) : (slotMod n f s).time = s.time := rfl
@[simp] theorem slotMod_rtc (n : Nat) (f : Slot → Slot) (s : State) : (slotMod n f s).rtc = s.rtc := rfl
@[simp] theorem slotMod_twin (n : Nat) (f : Slot → Slot) (s : State) : (slotMod n f s).twin = s.twin := rfl
@[simp] theorem slotMod_edit (n : Nat) (f : Slot → Slot) (s : State) : (slotMod n f s).edit = s.edit := rfl
@[simp] theorem slotMod_rcd (n : Nat) (f : Slot → Slot) (s : State) : (slotMod n f s).rcd = s.rcd := rfl
@[simp] theorem slotMod_nvm (n : Nat) (f : Slot → Slot) (s : State) : (slotMod n f s).nvm = s.nvm := rfl
@[simp] theorem slotMod_clk (n : Nat) (f : Slot → Slot) (s : State) : (slotMod n f s).clk = s.clk := rfl
@[simp] theorem slotMod_wdg (n : Nat) (f : Slot → Slot) (s : State) : (slotMod n f s).wdg = s.wdg := rfl
@[simp] theorem slotMod_pwr (n : Nat) (f : Slot → Slot) (s : State) : (slotMod n f s).pwr = s.pwr := rfl
@[simp] theorem slotMod_sec (n : Nat) (f : Slot → Slot) (s : State) : (slotMod n f s).sec = s.sec := rfl
@[simp] theorem slotMod_fw (n : Nat) (f : Slot → Slot) (s : State) : (slotMod n f s).fw = s.fw := rfl
@[simp] theorem slotMod_watch (n : Nat) (f : Slot → Slot) (s : State) : (slotMod n f s).watch = s.watch := rfl
@[simp] theorem slotMod_tag (n : Nat) (f : Slot → Slot) (s : State) : (slotMod n f s).tag = s.tag := rfl
@[simp] theorem slotMod_latch (n : Nat) (f : Slot → Slot) (s : State) : (slotMod n f s).latch = s.latch := rfl
@[simp] theorem slotMod_free (n : Nat) (f : Slot → Slot) (s : State) : (slotMod n f s).free = s.free := rfl
@[simp] theorem slotMod_out (n : Nat) (f : Slot → Slot) (s : State) : (slotMod n f s).out = s.out := rfl
@[simp] theorem slotMod_pending (n : Nat) (f : Slot → Slot) (s : State) : (slotMod n f s).pending = s.pending := rfl

/-! btxMod -/

@[simp] theorem btxMod_id (c : Nat) (f : BeamTx → BeamTx) (s : State) : (btxMod c f s).id = s.id := rfl
@[simp] theorem btxMod_mode (c : Nat) (f : BeamTx → BeamTx) (s : State) : (btxMod c f s).mode = s.mode := rfl
@[simp] theorem btxMod_img (c : Nat) (f : BeamTx → BeamTx) (s : State) : (btxMod c f s).img = s.img := rfl
@[simp] theorem btxMod_imgAlt (c : Nat) (f : BeamTx → BeamTx) (s : State) : (btxMod c f s).imgAlt = s.imgAlt := rfl
@[simp] theorem btxMod_fab (c : Nat) (f : BeamTx → BeamTx) (s : State) : (btxMod c f s).fab = s.fab := rfl
@[simp] theorem btxMod_rfx (c : Nat) (f : BeamTx → BeamTx) (s : State) : (btxMod c f s).rfx = s.rfx := rfl
@[simp] theorem btxMod_dio (c : Nat) (f : BeamTx → BeamTx) (s : State) : (btxMod c f s).dio = s.dio := rfl
@[simp] theorem btxMod_loop (c : Nat) (f : BeamTx → BeamTx) (s : State) : (btxMod c f s).loop = s.loop := rfl
@[simp] theorem btxMod_buoy (c : Nat) (f : BeamTx → BeamTx) (s : State) : (btxMod c f s).buoy = s.buoy := rfl
@[simp] theorem btxMod_can (c : Nat) (f : BeamTx → BeamTx) (s : State) : (btxMod c f s).can = s.can := rfl
@[simp] theorem btxMod_net (c : Nat) (f : BeamTx → BeamTx) (s : State) : (btxMod c f s).net = s.net := rfl
@[simp] theorem btxMod_kp (c : Nat) (f : BeamTx → BeamTx) (s : State) : (btxMod c f s).kp = s.kp := rfl
@[simp] theorem btxMod_time (c : Nat) (f : BeamTx → BeamTx) (s : State) : (btxMod c f s).time = s.time := rfl
@[simp] theorem btxMod_rtc (c : Nat) (f : BeamTx → BeamTx) (s : State) : (btxMod c f s).rtc = s.rtc := rfl
@[simp] theorem btxMod_twin (c : Nat) (f : BeamTx → BeamTx) (s : State) : (btxMod c f s).twin = s.twin := rfl
@[simp] theorem btxMod_edit (c : Nat) (f : BeamTx → BeamTx) (s : State) : (btxMod c f s).edit = s.edit := rfl
@[simp] theorem btxMod_rcd (c : Nat) (f : BeamTx → BeamTx) (s : State) : (btxMod c f s).rcd = s.rcd := rfl
@[simp] theorem btxMod_nvm (c : Nat) (f : BeamTx → BeamTx) (s : State) : (btxMod c f s).nvm = s.nvm := rfl
@[simp] theorem btxMod_clk (c : Nat) (f : BeamTx → BeamTx) (s : State) : (btxMod c f s).clk = s.clk := rfl
@[simp] theorem btxMod_wdg (c : Nat) (f : BeamTx → BeamTx) (s : State) : (btxMod c f s).wdg = s.wdg := rfl
@[simp] theorem btxMod_pwr (c : Nat) (f : BeamTx → BeamTx) (s : State) : (btxMod c f s).pwr = s.pwr := rfl
@[simp] theorem btxMod_sec (c : Nat) (f : BeamTx → BeamTx) (s : State) : (btxMod c f s).sec = s.sec := rfl
@[simp] theorem btxMod_fw (c : Nat) (f : BeamTx → BeamTx) (s : State) : (btxMod c f s).fw = s.fw := rfl
@[simp] theorem btxMod_watch (c : Nat) (f : BeamTx → BeamTx) (s : State) : (btxMod c f s).watch = s.watch := rfl
@[simp] theorem btxMod_tag (c : Nat) (f : BeamTx → BeamTx) (s : State) : (btxMod c f s).tag = s.tag := rfl
@[simp] theorem btxMod_latch (c : Nat) (f : BeamTx → BeamTx) (s : State) : (btxMod c f s).latch = s.latch := rfl
@[simp] theorem btxMod_free (c : Nat) (f : BeamTx → BeamTx) (s : State) : (btxMod c f s).free = s.free := rfl
@[simp] theorem btxMod_out (c : Nat) (f : BeamTx → BeamTx) (s : State) : (btxMod c f s).out = s.out := rfl
@[simp] theorem btxMod_pending (c : Nat) (f : BeamTx → BeamTx) (s : State) : (btxMod c f s).pending = s.pending := rfl

/-! brxMod -/

@[simp] theorem brxMod_id (c : Nat) (f : BeamRx → BeamRx) (s : State) : (brxMod c f s).id = s.id := rfl
@[simp] theorem brxMod_mode (c : Nat) (f : BeamRx → BeamRx) (s : State) : (brxMod c f s).mode = s.mode := rfl
@[simp] theorem brxMod_img (c : Nat) (f : BeamRx → BeamRx) (s : State) : (brxMod c f s).img = s.img := rfl
@[simp] theorem brxMod_imgAlt (c : Nat) (f : BeamRx → BeamRx) (s : State) : (brxMod c f s).imgAlt = s.imgAlt := rfl
@[simp] theorem brxMod_fab (c : Nat) (f : BeamRx → BeamRx) (s : State) : (brxMod c f s).fab = s.fab := rfl
@[simp] theorem brxMod_rfx (c : Nat) (f : BeamRx → BeamRx) (s : State) : (brxMod c f s).rfx = s.rfx := rfl
@[simp] theorem brxMod_dio (c : Nat) (f : BeamRx → BeamRx) (s : State) : (brxMod c f s).dio = s.dio := rfl
@[simp] theorem brxMod_loop (c : Nat) (f : BeamRx → BeamRx) (s : State) : (brxMod c f s).loop = s.loop := rfl
@[simp] theorem brxMod_buoy (c : Nat) (f : BeamRx → BeamRx) (s : State) : (brxMod c f s).buoy = s.buoy := rfl
@[simp] theorem brxMod_can (c : Nat) (f : BeamRx → BeamRx) (s : State) : (brxMod c f s).can = s.can := rfl
@[simp] theorem brxMod_net (c : Nat) (f : BeamRx → BeamRx) (s : State) : (brxMod c f s).net = s.net := rfl
@[simp] theorem brxMod_kp (c : Nat) (f : BeamRx → BeamRx) (s : State) : (brxMod c f s).kp = s.kp := rfl
@[simp] theorem brxMod_time (c : Nat) (f : BeamRx → BeamRx) (s : State) : (brxMod c f s).time = s.time := rfl
@[simp] theorem brxMod_rtc (c : Nat) (f : BeamRx → BeamRx) (s : State) : (brxMod c f s).rtc = s.rtc := rfl
@[simp] theorem brxMod_twin (c : Nat) (f : BeamRx → BeamRx) (s : State) : (brxMod c f s).twin = s.twin := rfl
@[simp] theorem brxMod_edit (c : Nat) (f : BeamRx → BeamRx) (s : State) : (brxMod c f s).edit = s.edit := rfl
@[simp] theorem brxMod_rcd (c : Nat) (f : BeamRx → BeamRx) (s : State) : (brxMod c f s).rcd = s.rcd := rfl
@[simp] theorem brxMod_nvm (c : Nat) (f : BeamRx → BeamRx) (s : State) : (brxMod c f s).nvm = s.nvm := rfl
@[simp] theorem brxMod_clk (c : Nat) (f : BeamRx → BeamRx) (s : State) : (brxMod c f s).clk = s.clk := rfl
@[simp] theorem brxMod_wdg (c : Nat) (f : BeamRx → BeamRx) (s : State) : (brxMod c f s).wdg = s.wdg := rfl
@[simp] theorem brxMod_pwr (c : Nat) (f : BeamRx → BeamRx) (s : State) : (brxMod c f s).pwr = s.pwr := rfl
@[simp] theorem brxMod_sec (c : Nat) (f : BeamRx → BeamRx) (s : State) : (brxMod c f s).sec = s.sec := rfl
@[simp] theorem brxMod_fw (c : Nat) (f : BeamRx → BeamRx) (s : State) : (brxMod c f s).fw = s.fw := rfl
@[simp] theorem brxMod_watch (c : Nat) (f : BeamRx → BeamRx) (s : State) : (brxMod c f s).watch = s.watch := rfl
@[simp] theorem brxMod_tag (c : Nat) (f : BeamRx → BeamRx) (s : State) : (brxMod c f s).tag = s.tag := rfl
@[simp] theorem brxMod_latch (c : Nat) (f : BeamRx → BeamRx) (s : State) : (brxMod c f s).latch = s.latch := rfl
@[simp] theorem brxMod_free (c : Nat) (f : BeamRx → BeamRx) (s : State) : (brxMod c f s).free = s.free := rfl
@[simp] theorem brxMod_out (c : Nat) (f : BeamRx → BeamRx) (s : State) : (brxMod c f s).out = s.out := rfl
@[simp] theorem brxMod_pending (c : Nat) (f : BeamRx → BeamRx) (s : State) : (brxMod c f s).pending = s.pending := rfl

/-! schMod -/

@[simp] theorem schMod_id (k : Nat) (f : Sched → Sched) (s : State) : (schMod k f s).id = s.id := rfl
@[simp] theorem schMod_mode (k : Nat) (f : Sched → Sched) (s : State) : (schMod k f s).mode = s.mode := rfl
@[simp] theorem schMod_img (k : Nat) (f : Sched → Sched) (s : State) : (schMod k f s).img = s.img := rfl
@[simp] theorem schMod_imgAlt (k : Nat) (f : Sched → Sched) (s : State) : (schMod k f s).imgAlt = s.imgAlt := rfl
@[simp] theorem schMod_fab (k : Nat) (f : Sched → Sched) (s : State) : (schMod k f s).fab = s.fab := rfl
@[simp] theorem schMod_rfx (k : Nat) (f : Sched → Sched) (s : State) : (schMod k f s).rfx = s.rfx := rfl
@[simp] theorem schMod_dio (k : Nat) (f : Sched → Sched) (s : State) : (schMod k f s).dio = s.dio := rfl
@[simp] theorem schMod_loop (k : Nat) (f : Sched → Sched) (s : State) : (schMod k f s).loop = s.loop := rfl
@[simp] theorem schMod_buoy (k : Nat) (f : Sched → Sched) (s : State) : (schMod k f s).buoy = s.buoy := rfl
@[simp] theorem schMod_can (k : Nat) (f : Sched → Sched) (s : State) : (schMod k f s).can = s.can := rfl
@[simp] theorem schMod_net (k : Nat) (f : Sched → Sched) (s : State) : (schMod k f s).net = s.net := rfl
@[simp] theorem schMod_beam (k : Nat) (f : Sched → Sched) (s : State) : (schMod k f s).beam = s.beam := rfl
@[simp] theorem schMod_kp (k : Nat) (f : Sched → Sched) (s : State) : (schMod k f s).kp = s.kp := rfl
@[simp] theorem schMod_rtc (k : Nat) (f : Sched → Sched) (s : State) : (schMod k f s).rtc = s.rtc := rfl
@[simp] theorem schMod_twin (k : Nat) (f : Sched → Sched) (s : State) : (schMod k f s).twin = s.twin := rfl
@[simp] theorem schMod_edit (k : Nat) (f : Sched → Sched) (s : State) : (schMod k f s).edit = s.edit := rfl
@[simp] theorem schMod_rcd (k : Nat) (f : Sched → Sched) (s : State) : (schMod k f s).rcd = s.rcd := rfl
@[simp] theorem schMod_nvm (k : Nat) (f : Sched → Sched) (s : State) : (schMod k f s).nvm = s.nvm := rfl
@[simp] theorem schMod_clk (k : Nat) (f : Sched → Sched) (s : State) : (schMod k f s).clk = s.clk := rfl
@[simp] theorem schMod_wdg (k : Nat) (f : Sched → Sched) (s : State) : (schMod k f s).wdg = s.wdg := rfl
@[simp] theorem schMod_pwr (k : Nat) (f : Sched → Sched) (s : State) : (schMod k f s).pwr = s.pwr := rfl
@[simp] theorem schMod_sec (k : Nat) (f : Sched → Sched) (s : State) : (schMod k f s).sec = s.sec := rfl
@[simp] theorem schMod_fw (k : Nat) (f : Sched → Sched) (s : State) : (schMod k f s).fw = s.fw := rfl
@[simp] theorem schMod_watch (k : Nat) (f : Sched → Sched) (s : State) : (schMod k f s).watch = s.watch := rfl
@[simp] theorem schMod_tag (k : Nat) (f : Sched → Sched) (s : State) : (schMod k f s).tag = s.tag := rfl
@[simp] theorem schMod_latch (k : Nat) (f : Sched → Sched) (s : State) : (schMod k f s).latch = s.latch := rfl
@[simp] theorem schMod_free (k : Nat) (f : Sched → Sched) (s : State) : (schMod k f s).free = s.free := rfl
@[simp] theorem schMod_out (k : Nat) (f : Sched → Sched) (s : State) : (schMod k f s).out = s.out := rfl
@[simp] theorem schMod_pending (k : Nat) (f : Sched → Sched) (s : State) : (schMod k f s).pending = s.pending := rfl

/-! sessionMod -/

@[simp] theorem sessionMod_id (k : Nat) (f : Session → Session) (s : State) : (sessionMod k f s).id = s.id := rfl
@[simp] theorem sessionMod_mode (k : Nat) (f : Session → Session) (s : State) : (sessionMod k f s).mode = s.mode := rfl
@[simp] theorem sessionMod_img (k : Nat) (f : Session → Session) (s : State) : (sessionMod k f s).img = s.img := rfl
@[simp] theorem sessionMod_imgAlt (k : Nat) (f : Session → Session) (s : State) : (sessionMod k f s).imgAlt = s.imgAlt := rfl
@[simp] theorem sessionMod_fab (k : Nat) (f : Session → Session) (s : State) : (sessionMod k f s).fab = s.fab := rfl
@[simp] theorem sessionMod_rfx (k : Nat) (f : Session → Session) (s : State) : (sessionMod k f s).rfx = s.rfx := rfl
@[simp] theorem sessionMod_dio (k : Nat) (f : Session → Session) (s : State) : (sessionMod k f s).dio = s.dio := rfl
@[simp] theorem sessionMod_loop (k : Nat) (f : Session → Session) (s : State) : (sessionMod k f s).loop = s.loop := rfl
@[simp] theorem sessionMod_buoy (k : Nat) (f : Session → Session) (s : State) : (sessionMod k f s).buoy = s.buoy := rfl
@[simp] theorem sessionMod_can (k : Nat) (f : Session → Session) (s : State) : (sessionMod k f s).can = s.can := rfl
@[simp] theorem sessionMod_net (k : Nat) (f : Session → Session) (s : State) : (sessionMod k f s).net = s.net := rfl
@[simp] theorem sessionMod_beam (k : Nat) (f : Session → Session) (s : State) : (sessionMod k f s).beam = s.beam := rfl
@[simp] theorem sessionMod_time (k : Nat) (f : Session → Session) (s : State) : (sessionMod k f s).time = s.time := rfl
@[simp] theorem sessionMod_rtc (k : Nat) (f : Session → Session) (s : State) : (sessionMod k f s).rtc = s.rtc := rfl
@[simp] theorem sessionMod_twin (k : Nat) (f : Session → Session) (s : State) : (sessionMod k f s).twin = s.twin := rfl
@[simp] theorem sessionMod_edit (k : Nat) (f : Session → Session) (s : State) : (sessionMod k f s).edit = s.edit := rfl
@[simp] theorem sessionMod_rcd (k : Nat) (f : Session → Session) (s : State) : (sessionMod k f s).rcd = s.rcd := rfl
@[simp] theorem sessionMod_nvm (k : Nat) (f : Session → Session) (s : State) : (sessionMod k f s).nvm = s.nvm := rfl
@[simp] theorem sessionMod_clk (k : Nat) (f : Session → Session) (s : State) : (sessionMod k f s).clk = s.clk := rfl
@[simp] theorem sessionMod_wdg (k : Nat) (f : Session → Session) (s : State) : (sessionMod k f s).wdg = s.wdg := rfl
@[simp] theorem sessionMod_pwr (k : Nat) (f : Session → Session) (s : State) : (sessionMod k f s).pwr = s.pwr := rfl
@[simp] theorem sessionMod_sec (k : Nat) (f : Session → Session) (s : State) : (sessionMod k f s).sec = s.sec := rfl
@[simp] theorem sessionMod_fw (k : Nat) (f : Session → Session) (s : State) : (sessionMod k f s).fw = s.fw := rfl
@[simp] theorem sessionMod_watch (k : Nat) (f : Session → Session) (s : State) : (sessionMod k f s).watch = s.watch := rfl
@[simp] theorem sessionMod_tag (k : Nat) (f : Session → Session) (s : State) : (sessionMod k f s).tag = s.tag := rfl
@[simp] theorem sessionMod_latch (k : Nat) (f : Session → Session) (s : State) : (sessionMod k f s).latch = s.latch := rfl
@[simp] theorem sessionMod_free (k : Nat) (f : Session → Session) (s : State) : (sessionMod k f s).free = s.free := rfl
@[simp] theorem sessionMod_out (k : Nat) (f : Session → Session) (s : State) : (sessionMod k f s).out = s.out := rfl
@[simp] theorem sessionMod_pending (k : Nat) (f : Session → Session) (s : State) : (sessionMod k f s).pending = s.pending := rfl

/-! feedMod -/

@[simp] theorem feedMod_id (b : Bool) (f : Feed → Feed) (s : State) : (feedMod b f s).id = s.id := rfl
@[simp] theorem feedMod_mode (b : Bool) (f : Feed → Feed) (s : State) : (feedMod b f s).mode = s.mode := rfl
@[simp] theorem feedMod_img (b : Bool) (f : Feed → Feed) (s : State) : (feedMod b f s).img = s.img := rfl
@[simp] theorem feedMod_imgAlt (b : Bool) (f : Feed → Feed) (s : State) : (feedMod b f s).imgAlt = s.imgAlt := rfl
@[simp] theorem feedMod_fab (b : Bool) (f : Feed → Feed) (s : State) : (feedMod b f s).fab = s.fab := rfl
@[simp] theorem feedMod_rfx (b : Bool) (f : Feed → Feed) (s : State) : (feedMod b f s).rfx = s.rfx := rfl
@[simp] theorem feedMod_dio (b : Bool) (f : Feed → Feed) (s : State) : (feedMod b f s).dio = s.dio := rfl
@[simp] theorem feedMod_loop (b : Bool) (f : Feed → Feed) (s : State) : (feedMod b f s).loop = s.loop := rfl
@[simp] theorem feedMod_buoy (b : Bool) (f : Feed → Feed) (s : State) : (feedMod b f s).buoy = s.buoy := rfl
@[simp] theorem feedMod_can (b : Bool) (f : Feed → Feed) (s : State) : (feedMod b f s).can = s.can := rfl
@[simp] theorem feedMod_net (b : Bool) (f : Feed → Feed) (s : State) : (feedMod b f s).net = s.net := rfl
@[simp] theorem feedMod_beam (b : Bool) (f : Feed → Feed) (s : State) : (feedMod b f s).beam = s.beam := rfl
@[simp] theorem feedMod_kp (b : Bool) (f : Feed → Feed) (s : State) : (feedMod b f s).kp = s.kp := rfl
@[simp] theorem feedMod_time (b : Bool) (f : Feed → Feed) (s : State) : (feedMod b f s).time = s.time := rfl
@[simp] theorem feedMod_rtc (b : Bool) (f : Feed → Feed) (s : State) : (feedMod b f s).rtc = s.rtc := rfl
@[simp] theorem feedMod_twin (b : Bool) (f : Feed → Feed) (s : State) : (feedMod b f s).twin = s.twin := rfl
@[simp] theorem feedMod_edit (b : Bool) (f : Feed → Feed) (s : State) : (feedMod b f s).edit = s.edit := rfl
@[simp] theorem feedMod_rcd (b : Bool) (f : Feed → Feed) (s : State) : (feedMod b f s).rcd = s.rcd := rfl
@[simp] theorem feedMod_nvm (b : Bool) (f : Feed → Feed) (s : State) : (feedMod b f s).nvm = s.nvm := rfl
@[simp] theorem feedMod_clk (b : Bool) (f : Feed → Feed) (s : State) : (feedMod b f s).clk = s.clk := rfl
@[simp] theorem feedMod_wdg (b : Bool) (f : Feed → Feed) (s : State) : (feedMod b f s).wdg = s.wdg := rfl
@[simp] theorem feedMod_sec (b : Bool) (f : Feed → Feed) (s : State) : (feedMod b f s).sec = s.sec := rfl
@[simp] theorem feedMod_fw (b : Bool) (f : Feed → Feed) (s : State) : (feedMod b f s).fw = s.fw := rfl
@[simp] theorem feedMod_watch (b : Bool) (f : Feed → Feed) (s : State) : (feedMod b f s).watch = s.watch := rfl
@[simp] theorem feedMod_tag (b : Bool) (f : Feed → Feed) (s : State) : (feedMod b f s).tag = s.tag := rfl
@[simp] theorem feedMod_latch (b : Bool) (f : Feed → Feed) (s : State) : (feedMod b f s).latch = s.latch := rfl
@[simp] theorem feedMod_free (b : Bool) (f : Feed → Feed) (s : State) : (feedMod b f s).free = s.free := rfl
@[simp] theorem feedMod_out (b : Bool) (f : Feed → Feed) (s : State) : (feedMod b f s).out = s.out := rfl
@[simp] theorem feedMod_pending (b : Bool) (f : Feed → Feed) (s : State) : (feedMod b f s).pending = s.pending := rfl

/-! tagMod -/

@[simp] theorem tagMod_id (r : Nat) (f : TagRegion → TagRegion) (s : State) : (tagMod r f s).id = s.id := rfl
@[simp] theorem tagMod_mode (r : Nat) (f : TagRegion → TagRegion) (s : State) : (tagMod r f s).mode = s.mode := rfl
@[simp] theorem tagMod_img (r : Nat) (f : TagRegion → TagRegion) (s : State) : (tagMod r f s).img = s.img := rfl
@[simp] theorem tagMod_imgAlt (r : Nat) (f : TagRegion → TagRegion) (s : State) : (tagMod r f s).imgAlt = s.imgAlt := rfl
@[simp] theorem tagMod_fab (r : Nat) (f : TagRegion → TagRegion) (s : State) : (tagMod r f s).fab = s.fab := rfl
@[simp] theorem tagMod_rfx (r : Nat) (f : TagRegion → TagRegion) (s : State) : (tagMod r f s).rfx = s.rfx := rfl
@[simp] theorem tagMod_dio (r : Nat) (f : TagRegion → TagRegion) (s : State) : (tagMod r f s).dio = s.dio := rfl
@[simp] theorem tagMod_loop (r : Nat) (f : TagRegion → TagRegion) (s : State) : (tagMod r f s).loop = s.loop := rfl
@[simp] theorem tagMod_buoy (r : Nat) (f : TagRegion → TagRegion) (s : State) : (tagMod r f s).buoy = s.buoy := rfl
@[simp] theorem tagMod_can (r : Nat) (f : TagRegion → TagRegion) (s : State) : (tagMod r f s).can = s.can := rfl
@[simp] theorem tagMod_net (r : Nat) (f : TagRegion → TagRegion) (s : State) : (tagMod r f s).net = s.net := rfl
@[simp] theorem tagMod_beam (r : Nat) (f : TagRegion → TagRegion) (s : State) : (tagMod r f s).beam = s.beam := rfl
@[simp] theorem tagMod_kp (r : Nat) (f : TagRegion → TagRegion) (s : State) : (tagMod r f s).kp = s.kp := rfl
@[simp] theorem tagMod_time (r : Nat) (f : TagRegion → TagRegion) (s : State) : (tagMod r f s).time = s.time := rfl
@[simp] theorem tagMod_rtc (r : Nat) (f : TagRegion → TagRegion) (s : State) : (tagMod r f s).rtc = s.rtc := rfl
@[simp] theorem tagMod_twin (r : Nat) (f : TagRegion → TagRegion) (s : State) : (tagMod r f s).twin = s.twin := rfl
@[simp] theorem tagMod_edit (r : Nat) (f : TagRegion → TagRegion) (s : State) : (tagMod r f s).edit = s.edit := rfl
@[simp] theorem tagMod_rcd (r : Nat) (f : TagRegion → TagRegion) (s : State) : (tagMod r f s).rcd = s.rcd := rfl
@[simp] theorem tagMod_nvm (r : Nat) (f : TagRegion → TagRegion) (s : State) : (tagMod r f s).nvm = s.nvm := rfl
@[simp] theorem tagMod_clk (r : Nat) (f : TagRegion → TagRegion) (s : State) : (tagMod r f s).clk = s.clk := rfl
@[simp] theorem tagMod_wdg (r : Nat) (f : TagRegion → TagRegion) (s : State) : (tagMod r f s).wdg = s.wdg := rfl
@[simp] theorem tagMod_pwr (r : Nat) (f : TagRegion → TagRegion) (s : State) : (tagMod r f s).pwr = s.pwr := rfl
@[simp] theorem tagMod_sec (r : Nat) (f : TagRegion → TagRegion) (s : State) : (tagMod r f s).sec = s.sec := rfl
@[simp] theorem tagMod_fw (r : Nat) (f : TagRegion → TagRegion) (s : State) : (tagMod r f s).fw = s.fw := rfl
@[simp] theorem tagMod_watch (r : Nat) (f : TagRegion → TagRegion) (s : State) : (tagMod r f s).watch = s.watch := rfl
@[simp] theorem tagMod_latch (r : Nat) (f : TagRegion → TagRegion) (s : State) : (tagMod r f s).latch = s.latch := rfl
@[simp] theorem tagMod_free (r : Nat) (f : TagRegion → TagRegion) (s : State) : (tagMod r f s).free = s.free := rfl
@[simp] theorem tagMod_out (r : Nat) (f : TagRegion → TagRegion) (s : State) : (tagMod r f s).out = s.out := rfl
@[simp] theorem tagMod_pending (r : Nat) (f : TagRegion → TagRegion) (s : State) : (tagMod r f s).pending = s.pending := rfl

/-! twMod -/

@[simp] theorem twMod_id (k : Nat) (f : TwinTask → TwinTask) (s : State) : (twMod k f s).id = s.id := rfl
@[simp] theorem twMod_mode (k : Nat) (f : TwinTask → TwinTask) (s : State) : (twMod k f s).mode = s.mode := rfl
@[simp] theorem twMod_img (k : Nat) (f : TwinTask → TwinTask) (s : State) : (twMod k f s).img = s.img := rfl
@[simp] theorem twMod_imgAlt (k : Nat) (f : TwinTask → TwinTask) (s : State) : (twMod k f s).imgAlt = s.imgAlt := rfl
@[simp] theorem twMod_fab (k : Nat) (f : TwinTask → TwinTask) (s : State) : (twMod k f s).fab = s.fab := rfl
@[simp] theorem twMod_rfx (k : Nat) (f : TwinTask → TwinTask) (s : State) : (twMod k f s).rfx = s.rfx := rfl
@[simp] theorem twMod_dio (k : Nat) (f : TwinTask → TwinTask) (s : State) : (twMod k f s).dio = s.dio := rfl
@[simp] theorem twMod_loop (k : Nat) (f : TwinTask → TwinTask) (s : State) : (twMod k f s).loop = s.loop := rfl
@[simp] theorem twMod_buoy (k : Nat) (f : TwinTask → TwinTask) (s : State) : (twMod k f s).buoy = s.buoy := rfl
@[simp] theorem twMod_can (k : Nat) (f : TwinTask → TwinTask) (s : State) : (twMod k f s).can = s.can := rfl
@[simp] theorem twMod_net (k : Nat) (f : TwinTask → TwinTask) (s : State) : (twMod k f s).net = s.net := rfl
@[simp] theorem twMod_beam (k : Nat) (f : TwinTask → TwinTask) (s : State) : (twMod k f s).beam = s.beam := rfl
@[simp] theorem twMod_kp (k : Nat) (f : TwinTask → TwinTask) (s : State) : (twMod k f s).kp = s.kp := rfl
@[simp] theorem twMod_time (k : Nat) (f : TwinTask → TwinTask) (s : State) : (twMod k f s).time = s.time := rfl
@[simp] theorem twMod_rtc (k : Nat) (f : TwinTask → TwinTask) (s : State) : (twMod k f s).rtc = s.rtc := rfl
@[simp] theorem twMod_edit (k : Nat) (f : TwinTask → TwinTask) (s : State) : (twMod k f s).edit = s.edit := rfl
@[simp] theorem twMod_rcd (k : Nat) (f : TwinTask → TwinTask) (s : State) : (twMod k f s).rcd = s.rcd := rfl
@[simp] theorem twMod_nvm (k : Nat) (f : TwinTask → TwinTask) (s : State) : (twMod k f s).nvm = s.nvm := rfl
@[simp] theorem twMod_clk (k : Nat) (f : TwinTask → TwinTask) (s : State) : (twMod k f s).clk = s.clk := rfl
@[simp] theorem twMod_wdg (k : Nat) (f : TwinTask → TwinTask) (s : State) : (twMod k f s).wdg = s.wdg := rfl
@[simp] theorem twMod_pwr (k : Nat) (f : TwinTask → TwinTask) (s : State) : (twMod k f s).pwr = s.pwr := rfl
@[simp] theorem twMod_sec (k : Nat) (f : TwinTask → TwinTask) (s : State) : (twMod k f s).sec = s.sec := rfl
@[simp] theorem twMod_fw (k : Nat) (f : TwinTask → TwinTask) (s : State) : (twMod k f s).fw = s.fw := rfl
@[simp] theorem twMod_watch (k : Nat) (f : TwinTask → TwinTask) (s : State) : (twMod k f s).watch = s.watch := rfl
@[simp] theorem twMod_tag (k : Nat) (f : TwinTask → TwinTask) (s : State) : (twMod k f s).tag = s.tag := rfl
@[simp] theorem twMod_latch (k : Nat) (f : TwinTask → TwinTask) (s : State) : (twMod k f s).latch = s.latch := rfl
@[simp] theorem twMod_free (k : Nat) (f : TwinTask → TwinTask) (s : State) : (twMod k f s).free = s.free := rfl
@[simp] theorem twMod_out (k : Nat) (f : TwinTask → TwinTask) (s : State) : (twMod k f s).out = s.out := rfl
@[simp] theorem twMod_pending (k : Nat) (f : TwinTask → TwinTask) (s : State) : (twMod k f s).pending = s.pending := rfl

/-! reach -/

@[simp] theorem reach_id (d : Nat) (s : State) : (reach d s).id = s.id := by
  unfold reach; split <;> rfl
@[simp] theorem reach_mode (d : Nat) (s : State) : (reach d s).mode = s.mode := by
  unfold reach; split <;> rfl
@[simp] theorem reach_img (d : Nat) (s : State) : (reach d s).img = s.img := by
  unfold reach; split <;> rfl
@[simp] theorem reach_imgAlt (d : Nat) (s : State) : (reach d s).imgAlt = s.imgAlt := by
  unfold reach; split <;> rfl
@[simp] theorem reach_fab (d : Nat) (s : State) : (reach d s).fab = s.fab := by
  unfold reach; split <;> rfl
@[simp] theorem reach_rfx (d : Nat) (s : State) : (reach d s).rfx = s.rfx := by
  unfold reach; split <;> rfl
@[simp] theorem reach_dio (d : Nat) (s : State) : (reach d s).dio = s.dio := by
  unfold reach; split <;> rfl
@[simp] theorem reach_loop (d : Nat) (s : State) : (reach d s).loop = s.loop := by
  unfold reach; split <;> rfl
@[simp] theorem reach_buoy (d : Nat) (s : State) : (reach d s).buoy = s.buoy := by
  unfold reach; split <;> rfl
@[simp] theorem reach_can (d : Nat) (s : State) : (reach d s).can = s.can := by
  unfold reach; split <;> rfl
@[simp] theorem reach_net (d : Nat) (s : State) : (reach d s).net = s.net := by
  unfold reach; split <;> rfl
@[simp] theorem reach_beam (d : Nat) (s : State) : (reach d s).beam = s.beam := by
  unfold reach; split <;> rfl
@[simp] theorem reach_kp (d : Nat) (s : State) : (reach d s).kp = s.kp := by
  unfold reach; split <;> rfl
@[simp] theorem reach_twin (d : Nat) (s : State) : (reach d s).twin = s.twin := by
  unfold reach; split <;> rfl
@[simp] theorem reach_edit (d : Nat) (s : State) : (reach d s).edit = s.edit := by
  unfold reach; split <;> rfl
@[simp] theorem reach_rcd (d : Nat) (s : State) : (reach d s).rcd = s.rcd := by
  unfold reach; split <;> rfl
@[simp] theorem reach_nvm (d : Nat) (s : State) : (reach d s).nvm = s.nvm := by
  unfold reach; split <;> rfl
@[simp] theorem reach_clk (d : Nat) (s : State) : (reach d s).clk = s.clk := by
  unfold reach; split <;> rfl
@[simp] theorem reach_wdg (d : Nat) (s : State) : (reach d s).wdg = s.wdg := by
  unfold reach; split <;> rfl
@[simp] theorem reach_pwr (d : Nat) (s : State) : (reach d s).pwr = s.pwr := by
  unfold reach; split <;> rfl
@[simp] theorem reach_sec (d : Nat) (s : State) : (reach d s).sec = s.sec := by
  unfold reach; split <;> rfl
@[simp] theorem reach_fw (d : Nat) (s : State) : (reach d s).fw = s.fw := by
  unfold reach; split <;> rfl
@[simp] theorem reach_watch (d : Nat) (s : State) : (reach d s).watch = s.watch := by
  unfold reach; split <;> rfl
@[simp] theorem reach_tag (d : Nat) (s : State) : (reach d s).tag = s.tag := by
  unfold reach; split <;> rfl
@[simp] theorem reach_latch (d : Nat) (s : State) : (reach d s).latch = s.latch := by
  unfold reach; split <;> rfl
@[simp] theorem reach_free (d : Nat) (s : State) : (reach d s).free = s.free := by
  unfold reach; split <;> rfl
@[simp] theorem reach_out (d : Nat) (s : State) : (reach d s).out = s.out := by
  unfold reach; split <;> rfl
@[simp] theorem reach_pending (d : Nat) (s : State) : (reach d s).pending = s.pending := by
  unfold reach; split <;> rfl

/-! sockMod -/

@[simp] theorem sockMod_id (b : Nat) (f : Sock → Sock) (s : State) : (sockMod b f s).id = s.id := by
  unfold sockMod; split <;> rfl
@[simp] theorem sockMod_mode (b : Nat) (f : Sock → Sock) (s : State) : (sockMod b f s).mode = s.mode := by
  unfold sockMod; split <;> rfl
@[simp] theorem sockMod_img (b : Nat) (f : Sock → Sock) (s : State) : (sockMod b f s).img = s.img := by
  unfold sockMod; split <;> rfl
@[simp] theorem sockMod_imgAlt (b : Nat) (f : Sock → Sock) (s : State) : (sockMod b f s).imgAlt = s.imgAlt := by
  unfold sockMod; split <;> rfl
@[simp] theorem sockMod_fab (b : Nat) (f : Sock → Sock) (s : State) : (sockMod b f s).fab = s.fab := by
  unfold sockMod; split <;> rfl
@[simp] theorem sockMod_rfx (b : Nat) (f : Sock → Sock) (s : State) : (sockMod b f s).rfx = s.rfx := by
  unfold sockMod; split <;> rfl
@[simp] theorem sockMod_dio (b : Nat) (f : Sock → Sock) (s : State) : (sockMod b f s).dio = s.dio := by
  unfold sockMod; split <;> rfl
@[simp] theorem sockMod_loop (b : Nat) (f : Sock → Sock) (s : State) : (sockMod b f s).loop = s.loop := by
  unfold sockMod; split <;> rfl
@[simp] theorem sockMod_can (b : Nat) (f : Sock → Sock) (s : State) : (sockMod b f s).can = s.can := by
  unfold sockMod; split <;> rfl
@[simp] theorem sockMod_net (b : Nat) (f : Sock → Sock) (s : State) : (sockMod b f s).net = s.net := by
  unfold sockMod; split <;> rfl
@[simp] theorem sockMod_beam (b : Nat) (f : Sock → Sock) (s : State) : (sockMod b f s).beam = s.beam := by
  unfold sockMod; split <;> rfl
@[simp] theorem sockMod_kp (b : Nat) (f : Sock → Sock) (s : State) : (sockMod b f s).kp = s.kp := by
  unfold sockMod; split <;> rfl
@[simp] theorem sockMod_time (b : Nat) (f : Sock → Sock) (s : State) : (sockMod b f s).time = s.time := by
  unfold sockMod; split <;> rfl
@[simp] theorem sockMod_rtc (b : Nat) (f : Sock → Sock) (s : State) : (sockMod b f s).rtc = s.rtc := by
  unfold sockMod; split <;> rfl
@[simp] theorem sockMod_twin (b : Nat) (f : Sock → Sock) (s : State) : (sockMod b f s).twin = s.twin := by
  unfold sockMod; split <;> rfl
@[simp] theorem sockMod_edit (b : Nat) (f : Sock → Sock) (s : State) : (sockMod b f s).edit = s.edit := by
  unfold sockMod; split <;> rfl
@[simp] theorem sockMod_rcd (b : Nat) (f : Sock → Sock) (s : State) : (sockMod b f s).rcd = s.rcd := by
  unfold sockMod; split <;> rfl
@[simp] theorem sockMod_nvm (b : Nat) (f : Sock → Sock) (s : State) : (sockMod b f s).nvm = s.nvm := by
  unfold sockMod; split <;> rfl
@[simp] theorem sockMod_clk (b : Nat) (f : Sock → Sock) (s : State) : (sockMod b f s).clk = s.clk := by
  unfold sockMod; split <;> rfl
@[simp] theorem sockMod_wdg (b : Nat) (f : Sock → Sock) (s : State) : (sockMod b f s).wdg = s.wdg := by
  unfold sockMod; split <;> rfl
@[simp] theorem sockMod_pwr (b : Nat) (f : Sock → Sock) (s : State) : (sockMod b f s).pwr = s.pwr := by
  unfold sockMod; split <;> rfl
@[simp] theorem sockMod_sec (b : Nat) (f : Sock → Sock) (s : State) : (sockMod b f s).sec = s.sec := by
  unfold sockMod; split <;> rfl
@[simp] theorem sockMod_fw (b : Nat) (f : Sock → Sock) (s : State) : (sockMod b f s).fw = s.fw := by
  unfold sockMod; split <;> rfl
@[simp] theorem sockMod_watch (b : Nat) (f : Sock → Sock) (s : State) : (sockMod b f s).watch = s.watch := by
  unfold sockMod; split <;> rfl
@[simp] theorem sockMod_tag (b : Nat) (f : Sock → Sock) (s : State) : (sockMod b f s).tag = s.tag := by
  unfold sockMod; split <;> rfl
@[simp] theorem sockMod_latch (b : Nat) (f : Sock → Sock) (s : State) : (sockMod b f s).latch = s.latch := by
  unfold sockMod; split <;> rfl
@[simp] theorem sockMod_free (b : Nat) (f : Sock → Sock) (s : State) : (sockMod b f s).free = s.free := by
  unfold sockMod; split <;> rfl
@[simp] theorem sockMod_out (b : Nat) (f : Sock → Sock) (s : State) : (sockMod b f s).out = s.out := by
  unfold sockMod; split <;> rfl
@[simp] theorem sockMod_pending (b : Nat) (f : Sock → Sock) (s : State) : (sockMod b f s).pending = s.pending := by
  unfold sockMod; split <;> rfl

/-! portMod -/

@[simp] theorem portMod_id (n : Nat) (f : CanPort → CanPort) (s : State) : (portMod n f s).id = s.id := by
  unfold portMod; split <;> rfl
@[simp] theorem portMod_mode (n : Nat) (f : CanPort → CanPort) (s : State) : (portMod n f s).mode = s.mode := by
  unfold portMod; split <;> rfl
@[simp] theorem portMod_img (n : Nat) (f : CanPort → CanPort) (s : State) : (portMod n f s).img = s.img := by
  unfold portMod; split <;> rfl
@[simp] theorem portMod_imgAlt (n : Nat) (f : CanPort → CanPort) (s : State) : (portMod n f s).imgAlt = s.imgAlt := by
  unfold portMod; split <;> rfl
@[simp] theorem portMod_fab (n : Nat) (f : CanPort → CanPort) (s : State) : (portMod n f s).fab = s.fab := by
  unfold portMod; split <;> rfl
@[simp] theorem portMod_rfx (n : Nat) (f : CanPort → CanPort) (s : State) : (portMod n f s).rfx = s.rfx := by
  unfold portMod; split <;> rfl
@[simp] theorem portMod_dio (n : Nat) (f : CanPort → CanPort) (s : State) : (portMod n f s).dio = s.dio := by
  unfold portMod; split <;> rfl
@[simp] theorem portMod_loop (n : Nat) (f : CanPort → CanPort) (s : State) : (portMod n f s).loop = s.loop := by
  unfold portMod; split <;> rfl
@[simp] theorem portMod_buoy (n : Nat) (f : CanPort → CanPort) (s : State) : (portMod n f s).buoy = s.buoy := by
  unfold portMod; split <;> rfl
@[simp] theorem portMod_net (n : Nat) (f : CanPort → CanPort) (s : State) : (portMod n f s).net = s.net := by
  unfold portMod; split <;> rfl
@[simp] theorem portMod_beam (n : Nat) (f : CanPort → CanPort) (s : State) : (portMod n f s).beam = s.beam := by
  unfold portMod; split <;> rfl
@[simp] theorem portMod_kp (n : Nat) (f : CanPort → CanPort) (s : State) : (portMod n f s).kp = s.kp := by
  unfold portMod; split <;> rfl
@[simp] theorem portMod_time (n : Nat) (f : CanPort → CanPort) (s : State) : (portMod n f s).time = s.time := by
  unfold portMod; split <;> rfl
@[simp] theorem portMod_rtc (n : Nat) (f : CanPort → CanPort) (s : State) : (portMod n f s).rtc = s.rtc := by
  unfold portMod; split <;> rfl
@[simp] theorem portMod_twin (n : Nat) (f : CanPort → CanPort) (s : State) : (portMod n f s).twin = s.twin := by
  unfold portMod; split <;> rfl
@[simp] theorem portMod_edit (n : Nat) (f : CanPort → CanPort) (s : State) : (portMod n f s).edit = s.edit := by
  unfold portMod; split <;> rfl
@[simp] theorem portMod_rcd (n : Nat) (f : CanPort → CanPort) (s : State) : (portMod n f s).rcd = s.rcd := by
  unfold portMod; split <;> rfl
@[simp] theorem portMod_nvm (n : Nat) (f : CanPort → CanPort) (s : State) : (portMod n f s).nvm = s.nvm := by
  unfold portMod; split <;> rfl
@[simp] theorem portMod_clk (n : Nat) (f : CanPort → CanPort) (s : State) : (portMod n f s).clk = s.clk := by
  unfold portMod; split <;> rfl
@[simp] theorem portMod_wdg (n : Nat) (f : CanPort → CanPort) (s : State) : (portMod n f s).wdg = s.wdg := by
  unfold portMod; split <;> rfl
@[simp] theorem portMod_pwr (n : Nat) (f : CanPort → CanPort) (s : State) : (portMod n f s).pwr = s.pwr := by
  unfold portMod; split <;> rfl
@[simp] theorem portMod_sec (n : Nat) (f : CanPort → CanPort) (s : State) : (portMod n f s).sec = s.sec := by
  unfold portMod; split <;> rfl
@[simp] theorem portMod_fw (n : Nat) (f : CanPort → CanPort) (s : State) : (portMod n f s).fw = s.fw := by
  unfold portMod; split <;> rfl
@[simp] theorem portMod_watch (n : Nat) (f : CanPort → CanPort) (s : State) : (portMod n f s).watch = s.watch := by
  unfold portMod; split <;> rfl
@[simp] theorem portMod_tag (n : Nat) (f : CanPort → CanPort) (s : State) : (portMod n f s).tag = s.tag := by
  unfold portMod; split <;> rfl
@[simp] theorem portMod_latch (n : Nat) (f : CanPort → CanPort) (s : State) : (portMod n f s).latch = s.latch := by
  unfold portMod; split <;> rfl
@[simp] theorem portMod_free (n : Nat) (f : CanPort → CanPort) (s : State) : (portMod n f s).free = s.free := by
  unfold portMod; split <;> rfl
@[simp] theorem portMod_out (n : Nat) (f : CanPort → CanPort) (s : State) : (portMod n f s).out = s.out := by
  unfold portMod; split <;> rfl
@[simp] theorem portMod_pending (n : Nat) (f : CanPort → CanPort) (s : State) : (portMod n f s).pending = s.pending := by
  unfold portMod; split <;> rfl

/-! diMod -/

@[simp] theorem diMod_id (n : Nat) (f : DiCh → DiCh) (s : State) : (diMod n f s).id = s.id := by
  unfold diMod; split <;> rfl
@[simp] theorem diMod_mode (n : Nat) (f : DiCh → DiCh) (s : State) : (diMod n f s).mode = s.mode := by
  unfold diMod; split <;> rfl
@[simp] theorem diMod_img (n : Nat) (f : DiCh → DiCh) (s : State) : (diMod n f s).img = s.img := by
  unfold diMod; split <;> rfl
@[simp] theorem diMod_imgAlt (n : Nat) (f : DiCh → DiCh) (s : State) : (diMod n f s).imgAlt = s.imgAlt := by
  unfold diMod; split <;> rfl
@[simp] theorem diMod_fab (n : Nat) (f : DiCh → DiCh) (s : State) : (diMod n f s).fab = s.fab := by
  unfold diMod; split <;> rfl
@[simp] theorem diMod_rfx (n : Nat) (f : DiCh → DiCh) (s : State) : (diMod n f s).rfx = s.rfx := by
  unfold diMod; split <;> rfl
@[simp] theorem diMod_loop (n : Nat) (f : DiCh → DiCh) (s : State) : (diMod n f s).loop = s.loop := by
  unfold diMod; split <;> rfl
@[simp] theorem diMod_buoy (n : Nat) (f : DiCh → DiCh) (s : State) : (diMod n f s).buoy = s.buoy := by
  unfold diMod; split <;> rfl
@[simp] theorem diMod_can (n : Nat) (f : DiCh → DiCh) (s : State) : (diMod n f s).can = s.can := by
  unfold diMod; split <;> rfl
@[simp] theorem diMod_net (n : Nat) (f : DiCh → DiCh) (s : State) : (diMod n f s).net = s.net := by
  unfold diMod; split <;> rfl
@[simp] theorem diMod_beam (n : Nat) (f : DiCh → DiCh) (s : State) : (diMod n f s).beam = s.beam := by
  unfold diMod; split <;> rfl
@[simp] theorem diMod_kp (n : Nat) (f : DiCh → DiCh) (s : State) : (diMod n f s).kp = s.kp := by
  unfold diMod; split <;> rfl
@[simp] theorem diMod_time (n : Nat) (f : DiCh → DiCh) (s : State) : (diMod n f s).time = s.time := by
  unfold diMod; split <;> rfl
@[simp] theorem diMod_rtc (n : Nat) (f : DiCh → DiCh) (s : State) : (diMod n f s).rtc = s.rtc := by
  unfold diMod; split <;> rfl
@[simp] theorem diMod_twin (n : Nat) (f : DiCh → DiCh) (s : State) : (diMod n f s).twin = s.twin := by
  unfold diMod; split <;> rfl
@[simp] theorem diMod_edit (n : Nat) (f : DiCh → DiCh) (s : State) : (diMod n f s).edit = s.edit := by
  unfold diMod; split <;> rfl
@[simp] theorem diMod_rcd (n : Nat) (f : DiCh → DiCh) (s : State) : (diMod n f s).rcd = s.rcd := by
  unfold diMod; split <;> rfl
@[simp] theorem diMod_nvm (n : Nat) (f : DiCh → DiCh) (s : State) : (diMod n f s).nvm = s.nvm := by
  unfold diMod; split <;> rfl
@[simp] theorem diMod_clk (n : Nat) (f : DiCh → DiCh) (s : State) : (diMod n f s).clk = s.clk := by
  unfold diMod; split <;> rfl
@[simp] theorem diMod_wdg (n : Nat) (f : DiCh → DiCh) (s : State) : (diMod n f s).wdg = s.wdg := by
  unfold diMod; split <;> rfl
@[simp] theorem diMod_pwr (n : Nat) (f : DiCh → DiCh) (s : State) : (diMod n f s).pwr = s.pwr := by
  unfold diMod; split <;> rfl
@[simp] theorem diMod_sec (n : Nat) (f : DiCh → DiCh) (s : State) : (diMod n f s).sec = s.sec := by
  unfold diMod; split <;> rfl
@[simp] theorem diMod_fw (n : Nat) (f : DiCh → DiCh) (s : State) : (diMod n f s).fw = s.fw := by
  unfold diMod; split <;> rfl
@[simp] theorem diMod_watch (n : Nat) (f : DiCh → DiCh) (s : State) : (diMod n f s).watch = s.watch := by
  unfold diMod; split <;> rfl
@[simp] theorem diMod_tag (n : Nat) (f : DiCh → DiCh) (s : State) : (diMod n f s).tag = s.tag := by
  unfold diMod; split <;> rfl
@[simp] theorem diMod_latch (n : Nat) (f : DiCh → DiCh) (s : State) : (diMod n f s).latch = s.latch := by
  unfold diMod; split <;> rfl
@[simp] theorem diMod_free (n : Nat) (f : DiCh → DiCh) (s : State) : (diMod n f s).free = s.free := by
  unfold diMod; split <;> rfl
@[simp] theorem diMod_out (n : Nat) (f : DiCh → DiCh) (s : State) : (diMod n f s).out = s.out := by
  unfold diMod; split <;> rfl
@[simp] theorem diMod_pending (n : Nat) (f : DiCh → DiCh) (s : State) : (diMod n f s).pending = s.pending := by
  unfold diMod; split <;> rfl

/-! srcMod -/

@[simp] theorem srcMod_id (n : Nat) (f : TpSrc → TpSrc) (s : State) : (srcMod n f s).id = s.id := by
  unfold srcMod; split <;> rfl
@[simp] theorem srcMod_mode (n : Nat) (f : TpSrc → TpSrc) (s : State) : (srcMod n f s).mode = s.mode := by
  unfold srcMod; split <;> rfl
@[simp] theorem srcMod_img (n : Nat) (f : TpSrc → TpSrc) (s : State) : (srcMod n f s).img = s.img := by
  unfold srcMod; split <;> rfl
@[simp] theorem srcMod_imgAlt (n : Nat) (f : TpSrc → TpSrc) (s : State) : (srcMod n f s).imgAlt = s.imgAlt := by
  unfold srcMod; split <;> rfl
@[simp] theorem srcMod_fab (n : Nat) (f : TpSrc → TpSrc) (s : State) : (srcMod n f s).fab = s.fab := by
  unfold srcMod; split <;> rfl
@[simp] theorem srcMod_rfx (n : Nat) (f : TpSrc → TpSrc) (s : State) : (srcMod n f s).rfx = s.rfx := by
  unfold srcMod; split <;> rfl
@[simp] theorem srcMod_loop (n : Nat) (f : TpSrc → TpSrc) (s : State) : (srcMod n f s).loop = s.loop := by
  unfold srcMod; split <;> rfl
@[simp] theorem srcMod_buoy (n : Nat) (f : TpSrc → TpSrc) (s : State) : (srcMod n f s).buoy = s.buoy := by
  unfold srcMod; split <;> rfl
@[simp] theorem srcMod_can (n : Nat) (f : TpSrc → TpSrc) (s : State) : (srcMod n f s).can = s.can := by
  unfold srcMod; split <;> rfl
@[simp] theorem srcMod_net (n : Nat) (f : TpSrc → TpSrc) (s : State) : (srcMod n f s).net = s.net := by
  unfold srcMod; split <;> rfl
@[simp] theorem srcMod_beam (n : Nat) (f : TpSrc → TpSrc) (s : State) : (srcMod n f s).beam = s.beam := by
  unfold srcMod; split <;> rfl
@[simp] theorem srcMod_kp (n : Nat) (f : TpSrc → TpSrc) (s : State) : (srcMod n f s).kp = s.kp := by
  unfold srcMod; split <;> rfl
@[simp] theorem srcMod_time (n : Nat) (f : TpSrc → TpSrc) (s : State) : (srcMod n f s).time = s.time := by
  unfold srcMod; split <;> rfl
@[simp] theorem srcMod_rtc (n : Nat) (f : TpSrc → TpSrc) (s : State) : (srcMod n f s).rtc = s.rtc := by
  unfold srcMod; split <;> rfl
@[simp] theorem srcMod_twin (n : Nat) (f : TpSrc → TpSrc) (s : State) : (srcMod n f s).twin = s.twin := by
  unfold srcMod; split <;> rfl
@[simp] theorem srcMod_edit (n : Nat) (f : TpSrc → TpSrc) (s : State) : (srcMod n f s).edit = s.edit := by
  unfold srcMod; split <;> rfl
@[simp] theorem srcMod_rcd (n : Nat) (f : TpSrc → TpSrc) (s : State) : (srcMod n f s).rcd = s.rcd := by
  unfold srcMod; split <;> rfl
@[simp] theorem srcMod_nvm (n : Nat) (f : TpSrc → TpSrc) (s : State) : (srcMod n f s).nvm = s.nvm := by
  unfold srcMod; split <;> rfl
@[simp] theorem srcMod_clk (n : Nat) (f : TpSrc → TpSrc) (s : State) : (srcMod n f s).clk = s.clk := by
  unfold srcMod; split <;> rfl
@[simp] theorem srcMod_wdg (n : Nat) (f : TpSrc → TpSrc) (s : State) : (srcMod n f s).wdg = s.wdg := by
  unfold srcMod; split <;> rfl
@[simp] theorem srcMod_pwr (n : Nat) (f : TpSrc → TpSrc) (s : State) : (srcMod n f s).pwr = s.pwr := by
  unfold srcMod; split <;> rfl
@[simp] theorem srcMod_sec (n : Nat) (f : TpSrc → TpSrc) (s : State) : (srcMod n f s).sec = s.sec := by
  unfold srcMod; split <;> rfl
@[simp] theorem srcMod_fw (n : Nat) (f : TpSrc → TpSrc) (s : State) : (srcMod n f s).fw = s.fw := by
  unfold srcMod; split <;> rfl
@[simp] theorem srcMod_watch (n : Nat) (f : TpSrc → TpSrc) (s : State) : (srcMod n f s).watch = s.watch := by
  unfold srcMod; split <;> rfl
@[simp] theorem srcMod_tag (n : Nat) (f : TpSrc → TpSrc) (s : State) : (srcMod n f s).tag = s.tag := by
  unfold srcMod; split <;> rfl
@[simp] theorem srcMod_latch (n : Nat) (f : TpSrc → TpSrc) (s : State) : (srcMod n f s).latch = s.latch := by
  unfold srcMod; split <;> rfl
@[simp] theorem srcMod_free (n : Nat) (f : TpSrc → TpSrc) (s : State) : (srcMod n f s).free = s.free := by
  unfold srcMod; split <;> rfl
@[simp] theorem srcMod_out (n : Nat) (f : TpSrc → TpSrc) (s : State) : (srcMod n f s).out = s.out := by
  unfold srcMod; split <;> rfl
@[simp] theorem srcMod_pending (n : Nat) (f : TpSrc → TpSrc) (s : State) : (srcMod n f s).pending = s.pending := by
  unfold srcMod; split <;> rfl

/-! dgroupMod -/

@[simp] theorem dgroupMod_id (n : Nat) (f : DiGroup → DiGroup) (s : State) : (dgroupMod n f s).id = s.id := by
  unfold dgroupMod; split <;> rfl
@[simp] theorem dgroupMod_mode (n : Nat) (f : DiGroup → DiGroup) (s : State) : (dgroupMod n f s).mode = s.mode := by
  unfold dgroupMod; split <;> rfl
@[simp] theorem dgroupMod_img (n : Nat) (f : DiGroup → DiGroup) (s : State) : (dgroupMod n f s).img = s.img := by
  unfold dgroupMod; split <;> rfl
@[simp] theorem dgroupMod_imgAlt (n : Nat) (f : DiGroup → DiGroup) (s : State) : (dgroupMod n f s).imgAlt = s.imgAlt := by
  unfold dgroupMod; split <;> rfl
@[simp] theorem dgroupMod_fab (n : Nat) (f : DiGroup → DiGroup) (s : State) : (dgroupMod n f s).fab = s.fab := by
  unfold dgroupMod; split <;> rfl
@[simp] theorem dgroupMod_rfx (n : Nat) (f : DiGroup → DiGroup) (s : State) : (dgroupMod n f s).rfx = s.rfx := by
  unfold dgroupMod; split <;> rfl
@[simp] theorem dgroupMod_loop (n : Nat) (f : DiGroup → DiGroup) (s : State) : (dgroupMod n f s).loop = s.loop := by
  unfold dgroupMod; split <;> rfl
@[simp] theorem dgroupMod_buoy (n : Nat) (f : DiGroup → DiGroup) (s : State) : (dgroupMod n f s).buoy = s.buoy := by
  unfold dgroupMod; split <;> rfl
@[simp] theorem dgroupMod_can (n : Nat) (f : DiGroup → DiGroup) (s : State) : (dgroupMod n f s).can = s.can := by
  unfold dgroupMod; split <;> rfl
@[simp] theorem dgroupMod_net (n : Nat) (f : DiGroup → DiGroup) (s : State) : (dgroupMod n f s).net = s.net := by
  unfold dgroupMod; split <;> rfl
@[simp] theorem dgroupMod_beam (n : Nat) (f : DiGroup → DiGroup) (s : State) : (dgroupMod n f s).beam = s.beam := by
  unfold dgroupMod; split <;> rfl
@[simp] theorem dgroupMod_kp (n : Nat) (f : DiGroup → DiGroup) (s : State) : (dgroupMod n f s).kp = s.kp := by
  unfold dgroupMod; split <;> rfl
@[simp] theorem dgroupMod_time (n : Nat) (f : DiGroup → DiGroup) (s : State) : (dgroupMod n f s).time = s.time := by
  unfold dgroupMod; split <;> rfl
@[simp] theorem dgroupMod_rtc (n : Nat) (f : DiGroup → DiGroup) (s : State) : (dgroupMod n f s).rtc = s.rtc := by
  unfold dgroupMod; split <;> rfl
@[simp] theorem dgroupMod_twin (n : Nat) (f : DiGroup → DiGroup) (s : State) : (dgroupMod n f s).twin = s.twin := by
  unfold dgroupMod; split <;> rfl
@[simp] theorem dgroupMod_edit (n : Nat) (f : DiGroup → DiGroup) (s : State) : (dgroupMod n f s).edit = s.edit := by
  unfold dgroupMod; split <;> rfl
@[simp] theorem dgroupMod_rcd (n : Nat) (f : DiGroup → DiGroup) (s : State) : (dgroupMod n f s).rcd = s.rcd := by
  unfold dgroupMod; split <;> rfl
@[simp] theorem dgroupMod_nvm (n : Nat) (f : DiGroup → DiGroup) (s : State) : (dgroupMod n f s).nvm = s.nvm := by
  unfold dgroupMod; split <;> rfl
@[simp] theorem dgroupMod_clk (n : Nat) (f : DiGroup → DiGroup) (s : State) : (dgroupMod n f s).clk = s.clk := by
  unfold dgroupMod; split <;> rfl
@[simp] theorem dgroupMod_wdg (n : Nat) (f : DiGroup → DiGroup) (s : State) : (dgroupMod n f s).wdg = s.wdg := by
  unfold dgroupMod; split <;> rfl
@[simp] theorem dgroupMod_pwr (n : Nat) (f : DiGroup → DiGroup) (s : State) : (dgroupMod n f s).pwr = s.pwr := by
  unfold dgroupMod; split <;> rfl
@[simp] theorem dgroupMod_sec (n : Nat) (f : DiGroup → DiGroup) (s : State) : (dgroupMod n f s).sec = s.sec := by
  unfold dgroupMod; split <;> rfl
@[simp] theorem dgroupMod_fw (n : Nat) (f : DiGroup → DiGroup) (s : State) : (dgroupMod n f s).fw = s.fw := by
  unfold dgroupMod; split <;> rfl
@[simp] theorem dgroupMod_watch (n : Nat) (f : DiGroup → DiGroup) (s : State) : (dgroupMod n f s).watch = s.watch := by
  unfold dgroupMod; split <;> rfl
@[simp] theorem dgroupMod_tag (n : Nat) (f : DiGroup → DiGroup) (s : State) : (dgroupMod n f s).tag = s.tag := by
  unfold dgroupMod; split <;> rfl
@[simp] theorem dgroupMod_latch (n : Nat) (f : DiGroup → DiGroup) (s : State) : (dgroupMod n f s).latch = s.latch := by
  unfold dgroupMod; split <;> rfl
@[simp] theorem dgroupMod_free (n : Nat) (f : DiGroup → DiGroup) (s : State) : (dgroupMod n f s).free = s.free := by
  unfold dgroupMod; split <;> rfl
@[simp] theorem dgroupMod_out (n : Nat) (f : DiGroup → DiGroup) (s : State) : (dgroupMod n f s).out = s.out := by
  unfold dgroupMod; split <;> rfl
@[simp] theorem dgroupMod_pending (n : Nat) (f : DiGroup → DiGroup) (s : State) : (dgroupMod n f s).pending = s.pending := by
  unfold dgroupMod; split <;> rfl

/-! dgrpMod -/

@[simp] theorem dgrpMod_id (n : Nat) (f : DoGroup → DoGroup) (s : State) : (dgrpMod n f s).id = s.id := by
  unfold dgrpMod; split <;> rfl
@[simp] theorem dgrpMod_mode (n : Nat) (f : DoGroup → DoGroup) (s : State) : (dgrpMod n f s).mode = s.mode := by
  unfold dgrpMod; split <;> rfl
@[simp] theorem dgrpMod_img (n : Nat) (f : DoGroup → DoGroup) (s : State) : (dgrpMod n f s).img = s.img := by
  unfold dgrpMod; split <;> rfl
@[simp] theorem dgrpMod_imgAlt (n : Nat) (f : DoGroup → DoGroup) (s : State) : (dgrpMod n f s).imgAlt = s.imgAlt := by
  unfold dgrpMod; split <;> rfl
@[simp] theorem dgrpMod_fab (n : Nat) (f : DoGroup → DoGroup) (s : State) : (dgrpMod n f s).fab = s.fab := by
  unfold dgrpMod; split <;> rfl
@[simp] theorem dgrpMod_rfx (n : Nat) (f : DoGroup → DoGroup) (s : State) : (dgrpMod n f s).rfx = s.rfx := by
  unfold dgrpMod; split <;> rfl
@[simp] theorem dgrpMod_loop (n : Nat) (f : DoGroup → DoGroup) (s : State) : (dgrpMod n f s).loop = s.loop := by
  unfold dgrpMod; split <;> rfl
@[simp] theorem dgrpMod_buoy (n : Nat) (f : DoGroup → DoGroup) (s : State) : (dgrpMod n f s).buoy = s.buoy := by
  unfold dgrpMod; split <;> rfl
@[simp] theorem dgrpMod_can (n : Nat) (f : DoGroup → DoGroup) (s : State) : (dgrpMod n f s).can = s.can := by
  unfold dgrpMod; split <;> rfl
@[simp] theorem dgrpMod_net (n : Nat) (f : DoGroup → DoGroup) (s : State) : (dgrpMod n f s).net = s.net := by
  unfold dgrpMod; split <;> rfl
@[simp] theorem dgrpMod_beam (n : Nat) (f : DoGroup → DoGroup) (s : State) : (dgrpMod n f s).beam = s.beam := by
  unfold dgrpMod; split <;> rfl
@[simp] theorem dgrpMod_kp (n : Nat) (f : DoGroup → DoGroup) (s : State) : (dgrpMod n f s).kp = s.kp := by
  unfold dgrpMod; split <;> rfl
@[simp] theorem dgrpMod_time (n : Nat) (f : DoGroup → DoGroup) (s : State) : (dgrpMod n f s).time = s.time := by
  unfold dgrpMod; split <;> rfl
@[simp] theorem dgrpMod_rtc (n : Nat) (f : DoGroup → DoGroup) (s : State) : (dgrpMod n f s).rtc = s.rtc := by
  unfold dgrpMod; split <;> rfl
@[simp] theorem dgrpMod_twin (n : Nat) (f : DoGroup → DoGroup) (s : State) : (dgrpMod n f s).twin = s.twin := by
  unfold dgrpMod; split <;> rfl
@[simp] theorem dgrpMod_edit (n : Nat) (f : DoGroup → DoGroup) (s : State) : (dgrpMod n f s).edit = s.edit := by
  unfold dgrpMod; split <;> rfl
@[simp] theorem dgrpMod_rcd (n : Nat) (f : DoGroup → DoGroup) (s : State) : (dgrpMod n f s).rcd = s.rcd := by
  unfold dgrpMod; split <;> rfl
@[simp] theorem dgrpMod_nvm (n : Nat) (f : DoGroup → DoGroup) (s : State) : (dgrpMod n f s).nvm = s.nvm := by
  unfold dgrpMod; split <;> rfl
@[simp] theorem dgrpMod_clk (n : Nat) (f : DoGroup → DoGroup) (s : State) : (dgrpMod n f s).clk = s.clk := by
  unfold dgrpMod; split <;> rfl
@[simp] theorem dgrpMod_wdg (n : Nat) (f : DoGroup → DoGroup) (s : State) : (dgrpMod n f s).wdg = s.wdg := by
  unfold dgrpMod; split <;> rfl
@[simp] theorem dgrpMod_pwr (n : Nat) (f : DoGroup → DoGroup) (s : State) : (dgrpMod n f s).pwr = s.pwr := by
  unfold dgrpMod; split <;> rfl
@[simp] theorem dgrpMod_sec (n : Nat) (f : DoGroup → DoGroup) (s : State) : (dgrpMod n f s).sec = s.sec := by
  unfold dgrpMod; split <;> rfl
@[simp] theorem dgrpMod_fw (n : Nat) (f : DoGroup → DoGroup) (s : State) : (dgrpMod n f s).fw = s.fw := by
  unfold dgrpMod; split <;> rfl
@[simp] theorem dgrpMod_watch (n : Nat) (f : DoGroup → DoGroup) (s : State) : (dgrpMod n f s).watch = s.watch := by
  unfold dgrpMod; split <;> rfl
@[simp] theorem dgrpMod_tag (n : Nat) (f : DoGroup → DoGroup) (s : State) : (dgrpMod n f s).tag = s.tag := by
  unfold dgrpMod; split <;> rfl
@[simp] theorem dgrpMod_latch (n : Nat) (f : DoGroup → DoGroup) (s : State) : (dgrpMod n f s).latch = s.latch := by
  unfold dgrpMod; split <;> rfl
@[simp] theorem dgrpMod_free (n : Nat) (f : DoGroup → DoGroup) (s : State) : (dgrpMod n f s).free = s.free := by
  unfold dgrpMod; split <;> rfl
@[simp] theorem dgrpMod_out (n : Nat) (f : DoGroup → DoGroup) (s : State) : (dgrpMod n f s).out = s.out := by
  unfold dgrpMod; split <;> rfl
@[simp] theorem dgrpMod_pending (n : Nat) (f : DoGroup → DoGroup) (s : State) : (dgrpMod n f s).pending = s.pending := by
  unfold dgrpMod; split <;> rfl

/-! dchMod -/

@[simp] theorem dchMod_id (n : Nat) (f : DoCh → DoCh) (s : State) : (dchMod n f s).id = s.id := by
  unfold dchMod; split <;> rfl
@[simp] theorem dchMod_mode (n : Nat) (f : DoCh → DoCh) (s : State) : (dchMod n f s).mode = s.mode := by
  unfold dchMod; split <;> rfl
@[simp] theorem dchMod_img (n : Nat) (f : DoCh → DoCh) (s : State) : (dchMod n f s).img = s.img := by
  unfold dchMod; split <;> rfl
@[simp] theorem dchMod_imgAlt (n : Nat) (f : DoCh → DoCh) (s : State) : (dchMod n f s).imgAlt = s.imgAlt := by
  unfold dchMod; split <;> rfl
@[simp] theorem dchMod_fab (n : Nat) (f : DoCh → DoCh) (s : State) : (dchMod n f s).fab = s.fab := by
  unfold dchMod; split <;> rfl
@[simp] theorem dchMod_rfx (n : Nat) (f : DoCh → DoCh) (s : State) : (dchMod n f s).rfx = s.rfx := by
  unfold dchMod; split <;> rfl
@[simp] theorem dchMod_loop (n : Nat) (f : DoCh → DoCh) (s : State) : (dchMod n f s).loop = s.loop := by
  unfold dchMod; split <;> rfl
@[simp] theorem dchMod_buoy (n : Nat) (f : DoCh → DoCh) (s : State) : (dchMod n f s).buoy = s.buoy := by
  unfold dchMod; split <;> rfl
@[simp] theorem dchMod_can (n : Nat) (f : DoCh → DoCh) (s : State) : (dchMod n f s).can = s.can := by
  unfold dchMod; split <;> rfl
@[simp] theorem dchMod_net (n : Nat) (f : DoCh → DoCh) (s : State) : (dchMod n f s).net = s.net := by
  unfold dchMod; split <;> rfl
@[simp] theorem dchMod_beam (n : Nat) (f : DoCh → DoCh) (s : State) : (dchMod n f s).beam = s.beam := by
  unfold dchMod; split <;> rfl
@[simp] theorem dchMod_kp (n : Nat) (f : DoCh → DoCh) (s : State) : (dchMod n f s).kp = s.kp := by
  unfold dchMod; split <;> rfl
@[simp] theorem dchMod_time (n : Nat) (f : DoCh → DoCh) (s : State) : (dchMod n f s).time = s.time := by
  unfold dchMod; split <;> rfl
@[simp] theorem dchMod_rtc (n : Nat) (f : DoCh → DoCh) (s : State) : (dchMod n f s).rtc = s.rtc := by
  unfold dchMod; split <;> rfl
@[simp] theorem dchMod_twin (n : Nat) (f : DoCh → DoCh) (s : State) : (dchMod n f s).twin = s.twin := by
  unfold dchMod; split <;> rfl
@[simp] theorem dchMod_edit (n : Nat) (f : DoCh → DoCh) (s : State) : (dchMod n f s).edit = s.edit := by
  unfold dchMod; split <;> rfl
@[simp] theorem dchMod_rcd (n : Nat) (f : DoCh → DoCh) (s : State) : (dchMod n f s).rcd = s.rcd := by
  unfold dchMod; split <;> rfl
@[simp] theorem dchMod_nvm (n : Nat) (f : DoCh → DoCh) (s : State) : (dchMod n f s).nvm = s.nvm := by
  unfold dchMod; split <;> rfl
@[simp] theorem dchMod_clk (n : Nat) (f : DoCh → DoCh) (s : State) : (dchMod n f s).clk = s.clk := by
  unfold dchMod; split <;> rfl
@[simp] theorem dchMod_wdg (n : Nat) (f : DoCh → DoCh) (s : State) : (dchMod n f s).wdg = s.wdg := by
  unfold dchMod; split <;> rfl
@[simp] theorem dchMod_pwr (n : Nat) (f : DoCh → DoCh) (s : State) : (dchMod n f s).pwr = s.pwr := by
  unfold dchMod; split <;> rfl
@[simp] theorem dchMod_sec (n : Nat) (f : DoCh → DoCh) (s : State) : (dchMod n f s).sec = s.sec := by
  unfold dchMod; split <;> rfl
@[simp] theorem dchMod_fw (n : Nat) (f : DoCh → DoCh) (s : State) : (dchMod n f s).fw = s.fw := by
  unfold dchMod; split <;> rfl
@[simp] theorem dchMod_watch (n : Nat) (f : DoCh → DoCh) (s : State) : (dchMod n f s).watch = s.watch := by
  unfold dchMod; split <;> rfl
@[simp] theorem dchMod_tag (n : Nat) (f : DoCh → DoCh) (s : State) : (dchMod n f s).tag = s.tag := by
  unfold dchMod; split <;> rfl
@[simp] theorem dchMod_latch (n : Nat) (f : DoCh → DoCh) (s : State) : (dchMod n f s).latch = s.latch := by
  unfold dchMod; split <;> rfl
@[simp] theorem dchMod_free (n : Nat) (f : DoCh → DoCh) (s : State) : (dchMod n f s).free = s.free := by
  unfold dchMod; split <;> rfl
@[simp] theorem dchMod_out (n : Nat) (f : DoCh → DoCh) (s : State) : (dchMod n f s).out = s.out := by
  unfold dchMod; split <;> rfl
@[simp] theorem dchMod_pending (n : Nat) (f : DoCh → DoCh) (s : State) : (dchMod n f s).pending = s.pending := by
  unfold dchMod; split <;> rfl

/-! pairMod -/

@[simp] theorem pairMod_id (n : Nat) (f : Pair → Pair) (s : State) : (pairMod n f s).id = s.id := by
  unfold pairMod; split <;> rfl
@[simp] theorem pairMod_mode (n : Nat) (f : Pair → Pair) (s : State) : (pairMod n f s).mode = s.mode := by
  unfold pairMod; split <;> rfl
@[simp] theorem pairMod_img (n : Nat) (f : Pair → Pair) (s : State) : (pairMod n f s).img = s.img := by
  unfold pairMod; split <;> rfl
@[simp] theorem pairMod_imgAlt (n : Nat) (f : Pair → Pair) (s : State) : (pairMod n f s).imgAlt = s.imgAlt := by
  unfold pairMod; split <;> rfl
@[simp] theorem pairMod_fab (n : Nat) (f : Pair → Pair) (s : State) : (pairMod n f s).fab = s.fab := by
  unfold pairMod; split <;> rfl
@[simp] theorem pairMod_rfx (n : Nat) (f : Pair → Pair) (s : State) : (pairMod n f s).rfx = s.rfx := by
  unfold pairMod; split <;> rfl
@[simp] theorem pairMod_loop (n : Nat) (f : Pair → Pair) (s : State) : (pairMod n f s).loop = s.loop := by
  unfold pairMod; split <;> rfl
@[simp] theorem pairMod_buoy (n : Nat) (f : Pair → Pair) (s : State) : (pairMod n f s).buoy = s.buoy := by
  unfold pairMod; split <;> rfl
@[simp] theorem pairMod_can (n : Nat) (f : Pair → Pair) (s : State) : (pairMod n f s).can = s.can := by
  unfold pairMod; split <;> rfl
@[simp] theorem pairMod_net (n : Nat) (f : Pair → Pair) (s : State) : (pairMod n f s).net = s.net := by
  unfold pairMod; split <;> rfl
@[simp] theorem pairMod_beam (n : Nat) (f : Pair → Pair) (s : State) : (pairMod n f s).beam = s.beam := by
  unfold pairMod; split <;> rfl
@[simp] theorem pairMod_kp (n : Nat) (f : Pair → Pair) (s : State) : (pairMod n f s).kp = s.kp := by
  unfold pairMod; split <;> rfl
@[simp] theorem pairMod_time (n : Nat) (f : Pair → Pair) (s : State) : (pairMod n f s).time = s.time := by
  unfold pairMod; split <;> rfl
@[simp] theorem pairMod_rtc (n : Nat) (f : Pair → Pair) (s : State) : (pairMod n f s).rtc = s.rtc := by
  unfold pairMod; split <;> rfl
@[simp] theorem pairMod_twin (n : Nat) (f : Pair → Pair) (s : State) : (pairMod n f s).twin = s.twin := by
  unfold pairMod; split <;> rfl
@[simp] theorem pairMod_edit (n : Nat) (f : Pair → Pair) (s : State) : (pairMod n f s).edit = s.edit := by
  unfold pairMod; split <;> rfl
@[simp] theorem pairMod_rcd (n : Nat) (f : Pair → Pair) (s : State) : (pairMod n f s).rcd = s.rcd := by
  unfold pairMod; split <;> rfl
@[simp] theorem pairMod_nvm (n : Nat) (f : Pair → Pair) (s : State) : (pairMod n f s).nvm = s.nvm := by
  unfold pairMod; split <;> rfl
@[simp] theorem pairMod_clk (n : Nat) (f : Pair → Pair) (s : State) : (pairMod n f s).clk = s.clk := by
  unfold pairMod; split <;> rfl
@[simp] theorem pairMod_wdg (n : Nat) (f : Pair → Pair) (s : State) : (pairMod n f s).wdg = s.wdg := by
  unfold pairMod; split <;> rfl
@[simp] theorem pairMod_pwr (n : Nat) (f : Pair → Pair) (s : State) : (pairMod n f s).pwr = s.pwr := by
  unfold pairMod; split <;> rfl
@[simp] theorem pairMod_sec (n : Nat) (f : Pair → Pair) (s : State) : (pairMod n f s).sec = s.sec := by
  unfold pairMod; split <;> rfl
@[simp] theorem pairMod_fw (n : Nat) (f : Pair → Pair) (s : State) : (pairMod n f s).fw = s.fw := by
  unfold pairMod; split <;> rfl
@[simp] theorem pairMod_watch (n : Nat) (f : Pair → Pair) (s : State) : (pairMod n f s).watch = s.watch := by
  unfold pairMod; split <;> rfl
@[simp] theorem pairMod_tag (n : Nat) (f : Pair → Pair) (s : State) : (pairMod n f s).tag = s.tag := by
  unfold pairMod; split <;> rfl
@[simp] theorem pairMod_latch (n : Nat) (f : Pair → Pair) (s : State) : (pairMod n f s).latch = s.latch := by
  unfold pairMod; split <;> rfl
@[simp] theorem pairMod_free (n : Nat) (f : Pair → Pair) (s : State) : (pairMod n f s).free = s.free := by
  unfold pairMod; split <;> rfl
@[simp] theorem pairMod_out (n : Nat) (f : Pair → Pair) (s : State) : (pairMod n f s).out = s.out := by
  unfold pairMod; split <;> rfl
@[simp] theorem pairMod_pending (n : Nat) (f : Pair → Pair) (s : State) : (pairMod n f s).pending = s.pending := by
  unfold pairMod; split <;> rfl

/-! liMod -/

@[simp] theorem liMod_id (n : Nat) (f : LoopIn → LoopIn) (s : State) : (liMod n f s).id = s.id := by
  unfold liMod; split <;> rfl
@[simp] theorem liMod_mode (n : Nat) (f : LoopIn → LoopIn) (s : State) : (liMod n f s).mode = s.mode := by
  unfold liMod; split <;> rfl
@[simp] theorem liMod_img (n : Nat) (f : LoopIn → LoopIn) (s : State) : (liMod n f s).img = s.img := by
  unfold liMod; split <;> rfl
@[simp] theorem liMod_imgAlt (n : Nat) (f : LoopIn → LoopIn) (s : State) : (liMod n f s).imgAlt = s.imgAlt := by
  unfold liMod; split <;> rfl
@[simp] theorem liMod_fab (n : Nat) (f : LoopIn → LoopIn) (s : State) : (liMod n f s).fab = s.fab := by
  unfold liMod; split <;> rfl
@[simp] theorem liMod_rfx (n : Nat) (f : LoopIn → LoopIn) (s : State) : (liMod n f s).rfx = s.rfx := by
  unfold liMod; split <;> rfl
@[simp] theorem liMod_dio (n : Nat) (f : LoopIn → LoopIn) (s : State) : (liMod n f s).dio = s.dio := by
  unfold liMod; split <;> rfl
@[simp] theorem liMod_buoy (n : Nat) (f : LoopIn → LoopIn) (s : State) : (liMod n f s).buoy = s.buoy := by
  unfold liMod; split <;> rfl
@[simp] theorem liMod_can (n : Nat) (f : LoopIn → LoopIn) (s : State) : (liMod n f s).can = s.can := by
  unfold liMod; split <;> rfl
@[simp] theorem liMod_net (n : Nat) (f : LoopIn → LoopIn) (s : State) : (liMod n f s).net = s.net := by
  unfold liMod; split <;> rfl
@[simp] theorem liMod_beam (n : Nat) (f : LoopIn → LoopIn) (s : State) : (liMod n f s).beam = s.beam := by
  unfold liMod; split <;> rfl
@[simp] theorem liMod_kp (n : Nat) (f : LoopIn → LoopIn) (s : State) : (liMod n f s).kp = s.kp := by
  unfold liMod; split <;> rfl
@[simp] theorem liMod_time (n : Nat) (f : LoopIn → LoopIn) (s : State) : (liMod n f s).time = s.time := by
  unfold liMod; split <;> rfl
@[simp] theorem liMod_rtc (n : Nat) (f : LoopIn → LoopIn) (s : State) : (liMod n f s).rtc = s.rtc := by
  unfold liMod; split <;> rfl
@[simp] theorem liMod_twin (n : Nat) (f : LoopIn → LoopIn) (s : State) : (liMod n f s).twin = s.twin := by
  unfold liMod; split <;> rfl
@[simp] theorem liMod_edit (n : Nat) (f : LoopIn → LoopIn) (s : State) : (liMod n f s).edit = s.edit := by
  unfold liMod; split <;> rfl
@[simp] theorem liMod_rcd (n : Nat) (f : LoopIn → LoopIn) (s : State) : (liMod n f s).rcd = s.rcd := by
  unfold liMod; split <;> rfl
@[simp] theorem liMod_nvm (n : Nat) (f : LoopIn → LoopIn) (s : State) : (liMod n f s).nvm = s.nvm := by
  unfold liMod; split <;> rfl
@[simp] theorem liMod_clk (n : Nat) (f : LoopIn → LoopIn) (s : State) : (liMod n f s).clk = s.clk := by
  unfold liMod; split <;> rfl
@[simp] theorem liMod_wdg (n : Nat) (f : LoopIn → LoopIn) (s : State) : (liMod n f s).wdg = s.wdg := by
  unfold liMod; split <;> rfl
@[simp] theorem liMod_pwr (n : Nat) (f : LoopIn → LoopIn) (s : State) : (liMod n f s).pwr = s.pwr := by
  unfold liMod; split <;> rfl
@[simp] theorem liMod_sec (n : Nat) (f : LoopIn → LoopIn) (s : State) : (liMod n f s).sec = s.sec := by
  unfold liMod; split <;> rfl
@[simp] theorem liMod_fw (n : Nat) (f : LoopIn → LoopIn) (s : State) : (liMod n f s).fw = s.fw := by
  unfold liMod; split <;> rfl
@[simp] theorem liMod_watch (n : Nat) (f : LoopIn → LoopIn) (s : State) : (liMod n f s).watch = s.watch := by
  unfold liMod; split <;> rfl
@[simp] theorem liMod_tag (n : Nat) (f : LoopIn → LoopIn) (s : State) : (liMod n f s).tag = s.tag := by
  unfold liMod; split <;> rfl
@[simp] theorem liMod_latch (n : Nat) (f : LoopIn → LoopIn) (s : State) : (liMod n f s).latch = s.latch := by
  unfold liMod; split <;> rfl
@[simp] theorem liMod_free (n : Nat) (f : LoopIn → LoopIn) (s : State) : (liMod n f s).free = s.free := by
  unfold liMod; split <;> rfl
@[simp] theorem liMod_out (n : Nat) (f : LoopIn → LoopIn) (s : State) : (liMod n f s).out = s.out := by
  unfold liMod; split <;> rfl
@[simp] theorem liMod_pending (n : Nat) (f : LoopIn → LoopIn) (s : State) : (liMod n f s).pending = s.pending := by
  unfold liMod; split <;> rfl

/-! loMod -/

@[simp] theorem loMod_id (n : Nat) (f : LoopOut → LoopOut) (s : State) : (loMod n f s).id = s.id := by
  unfold loMod; split <;> rfl
@[simp] theorem loMod_mode (n : Nat) (f : LoopOut → LoopOut) (s : State) : (loMod n f s).mode = s.mode := by
  unfold loMod; split <;> rfl
@[simp] theorem loMod_img (n : Nat) (f : LoopOut → LoopOut) (s : State) : (loMod n f s).img = s.img := by
  unfold loMod; split <;> rfl
@[simp] theorem loMod_imgAlt (n : Nat) (f : LoopOut → LoopOut) (s : State) : (loMod n f s).imgAlt = s.imgAlt := by
  unfold loMod; split <;> rfl
@[simp] theorem loMod_fab (n : Nat) (f : LoopOut → LoopOut) (s : State) : (loMod n f s).fab = s.fab := by
  unfold loMod; split <;> rfl
@[simp] theorem loMod_rfx (n : Nat) (f : LoopOut → LoopOut) (s : State) : (loMod n f s).rfx = s.rfx := by
  unfold loMod; split <;> rfl
@[simp] theorem loMod_dio (n : Nat) (f : LoopOut → LoopOut) (s : State) : (loMod n f s).dio = s.dio := by
  unfold loMod; split <;> rfl
@[simp] theorem loMod_buoy (n : Nat) (f : LoopOut → LoopOut) (s : State) : (loMod n f s).buoy = s.buoy := by
  unfold loMod; split <;> rfl
@[simp] theorem loMod_can (n : Nat) (f : LoopOut → LoopOut) (s : State) : (loMod n f s).can = s.can := by
  unfold loMod; split <;> rfl
@[simp] theorem loMod_net (n : Nat) (f : LoopOut → LoopOut) (s : State) : (loMod n f s).net = s.net := by
  unfold loMod; split <;> rfl
@[simp] theorem loMod_beam (n : Nat) (f : LoopOut → LoopOut) (s : State) : (loMod n f s).beam = s.beam := by
  unfold loMod; split <;> rfl
@[simp] theorem loMod_kp (n : Nat) (f : LoopOut → LoopOut) (s : State) : (loMod n f s).kp = s.kp := by
  unfold loMod; split <;> rfl
@[simp] theorem loMod_time (n : Nat) (f : LoopOut → LoopOut) (s : State) : (loMod n f s).time = s.time := by
  unfold loMod; split <;> rfl
@[simp] theorem loMod_rtc (n : Nat) (f : LoopOut → LoopOut) (s : State) : (loMod n f s).rtc = s.rtc := by
  unfold loMod; split <;> rfl
@[simp] theorem loMod_twin (n : Nat) (f : LoopOut → LoopOut) (s : State) : (loMod n f s).twin = s.twin := by
  unfold loMod; split <;> rfl
@[simp] theorem loMod_edit (n : Nat) (f : LoopOut → LoopOut) (s : State) : (loMod n f s).edit = s.edit := by
  unfold loMod; split <;> rfl
@[simp] theorem loMod_rcd (n : Nat) (f : LoopOut → LoopOut) (s : State) : (loMod n f s).rcd = s.rcd := by
  unfold loMod; split <;> rfl
@[simp] theorem loMod_nvm (n : Nat) (f : LoopOut → LoopOut) (s : State) : (loMod n f s).nvm = s.nvm := by
  unfold loMod; split <;> rfl
@[simp] theorem loMod_clk (n : Nat) (f : LoopOut → LoopOut) (s : State) : (loMod n f s).clk = s.clk := by
  unfold loMod; split <;> rfl
@[simp] theorem loMod_wdg (n : Nat) (f : LoopOut → LoopOut) (s : State) : (loMod n f s).wdg = s.wdg := by
  unfold loMod; split <;> rfl
@[simp] theorem loMod_pwr (n : Nat) (f : LoopOut → LoopOut) (s : State) : (loMod n f s).pwr = s.pwr := by
  unfold loMod; split <;> rfl
@[simp] theorem loMod_sec (n : Nat) (f : LoopOut → LoopOut) (s : State) : (loMod n f s).sec = s.sec := by
  unfold loMod; split <;> rfl
@[simp] theorem loMod_fw (n : Nat) (f : LoopOut → LoopOut) (s : State) : (loMod n f s).fw = s.fw := by
  unfold loMod; split <;> rfl
@[simp] theorem loMod_watch (n : Nat) (f : LoopOut → LoopOut) (s : State) : (loMod n f s).watch = s.watch := by
  unfold loMod; split <;> rfl
@[simp] theorem loMod_tag (n : Nat) (f : LoopOut → LoopOut) (s : State) : (loMod n f s).tag = s.tag := by
  unfold loMod; split <;> rfl
@[simp] theorem loMod_latch (n : Nat) (f : LoopOut → LoopOut) (s : State) : (loMod n f s).latch = s.latch := by
  unfold loMod; split <;> rfl
@[simp] theorem loMod_free (n : Nat) (f : LoopOut → LoopOut) (s : State) : (loMod n f s).free = s.free := by
  unfold loMod; split <;> rfl
@[simp] theorem loMod_out (n : Nat) (f : LoopOut → LoopOut) (s : State) : (loMod n f s).out = s.out := by
  unfold loMod; split <;> rfl
@[simp] theorem loMod_pending (n : Nat) (f : LoopOut → LoopOut) (s : State) : (loMod n f s).pending = s.pending := by
  unfold loMod; split <;> rfl

/-! hartMod -/

@[simp] theorem hartMod_id (n : Nat) (f : Hart → Hart) (s : State) : (hartMod n f s).id = s.id := by
  unfold hartMod; split <;> rfl
@[simp] theorem hartMod_mode (n : Nat) (f : Hart → Hart) (s : State) : (hartMod n f s).mode = s.mode := by
  unfold hartMod; split <;> rfl
@[simp] theorem hartMod_img (n : Nat) (f : Hart → Hart) (s : State) : (hartMod n f s).img = s.img := by
  unfold hartMod; split <;> rfl
@[simp] theorem hartMod_imgAlt (n : Nat) (f : Hart → Hart) (s : State) : (hartMod n f s).imgAlt = s.imgAlt := by
  unfold hartMod; split <;> rfl
@[simp] theorem hartMod_fab (n : Nat) (f : Hart → Hart) (s : State) : (hartMod n f s).fab = s.fab := by
  unfold hartMod; split <;> rfl
@[simp] theorem hartMod_rfx (n : Nat) (f : Hart → Hart) (s : State) : (hartMod n f s).rfx = s.rfx := by
  unfold hartMod; split <;> rfl
@[simp] theorem hartMod_dio (n : Nat) (f : Hart → Hart) (s : State) : (hartMod n f s).dio = s.dio := by
  unfold hartMod; split <;> rfl
@[simp] theorem hartMod_buoy (n : Nat) (f : Hart → Hart) (s : State) : (hartMod n f s).buoy = s.buoy := by
  unfold hartMod; split <;> rfl
@[simp] theorem hartMod_can (n : Nat) (f : Hart → Hart) (s : State) : (hartMod n f s).can = s.can := by
  unfold hartMod; split <;> rfl
@[simp] theorem hartMod_net (n : Nat) (f : Hart → Hart) (s : State) : (hartMod n f s).net = s.net := by
  unfold hartMod; split <;> rfl
@[simp] theorem hartMod_beam (n : Nat) (f : Hart → Hart) (s : State) : (hartMod n f s).beam = s.beam := by
  unfold hartMod; split <;> rfl
@[simp] theorem hartMod_kp (n : Nat) (f : Hart → Hart) (s : State) : (hartMod n f s).kp = s.kp := by
  unfold hartMod; split <;> rfl
@[simp] theorem hartMod_time (n : Nat) (f : Hart → Hart) (s : State) : (hartMod n f s).time = s.time := by
  unfold hartMod; split <;> rfl
@[simp] theorem hartMod_rtc (n : Nat) (f : Hart → Hart) (s : State) : (hartMod n f s).rtc = s.rtc := by
  unfold hartMod; split <;> rfl
@[simp] theorem hartMod_twin (n : Nat) (f : Hart → Hart) (s : State) : (hartMod n f s).twin = s.twin := by
  unfold hartMod; split <;> rfl
@[simp] theorem hartMod_edit (n : Nat) (f : Hart → Hart) (s : State) : (hartMod n f s).edit = s.edit := by
  unfold hartMod; split <;> rfl
@[simp] theorem hartMod_rcd (n : Nat) (f : Hart → Hart) (s : State) : (hartMod n f s).rcd = s.rcd := by
  unfold hartMod; split <;> rfl
@[simp] theorem hartMod_nvm (n : Nat) (f : Hart → Hart) (s : State) : (hartMod n f s).nvm = s.nvm := by
  unfold hartMod; split <;> rfl
@[simp] theorem hartMod_clk (n : Nat) (f : Hart → Hart) (s : State) : (hartMod n f s).clk = s.clk := by
  unfold hartMod; split <;> rfl
@[simp] theorem hartMod_wdg (n : Nat) (f : Hart → Hart) (s : State) : (hartMod n f s).wdg = s.wdg := by
  unfold hartMod; split <;> rfl
@[simp] theorem hartMod_pwr (n : Nat) (f : Hart → Hart) (s : State) : (hartMod n f s).pwr = s.pwr := by
  unfold hartMod; split <;> rfl
@[simp] theorem hartMod_sec (n : Nat) (f : Hart → Hart) (s : State) : (hartMod n f s).sec = s.sec := by
  unfold hartMod; split <;> rfl
@[simp] theorem hartMod_fw (n : Nat) (f : Hart → Hart) (s : State) : (hartMod n f s).fw = s.fw := by
  unfold hartMod; split <;> rfl
@[simp] theorem hartMod_watch (n : Nat) (f : Hart → Hart) (s : State) : (hartMod n f s).watch = s.watch := by
  unfold hartMod; split <;> rfl
@[simp] theorem hartMod_tag (n : Nat) (f : Hart → Hart) (s : State) : (hartMod n f s).tag = s.tag := by
  unfold hartMod; split <;> rfl
@[simp] theorem hartMod_latch (n : Nat) (f : Hart → Hart) (s : State) : (hartMod n f s).latch = s.latch := by
  unfold hartMod; split <;> rfl
@[simp] theorem hartMod_free (n : Nat) (f : Hart → Hart) (s : State) : (hartMod n f s).free = s.free := by
  unfold hartMod; split <;> rfl
@[simp] theorem hartMod_out (n : Nat) (f : Hart → Hart) (s : State) : (hartMod n f s).out = s.out := by
  unfold hartMod; split <;> rfl
@[simp] theorem hartMod_pending (n : Nat) (f : Hart → Hart) (s : State) : (hartMod n f s).pending = s.pending := by
  unfold hartMod; split <;> rfl

/-! mbxMod -/

@[simp] theorem mbxMod_id (n : Nat) (f : Mbx → Mbx) (s : State) : (mbxMod n f s).id = s.id := by
  unfold mbxMod; split <;> rfl
@[simp] theorem mbxMod_mode (n : Nat) (f : Mbx → Mbx) (s : State) : (mbxMod n f s).mode = s.mode := by
  unfold mbxMod; split <;> rfl
@[simp] theorem mbxMod_img (n : Nat) (f : Mbx → Mbx) (s : State) : (mbxMod n f s).img = s.img := by
  unfold mbxMod; split <;> rfl
@[simp] theorem mbxMod_imgAlt (n : Nat) (f : Mbx → Mbx) (s : State) : (mbxMod n f s).imgAlt = s.imgAlt := by
  unfold mbxMod; split <;> rfl
@[simp] theorem mbxMod_fab (n : Nat) (f : Mbx → Mbx) (s : State) : (mbxMod n f s).fab = s.fab := by
  unfold mbxMod; split <;> rfl
@[simp] theorem mbxMod_rfx (n : Nat) (f : Mbx → Mbx) (s : State) : (mbxMod n f s).rfx = s.rfx := by
  unfold mbxMod; split <;> rfl
@[simp] theorem mbxMod_dio (n : Nat) (f : Mbx → Mbx) (s : State) : (mbxMod n f s).dio = s.dio := by
  unfold mbxMod; split <;> rfl
@[simp] theorem mbxMod_loop (n : Nat) (f : Mbx → Mbx) (s : State) : (mbxMod n f s).loop = s.loop := by
  unfold mbxMod; split <;> rfl
@[simp] theorem mbxMod_buoy (n : Nat) (f : Mbx → Mbx) (s : State) : (mbxMod n f s).buoy = s.buoy := by
  unfold mbxMod; split <;> rfl
@[simp] theorem mbxMod_can (n : Nat) (f : Mbx → Mbx) (s : State) : (mbxMod n f s).can = s.can := by
  unfold mbxMod; split <;> rfl
@[simp] theorem mbxMod_net (n : Nat) (f : Mbx → Mbx) (s : State) : (mbxMod n f s).net = s.net := by
  unfold mbxMod; split <;> rfl
@[simp] theorem mbxMod_beam (n : Nat) (f : Mbx → Mbx) (s : State) : (mbxMod n f s).beam = s.beam := by
  unfold mbxMod; split <;> rfl
@[simp] theorem mbxMod_time (n : Nat) (f : Mbx → Mbx) (s : State) : (mbxMod n f s).time = s.time := by
  unfold mbxMod; split <;> rfl
@[simp] theorem mbxMod_rtc (n : Nat) (f : Mbx → Mbx) (s : State) : (mbxMod n f s).rtc = s.rtc := by
  unfold mbxMod; split <;> rfl
@[simp] theorem mbxMod_twin (n : Nat) (f : Mbx → Mbx) (s : State) : (mbxMod n f s).twin = s.twin := by
  unfold mbxMod; split <;> rfl
@[simp] theorem mbxMod_edit (n : Nat) (f : Mbx → Mbx) (s : State) : (mbxMod n f s).edit = s.edit := by
  unfold mbxMod; split <;> rfl
@[simp] theorem mbxMod_rcd (n : Nat) (f : Mbx → Mbx) (s : State) : (mbxMod n f s).rcd = s.rcd := by
  unfold mbxMod; split <;> rfl
@[simp] theorem mbxMod_nvm (n : Nat) (f : Mbx → Mbx) (s : State) : (mbxMod n f s).nvm = s.nvm := by
  unfold mbxMod; split <;> rfl
@[simp] theorem mbxMod_clk (n : Nat) (f : Mbx → Mbx) (s : State) : (mbxMod n f s).clk = s.clk := by
  unfold mbxMod; split <;> rfl
@[simp] theorem mbxMod_wdg (n : Nat) (f : Mbx → Mbx) (s : State) : (mbxMod n f s).wdg = s.wdg := by
  unfold mbxMod; split <;> rfl
@[simp] theorem mbxMod_pwr (n : Nat) (f : Mbx → Mbx) (s : State) : (mbxMod n f s).pwr = s.pwr := by
  unfold mbxMod; split <;> rfl
@[simp] theorem mbxMod_sec (n : Nat) (f : Mbx → Mbx) (s : State) : (mbxMod n f s).sec = s.sec := by
  unfold mbxMod; split <;> rfl
@[simp] theorem mbxMod_fw (n : Nat) (f : Mbx → Mbx) (s : State) : (mbxMod n f s).fw = s.fw := by
  unfold mbxMod; split <;> rfl
@[simp] theorem mbxMod_watch (n : Nat) (f : Mbx → Mbx) (s : State) : (mbxMod n f s).watch = s.watch := by
  unfold mbxMod; split <;> rfl
@[simp] theorem mbxMod_tag (n : Nat) (f : Mbx → Mbx) (s : State) : (mbxMod n f s).tag = s.tag := by
  unfold mbxMod; split <;> rfl
@[simp] theorem mbxMod_latch (n : Nat) (f : Mbx → Mbx) (s : State) : (mbxMod n f s).latch = s.latch := by
  unfold mbxMod; split <;> rfl
@[simp] theorem mbxMod_free (n : Nat) (f : Mbx → Mbx) (s : State) : (mbxMod n f s).free = s.free := by
  unfold mbxMod; split <;> rfl
@[simp] theorem mbxMod_out (n : Nat) (f : Mbx → Mbx) (s : State) : (mbxMod n f s).out = s.out := by
  unfold mbxMod; split <;> rfl
@[simp] theorem mbxMod_pending (n : Nat) (f : Mbx → Mbx) (s : State) : (mbxMod n f s).pending = s.pending := by
  unfold mbxMod; split <;> rfl

/-! candMod -/

@[simp] theorem candMod_id (n : Nat) (f : Cand → Cand) (s : State) : (candMod n f s).id = s.id := by
  unfold candMod; split <;> rfl
@[simp] theorem candMod_mode (n : Nat) (f : Cand → Cand) (s : State) : (candMod n f s).mode = s.mode := by
  unfold candMod; split <;> rfl
@[simp] theorem candMod_img (n : Nat) (f : Cand → Cand) (s : State) : (candMod n f s).img = s.img := by
  unfold candMod; split <;> rfl
@[simp] theorem candMod_imgAlt (n : Nat) (f : Cand → Cand) (s : State) : (candMod n f s).imgAlt = s.imgAlt := by
  unfold candMod; split <;> rfl
@[simp] theorem candMod_fab (n : Nat) (f : Cand → Cand) (s : State) : (candMod n f s).fab = s.fab := by
  unfold candMod; split <;> rfl
@[simp] theorem candMod_rfx (n : Nat) (f : Cand → Cand) (s : State) : (candMod n f s).rfx = s.rfx := by
  unfold candMod; split <;> rfl
@[simp] theorem candMod_dio (n : Nat) (f : Cand → Cand) (s : State) : (candMod n f s).dio = s.dio := by
  unfold candMod; split <;> rfl
@[simp] theorem candMod_loop (n : Nat) (f : Cand → Cand) (s : State) : (candMod n f s).loop = s.loop := by
  unfold candMod; split <;> rfl
@[simp] theorem candMod_buoy (n : Nat) (f : Cand → Cand) (s : State) : (candMod n f s).buoy = s.buoy := by
  unfold candMod; split <;> rfl
@[simp] theorem candMod_can (n : Nat) (f : Cand → Cand) (s : State) : (candMod n f s).can = s.can := by
  unfold candMod; split <;> rfl
@[simp] theorem candMod_net (n : Nat) (f : Cand → Cand) (s : State) : (candMod n f s).net = s.net := by
  unfold candMod; split <;> rfl
@[simp] theorem candMod_beam (n : Nat) (f : Cand → Cand) (s : State) : (candMod n f s).beam = s.beam := by
  unfold candMod; split <;> rfl
@[simp] theorem candMod_kp (n : Nat) (f : Cand → Cand) (s : State) : (candMod n f s).kp = s.kp := by
  unfold candMod; split <;> rfl
@[simp] theorem candMod_rtc (n : Nat) (f : Cand → Cand) (s : State) : (candMod n f s).rtc = s.rtc := by
  unfold candMod; split <;> rfl
@[simp] theorem candMod_twin (n : Nat) (f : Cand → Cand) (s : State) : (candMod n f s).twin = s.twin := by
  unfold candMod; split <;> rfl
@[simp] theorem candMod_edit (n : Nat) (f : Cand → Cand) (s : State) : (candMod n f s).edit = s.edit := by
  unfold candMod; split <;> rfl
@[simp] theorem candMod_rcd (n : Nat) (f : Cand → Cand) (s : State) : (candMod n f s).rcd = s.rcd := by
  unfold candMod; split <;> rfl
@[simp] theorem candMod_nvm (n : Nat) (f : Cand → Cand) (s : State) : (candMod n f s).nvm = s.nvm := by
  unfold candMod; split <;> rfl
@[simp] theorem candMod_clk (n : Nat) (f : Cand → Cand) (s : State) : (candMod n f s).clk = s.clk := by
  unfold candMod; split <;> rfl
@[simp] theorem candMod_wdg (n : Nat) (f : Cand → Cand) (s : State) : (candMod n f s).wdg = s.wdg := by
  unfold candMod; split <;> rfl
@[simp] theorem candMod_pwr (n : Nat) (f : Cand → Cand) (s : State) : (candMod n f s).pwr = s.pwr := by
  unfold candMod; split <;> rfl
@[simp] theorem candMod_sec (n : Nat) (f : Cand → Cand) (s : State) : (candMod n f s).sec = s.sec := by
  unfold candMod; split <;> rfl
@[simp] theorem candMod_fw (n : Nat) (f : Cand → Cand) (s : State) : (candMod n f s).fw = s.fw := by
  unfold candMod; split <;> rfl
@[simp] theorem candMod_watch (n : Nat) (f : Cand → Cand) (s : State) : (candMod n f s).watch = s.watch := by
  unfold candMod; split <;> rfl
@[simp] theorem candMod_tag (n : Nat) (f : Cand → Cand) (s : State) : (candMod n f s).tag = s.tag := by
  unfold candMod; split <;> rfl
@[simp] theorem candMod_latch (n : Nat) (f : Cand → Cand) (s : State) : (candMod n f s).latch = s.latch := by
  unfold candMod; split <;> rfl
@[simp] theorem candMod_free (n : Nat) (f : Cand → Cand) (s : State) : (candMod n f s).free = s.free := by
  unfold candMod; split <;> rfl
@[simp] theorem candMod_out (n : Nat) (f : Cand → Cand) (s : State) : (candMod n f s).out = s.out := by
  unfold candMod; split <;> rfl
@[simp] theorem candMod_pending (n : Nat) (f : Cand → Cand) (s : State) : (candMod n f s).pending = s.pending := by
  unfold candMod; split <;> rfl

/-! almMod -/

@[simp] theorem almMod_id (n : Nat) (f : Alarm → Alarm) (s : State) : (almMod n f s).id = s.id := by
  unfold almMod; split <;> rfl
@[simp] theorem almMod_mode (n : Nat) (f : Alarm → Alarm) (s : State) : (almMod n f s).mode = s.mode := by
  unfold almMod; split <;> rfl
@[simp] theorem almMod_img (n : Nat) (f : Alarm → Alarm) (s : State) : (almMod n f s).img = s.img := by
  unfold almMod; split <;> rfl
@[simp] theorem almMod_imgAlt (n : Nat) (f : Alarm → Alarm) (s : State) : (almMod n f s).imgAlt = s.imgAlt := by
  unfold almMod; split <;> rfl
@[simp] theorem almMod_fab (n : Nat) (f : Alarm → Alarm) (s : State) : (almMod n f s).fab = s.fab := by
  unfold almMod; split <;> rfl
@[simp] theorem almMod_rfx (n : Nat) (f : Alarm → Alarm) (s : State) : (almMod n f s).rfx = s.rfx := by
  unfold almMod; split <;> rfl
@[simp] theorem almMod_dio (n : Nat) (f : Alarm → Alarm) (s : State) : (almMod n f s).dio = s.dio := by
  unfold almMod; split <;> rfl
@[simp] theorem almMod_loop (n : Nat) (f : Alarm → Alarm) (s : State) : (almMod n f s).loop = s.loop := by
  unfold almMod; split <;> rfl
@[simp] theorem almMod_buoy (n : Nat) (f : Alarm → Alarm) (s : State) : (almMod n f s).buoy = s.buoy := by
  unfold almMod; split <;> rfl
@[simp] theorem almMod_can (n : Nat) (f : Alarm → Alarm) (s : State) : (almMod n f s).can = s.can := by
  unfold almMod; split <;> rfl
@[simp] theorem almMod_net (n : Nat) (f : Alarm → Alarm) (s : State) : (almMod n f s).net = s.net := by
  unfold almMod; split <;> rfl
@[simp] theorem almMod_beam (n : Nat) (f : Alarm → Alarm) (s : State) : (almMod n f s).beam = s.beam := by
  unfold almMod; split <;> rfl
@[simp] theorem almMod_kp (n : Nat) (f : Alarm → Alarm) (s : State) : (almMod n f s).kp = s.kp := by
  unfold almMod; split <;> rfl
@[simp] theorem almMod_time (n : Nat) (f : Alarm → Alarm) (s : State) : (almMod n f s).time = s.time := by
  unfold almMod; split <;> rfl
@[simp] theorem almMod_twin (n : Nat) (f : Alarm → Alarm) (s : State) : (almMod n f s).twin = s.twin := by
  unfold almMod; split <;> rfl
@[simp] theorem almMod_edit (n : Nat) (f : Alarm → Alarm) (s : State) : (almMod n f s).edit = s.edit := by
  unfold almMod; split <;> rfl
@[simp] theorem almMod_rcd (n : Nat) (f : Alarm → Alarm) (s : State) : (almMod n f s).rcd = s.rcd := by
  unfold almMod; split <;> rfl
@[simp] theorem almMod_nvm (n : Nat) (f : Alarm → Alarm) (s : State) : (almMod n f s).nvm = s.nvm := by
  unfold almMod; split <;> rfl
@[simp] theorem almMod_clk (n : Nat) (f : Alarm → Alarm) (s : State) : (almMod n f s).clk = s.clk := by
  unfold almMod; split <;> rfl
@[simp] theorem almMod_wdg (n : Nat) (f : Alarm → Alarm) (s : State) : (almMod n f s).wdg = s.wdg := by
  unfold almMod; split <;> rfl
@[simp] theorem almMod_pwr (n : Nat) (f : Alarm → Alarm) (s : State) : (almMod n f s).pwr = s.pwr := by
  unfold almMod; split <;> rfl
@[simp] theorem almMod_sec (n : Nat) (f : Alarm → Alarm) (s : State) : (almMod n f s).sec = s.sec := by
  unfold almMod; split <;> rfl
@[simp] theorem almMod_fw (n : Nat) (f : Alarm → Alarm) (s : State) : (almMod n f s).fw = s.fw := by
  unfold almMod; split <;> rfl
@[simp] theorem almMod_watch (n : Nat) (f : Alarm → Alarm) (s : State) : (almMod n f s).watch = s.watch := by
  unfold almMod; split <;> rfl
@[simp] theorem almMod_tag (n : Nat) (f : Alarm → Alarm) (s : State) : (almMod n f s).tag = s.tag := by
  unfold almMod; split <;> rfl
@[simp] theorem almMod_latch (n : Nat) (f : Alarm → Alarm) (s : State) : (almMod n f s).latch = s.latch := by
  unfold almMod; split <;> rfl
@[simp] theorem almMod_free (n : Nat) (f : Alarm → Alarm) (s : State) : (almMod n f s).free = s.free := by
  unfold almMod; split <;> rfl
@[simp] theorem almMod_out (n : Nat) (f : Alarm → Alarm) (s : State) : (almMod n f s).out = s.out := by
  unfold almMod; split <;> rfl
@[simp] theorem almMod_pending (n : Nat) (f : Alarm → Alarm) (s : State) : (almMod n f s).pending = s.pending := by
  unfold almMod; split <;> rfl

/-! The recorder: an event touches the recorder, the NVM queue and the trace buffer only -/

/-- The blocks an event may touch. -/
def onlyLog (s t : State) : Prop := t = { s with rcd := t.rcd, nvm := t.nvm, watch := t.watch }

theorem onlyLog_refl (s : State) : onlyLog s s := rfl
theorem onlyLog_trans {s t u : State} (h : onlyLog s t) (g : onlyLog t u) : onlyLog s u := by
  unfold onlyLog at *; rw [g, h]
theorem onlyLog_ite {c : Prop} [Decidable c] {s a b : State} (ha : onlyLog s a) (hb : onlyLog s b) :
    onlyLog s (if c then a else b) := by split <;> assumption
theorem onlyLog_flushStaged (n : Nat) (s : State) : onlyLog s (flushStaged n s) := by
  unfold flushStaged; exact onlyLog_ite rfl rfl
theorem onlyLog_stageRec (r : Rec) (s : State) : onlyLog s (stageRec r s) := by
  unfold stageRec
  refine onlyLog_ite rfl (onlyLog_ite rfl (onlyLog_ite ?_ rfl))
  exact onlyLog_trans (t := { s with rcd := _ }) rfl (onlyLog_flushStaged 1 _)
theorem onlyLog_ctrAdd (ev : Nat) (k g r : Option Nat) (n : Nat) (s : State) : onlyLog s (ctrAdd ev k g r n s) := by
  unfold ctrAdd; exact onlyLog_ite rfl rfl
theorem onlyLog_snd {c : Prop} [Decidable c] {s : State} {a b : Bool × State} (ha : onlyLog s a.2) (hb : onlyLog s b.2) :
    onlyLog s (if c then a else b).2 := by split <;> assumption
theorem onlyLog_tracePut (e : TraceEnt) (s : State) : onlyLog s (tracePut e s).2 := by
  unfold tracePut
  exact onlyLog_snd rfl (onlyLog_trans (onlyLog_ctrAdd 22 none none none 1 s) rfl)
theorem onlyLog_recordBy (put : Rec → State → State) (hp : ∀ r s, onlyLog s (put r s)) (code src : Nat) (pl : List Byte)
    (s : State) : onlyLog s (recordBy put code src pl s) := by
  unfold recordBy
  refine onlyLog_ite (onlyLog_ite ?_ rfl) (hp _ _)
  exact onlyLog_trans (t := { s with rcd := _ }) rfl (hp _ _)
theorem onlyLog_traceEvent (r : Rec) (s : State) : onlyLog s (traceEvent r s).2 := by
  unfold traceEvent
  split
  · exact onlyLog_tracePut _ s
  · rfl
theorem onlyLog_traceCap (e : TraceEnt) (s : State) : onlyLog s (traceCap e s) := by
  unfold traceCap
  refine onlyLog_ite (onlyLog_trans (onlyLog_tracePut e s) (onlyLog_recordBy _ (fun r s => ?_) _ _ _ _)) (onlyLog_tracePut e s)
  exact onlyLog_trans (onlyLog_stageRec r s) (onlyLog_traceEvent r _)
theorem onlyLog_stagePut (r : Rec) (s : State) : onlyLog s (stagePut r s) := by
  unfold stagePut
  exact onlyLog_ite (onlyLog_trans (onlyLog_stageRec r s) (onlyLog_traceCap _ _)) (onlyLog_stageRec r s)
/-- What an event can do, said once. -/
theorem onlyLog_record (code src : Nat) (pl : List Byte) (s : State) : onlyLog s (record code src pl s) :=
  onlyLog_recordBy _ onlyLog_stagePut _ _ _ _
theorem onlyLog_stage (code src fl ts : Nat) (pl : List Byte) (s : State) : onlyLog s (stage code src fl ts pl s) :=
  onlyLog_stagePut _ _

theorem log_id {s t : State} (h : onlyLog s t) : t.id = s.id := by rw [h]
theorem log_mode {s t : State} (h : onlyLog s t) : t.mode = s.mode := by rw [h]
theorem log_img {s t : State} (h : onlyLog s t) : t.img = s.img := by rw [h]
theorem log_imgAlt {s t : State} (h : onlyLog s t) : t.imgAlt = s.imgAlt := by rw [h]
theorem log_fab {s t : State} (h : onlyLog s t) : t.fab = s.fab := by rw [h]
theorem log_rfx {s t : State} (h : onlyLog s t) : t.rfx = s.rfx := by rw [h]
theorem log_dio {s t : State} (h : onlyLog s t) : t.dio = s.dio := by rw [h]
theorem log_loop {s t : State} (h : onlyLog s t) : t.loop = s.loop := by rw [h]
theorem log_buoy {s t : State} (h : onlyLog s t) : t.buoy = s.buoy := by rw [h]
theorem log_can {s t : State} (h : onlyLog s t) : t.can = s.can := by rw [h]
theorem log_net {s t : State} (h : onlyLog s t) : t.net = s.net := by rw [h]
theorem log_beam {s t : State} (h : onlyLog s t) : t.beam = s.beam := by rw [h]
theorem log_kp {s t : State} (h : onlyLog s t) : t.kp = s.kp := by rw [h]
theorem log_time {s t : State} (h : onlyLog s t) : t.time = s.time := by rw [h]
theorem log_rtc {s t : State} (h : onlyLog s t) : t.rtc = s.rtc := by rw [h]
theorem log_twin {s t : State} (h : onlyLog s t) : t.twin = s.twin := by rw [h]
theorem log_edit {s t : State} (h : onlyLog s t) : t.edit = s.edit := by rw [h]
theorem log_clk {s t : State} (h : onlyLog s t) : t.clk = s.clk := by rw [h]
theorem log_wdg {s t : State} (h : onlyLog s t) : t.wdg = s.wdg := by rw [h]
theorem log_pwr {s t : State} (h : onlyLog s t) : t.pwr = s.pwr := by rw [h]
theorem log_sec {s t : State} (h : onlyLog s t) : t.sec = s.sec := by rw [h]
theorem log_fw {s t : State} (h : onlyLog s t) : t.fw = s.fw := by rw [h]
theorem log_tag {s t : State} (h : onlyLog s t) : t.tag = s.tag := by rw [h]
theorem log_latch {s t : State} (h : onlyLog s t) : t.latch = s.latch := by rw [h]
theorem log_free {s t : State} (h : onlyLog s t) : t.free = s.free := by rw [h]
theorem log_out {s t : State} (h : onlyLog s t) : t.out = s.out := by rw [h]
theorem log_pending {s t : State} (h : onlyLog s t) : t.pending = s.pending := by rw [h]

@[simp] theorem flushStaged_id (n : Nat) (s : State) : (flushStaged n s).id = s.id := log_id (onlyLog_flushStaged n s)
@[simp] theorem flushStaged_mode (n : Nat) (s : State) : (flushStaged n s).mode = s.mode := log_mode (onlyLog_flushStaged n s)
@[simp] theorem flushStaged_img (n : Nat) (s : State) : (flushStaged n s).img = s.img := log_img (onlyLog_flushStaged n s)
@[simp] theorem flushStaged_imgAlt (n : Nat) (s : State) : (flushStaged n s).imgAlt = s.imgAlt := log_imgAlt (onlyLog_flushStaged n s)
@[simp] theorem flushStaged_fab (n : Nat) (s : State) : (flushStaged n s).fab = s.fab := log_fab (onlyLog_flushStaged n s)
@[simp] theorem flushStaged_rfx (n : Nat) (s : State) : (flushStaged n s).rfx = s.rfx := log_rfx (onlyLog_flushStaged n s)
@[simp] theorem flushStaged_dio (n : Nat) (s : State) : (flushStaged n s).dio = s.dio := log_dio (onlyLog_flushStaged n s)
@[simp] theorem flushStaged_loop (n : Nat) (s : State) : (flushStaged n s).loop = s.loop := log_loop (onlyLog_flushStaged n s)
@[simp] theorem flushStaged_buoy (n : Nat) (s : State) : (flushStaged n s).buoy = s.buoy := log_buoy (onlyLog_flushStaged n s)
@[simp] theorem flushStaged_can (n : Nat) (s : State) : (flushStaged n s).can = s.can := log_can (onlyLog_flushStaged n s)
@[simp] theorem flushStaged_net (n : Nat) (s : State) : (flushStaged n s).net = s.net := log_net (onlyLog_flushStaged n s)
@[simp] theorem flushStaged_beam (n : Nat) (s : State) : (flushStaged n s).beam = s.beam := log_beam (onlyLog_flushStaged n s)
@[simp] theorem flushStaged_kp (n : Nat) (s : State) : (flushStaged n s).kp = s.kp := log_kp (onlyLog_flushStaged n s)
@[simp] theorem flushStaged_time (n : Nat) (s : State) : (flushStaged n s).time = s.time := log_time (onlyLog_flushStaged n s)
@[simp] theorem flushStaged_rtc (n : Nat) (s : State) : (flushStaged n s).rtc = s.rtc := log_rtc (onlyLog_flushStaged n s)
@[simp] theorem flushStaged_twin (n : Nat) (s : State) : (flushStaged n s).twin = s.twin := log_twin (onlyLog_flushStaged n s)
@[simp] theorem flushStaged_edit (n : Nat) (s : State) : (flushStaged n s).edit = s.edit := log_edit (onlyLog_flushStaged n s)
@[simp] theorem flushStaged_clk (n : Nat) (s : State) : (flushStaged n s).clk = s.clk := log_clk (onlyLog_flushStaged n s)
@[simp] theorem flushStaged_wdg (n : Nat) (s : State) : (flushStaged n s).wdg = s.wdg := log_wdg (onlyLog_flushStaged n s)
@[simp] theorem flushStaged_pwr (n : Nat) (s : State) : (flushStaged n s).pwr = s.pwr := log_pwr (onlyLog_flushStaged n s)
@[simp] theorem flushStaged_sec (n : Nat) (s : State) : (flushStaged n s).sec = s.sec := log_sec (onlyLog_flushStaged n s)
@[simp] theorem flushStaged_fw (n : Nat) (s : State) : (flushStaged n s).fw = s.fw := log_fw (onlyLog_flushStaged n s)
@[simp] theorem flushStaged_tag (n : Nat) (s : State) : (flushStaged n s).tag = s.tag := log_tag (onlyLog_flushStaged n s)
@[simp] theorem flushStaged_latch (n : Nat) (s : State) : (flushStaged n s).latch = s.latch := log_latch (onlyLog_flushStaged n s)
@[simp] theorem flushStaged_free (n : Nat) (s : State) : (flushStaged n s).free = s.free := log_free (onlyLog_flushStaged n s)
@[simp] theorem flushStaged_out (n : Nat) (s : State) : (flushStaged n s).out = s.out := log_out (onlyLog_flushStaged n s)
@[simp] theorem flushStaged_pending (n : Nat) (s : State) : (flushStaged n s).pending = s.pending := log_pending (onlyLog_flushStaged n s)

@[simp] theorem stageRec_id (r : Rec) (s : State) : (stageRec r s).id = s.id := log_id (onlyLog_stageRec r s)
@[simp] theorem stageRec_mode (r : Rec) (s : State) : (stageRec r s).mode = s.mode := log_mode (onlyLog_stageRec r s)
@[simp] theorem stageRec_img (r : Rec) (s : State) : (stageRec r s).img = s.img := log_img (onlyLog_stageRec r s)
@[simp] theorem stageRec_imgAlt (r : Rec) (s : State) : (stageRec r s).imgAlt = s.imgAlt := log_imgAlt (onlyLog_stageRec r s)
@[simp] theorem stageRec_fab (r : Rec) (s : State) : (stageRec r s).fab = s.fab := log_fab (onlyLog_stageRec r s)
@[simp] theorem stageRec_rfx (r : Rec) (s : State) : (stageRec r s).rfx = s.rfx := log_rfx (onlyLog_stageRec r s)
@[simp] theorem stageRec_dio (r : Rec) (s : State) : (stageRec r s).dio = s.dio := log_dio (onlyLog_stageRec r s)
@[simp] theorem stageRec_loop (r : Rec) (s : State) : (stageRec r s).loop = s.loop := log_loop (onlyLog_stageRec r s)
@[simp] theorem stageRec_buoy (r : Rec) (s : State) : (stageRec r s).buoy = s.buoy := log_buoy (onlyLog_stageRec r s)
@[simp] theorem stageRec_can (r : Rec) (s : State) : (stageRec r s).can = s.can := log_can (onlyLog_stageRec r s)
@[simp] theorem stageRec_net (r : Rec) (s : State) : (stageRec r s).net = s.net := log_net (onlyLog_stageRec r s)
@[simp] theorem stageRec_beam (r : Rec) (s : State) : (stageRec r s).beam = s.beam := log_beam (onlyLog_stageRec r s)
@[simp] theorem stageRec_kp (r : Rec) (s : State) : (stageRec r s).kp = s.kp := log_kp (onlyLog_stageRec r s)
@[simp] theorem stageRec_time (r : Rec) (s : State) : (stageRec r s).time = s.time := log_time (onlyLog_stageRec r s)
@[simp] theorem stageRec_rtc (r : Rec) (s : State) : (stageRec r s).rtc = s.rtc := log_rtc (onlyLog_stageRec r s)
@[simp] theorem stageRec_twin (r : Rec) (s : State) : (stageRec r s).twin = s.twin := log_twin (onlyLog_stageRec r s)
@[simp] theorem stageRec_edit (r : Rec) (s : State) : (stageRec r s).edit = s.edit := log_edit (onlyLog_stageRec r s)
@[simp] theorem stageRec_clk (r : Rec) (s : State) : (stageRec r s).clk = s.clk := log_clk (onlyLog_stageRec r s)
@[simp] theorem stageRec_wdg (r : Rec) (s : State) : (stageRec r s).wdg = s.wdg := log_wdg (onlyLog_stageRec r s)
@[simp] theorem stageRec_pwr (r : Rec) (s : State) : (stageRec r s).pwr = s.pwr := log_pwr (onlyLog_stageRec r s)
@[simp] theorem stageRec_sec (r : Rec) (s : State) : (stageRec r s).sec = s.sec := log_sec (onlyLog_stageRec r s)
@[simp] theorem stageRec_fw (r : Rec) (s : State) : (stageRec r s).fw = s.fw := log_fw (onlyLog_stageRec r s)
@[simp] theorem stageRec_tag (r : Rec) (s : State) : (stageRec r s).tag = s.tag := log_tag (onlyLog_stageRec r s)
@[simp] theorem stageRec_latch (r : Rec) (s : State) : (stageRec r s).latch = s.latch := log_latch (onlyLog_stageRec r s)
@[simp] theorem stageRec_free (r : Rec) (s : State) : (stageRec r s).free = s.free := log_free (onlyLog_stageRec r s)
@[simp] theorem stageRec_out (r : Rec) (s : State) : (stageRec r s).out = s.out := log_out (onlyLog_stageRec r s)
@[simp] theorem stageRec_pending (r : Rec) (s : State) : (stageRec r s).pending = s.pending := log_pending (onlyLog_stageRec r s)

@[simp] theorem ctrAdd_id (ev : Nat) (k g r : Option Nat) (n : Nat) (s : State) : (ctrAdd ev k g r n s).id = s.id := log_id (onlyLog_ctrAdd ev k g r n s)
@[simp] theorem ctrAdd_mode (ev : Nat) (k g r : Option Nat) (n : Nat) (s : State) : (ctrAdd ev k g r n s).mode = s.mode := log_mode (onlyLog_ctrAdd ev k g r n s)
@[simp] theorem ctrAdd_img (ev : Nat) (k g r : Option Nat) (n : Nat) (s : State) : (ctrAdd ev k g r n s).img = s.img := log_img (onlyLog_ctrAdd ev k g r n s)
@[simp] theorem ctrAdd_imgAlt (ev : Nat) (k g r : Option Nat) (n : Nat) (s : State) : (ctrAdd ev k g r n s).imgAlt = s.imgAlt := log_imgAlt (onlyLog_ctrAdd ev k g r n s)
@[simp] theorem ctrAdd_fab (ev : Nat) (k g r : Option Nat) (n : Nat) (s : State) : (ctrAdd ev k g r n s).fab = s.fab := log_fab (onlyLog_ctrAdd ev k g r n s)
@[simp] theorem ctrAdd_rfx (ev : Nat) (k g r : Option Nat) (n : Nat) (s : State) : (ctrAdd ev k g r n s).rfx = s.rfx := log_rfx (onlyLog_ctrAdd ev k g r n s)
@[simp] theorem ctrAdd_dio (ev : Nat) (k g r : Option Nat) (n : Nat) (s : State) : (ctrAdd ev k g r n s).dio = s.dio := log_dio (onlyLog_ctrAdd ev k g r n s)
@[simp] theorem ctrAdd_loop (ev : Nat) (k g r : Option Nat) (n : Nat) (s : State) : (ctrAdd ev k g r n s).loop = s.loop := log_loop (onlyLog_ctrAdd ev k g r n s)
@[simp] theorem ctrAdd_buoy (ev : Nat) (k g r : Option Nat) (n : Nat) (s : State) : (ctrAdd ev k g r n s).buoy = s.buoy := log_buoy (onlyLog_ctrAdd ev k g r n s)
@[simp] theorem ctrAdd_can (ev : Nat) (k g r : Option Nat) (n : Nat) (s : State) : (ctrAdd ev k g r n s).can = s.can := log_can (onlyLog_ctrAdd ev k g r n s)
@[simp] theorem ctrAdd_net (ev : Nat) (k g r : Option Nat) (n : Nat) (s : State) : (ctrAdd ev k g r n s).net = s.net := log_net (onlyLog_ctrAdd ev k g r n s)
@[simp] theorem ctrAdd_beam (ev : Nat) (k g r : Option Nat) (n : Nat) (s : State) : (ctrAdd ev k g r n s).beam = s.beam := log_beam (onlyLog_ctrAdd ev k g r n s)
@[simp] theorem ctrAdd_kp (ev : Nat) (k g r : Option Nat) (n : Nat) (s : State) : (ctrAdd ev k g r n s).kp = s.kp := log_kp (onlyLog_ctrAdd ev k g r n s)
@[simp] theorem ctrAdd_time (ev : Nat) (k g r : Option Nat) (n : Nat) (s : State) : (ctrAdd ev k g r n s).time = s.time := log_time (onlyLog_ctrAdd ev k g r n s)
@[simp] theorem ctrAdd_rtc (ev : Nat) (k g r : Option Nat) (n : Nat) (s : State) : (ctrAdd ev k g r n s).rtc = s.rtc := log_rtc (onlyLog_ctrAdd ev k g r n s)
@[simp] theorem ctrAdd_twin (ev : Nat) (k g r : Option Nat) (n : Nat) (s : State) : (ctrAdd ev k g r n s).twin = s.twin := log_twin (onlyLog_ctrAdd ev k g r n s)
@[simp] theorem ctrAdd_edit (ev : Nat) (k g r : Option Nat) (n : Nat) (s : State) : (ctrAdd ev k g r n s).edit = s.edit := log_edit (onlyLog_ctrAdd ev k g r n s)
@[simp] theorem ctrAdd_clk (ev : Nat) (k g r : Option Nat) (n : Nat) (s : State) : (ctrAdd ev k g r n s).clk = s.clk := log_clk (onlyLog_ctrAdd ev k g r n s)
@[simp] theorem ctrAdd_wdg (ev : Nat) (k g r : Option Nat) (n : Nat) (s : State) : (ctrAdd ev k g r n s).wdg = s.wdg := log_wdg (onlyLog_ctrAdd ev k g r n s)
@[simp] theorem ctrAdd_pwr (ev : Nat) (k g r : Option Nat) (n : Nat) (s : State) : (ctrAdd ev k g r n s).pwr = s.pwr := log_pwr (onlyLog_ctrAdd ev k g r n s)
@[simp] theorem ctrAdd_sec (ev : Nat) (k g r : Option Nat) (n : Nat) (s : State) : (ctrAdd ev k g r n s).sec = s.sec := log_sec (onlyLog_ctrAdd ev k g r n s)
@[simp] theorem ctrAdd_fw (ev : Nat) (k g r : Option Nat) (n : Nat) (s : State) : (ctrAdd ev k g r n s).fw = s.fw := log_fw (onlyLog_ctrAdd ev k g r n s)
@[simp] theorem ctrAdd_tag (ev : Nat) (k g r : Option Nat) (n : Nat) (s : State) : (ctrAdd ev k g r n s).tag = s.tag := log_tag (onlyLog_ctrAdd ev k g r n s)
@[simp] theorem ctrAdd_latch (ev : Nat) (k g r : Option Nat) (n : Nat) (s : State) : (ctrAdd ev k g r n s).latch = s.latch := log_latch (onlyLog_ctrAdd ev k g r n s)
@[simp] theorem ctrAdd_free (ev : Nat) (k g r : Option Nat) (n : Nat) (s : State) : (ctrAdd ev k g r n s).free = s.free := log_free (onlyLog_ctrAdd ev k g r n s)
@[simp] theorem ctrAdd_out (ev : Nat) (k g r : Option Nat) (n : Nat) (s : State) : (ctrAdd ev k g r n s).out = s.out := log_out (onlyLog_ctrAdd ev k g r n s)
@[simp] theorem ctrAdd_pending (ev : Nat) (k g r : Option Nat) (n : Nat) (s : State) : (ctrAdd ev k g r n s).pending = s.pending := log_pending (onlyLog_ctrAdd ev k g r n s)

@[simp] theorem traceCap_id (e : TraceEnt) (s : State) : (traceCap e s).id = s.id := log_id (onlyLog_traceCap e s)
@[simp] theorem traceCap_mode (e : TraceEnt) (s : State) : (traceCap e s).mode = s.mode := log_mode (onlyLog_traceCap e s)
@[simp] theorem traceCap_img (e : TraceEnt) (s : State) : (traceCap e s).img = s.img := log_img (onlyLog_traceCap e s)
@[simp] theorem traceCap_imgAlt (e : TraceEnt) (s : State) : (traceCap e s).imgAlt = s.imgAlt := log_imgAlt (onlyLog_traceCap e s)
@[simp] theorem traceCap_fab (e : TraceEnt) (s : State) : (traceCap e s).fab = s.fab := log_fab (onlyLog_traceCap e s)
@[simp] theorem traceCap_rfx (e : TraceEnt) (s : State) : (traceCap e s).rfx = s.rfx := log_rfx (onlyLog_traceCap e s)
@[simp] theorem traceCap_dio (e : TraceEnt) (s : State) : (traceCap e s).dio = s.dio := log_dio (onlyLog_traceCap e s)
@[simp] theorem traceCap_loop (e : TraceEnt) (s : State) : (traceCap e s).loop = s.loop := log_loop (onlyLog_traceCap e s)
@[simp] theorem traceCap_buoy (e : TraceEnt) (s : State) : (traceCap e s).buoy = s.buoy := log_buoy (onlyLog_traceCap e s)
@[simp] theorem traceCap_can (e : TraceEnt) (s : State) : (traceCap e s).can = s.can := log_can (onlyLog_traceCap e s)
@[simp] theorem traceCap_net (e : TraceEnt) (s : State) : (traceCap e s).net = s.net := log_net (onlyLog_traceCap e s)
@[simp] theorem traceCap_beam (e : TraceEnt) (s : State) : (traceCap e s).beam = s.beam := log_beam (onlyLog_traceCap e s)
@[simp] theorem traceCap_kp (e : TraceEnt) (s : State) : (traceCap e s).kp = s.kp := log_kp (onlyLog_traceCap e s)
@[simp] theorem traceCap_time (e : TraceEnt) (s : State) : (traceCap e s).time = s.time := log_time (onlyLog_traceCap e s)
@[simp] theorem traceCap_rtc (e : TraceEnt) (s : State) : (traceCap e s).rtc = s.rtc := log_rtc (onlyLog_traceCap e s)
@[simp] theorem traceCap_twin (e : TraceEnt) (s : State) : (traceCap e s).twin = s.twin := log_twin (onlyLog_traceCap e s)
@[simp] theorem traceCap_edit (e : TraceEnt) (s : State) : (traceCap e s).edit = s.edit := log_edit (onlyLog_traceCap e s)
@[simp] theorem traceCap_clk (e : TraceEnt) (s : State) : (traceCap e s).clk = s.clk := log_clk (onlyLog_traceCap e s)
@[simp] theorem traceCap_wdg (e : TraceEnt) (s : State) : (traceCap e s).wdg = s.wdg := log_wdg (onlyLog_traceCap e s)
@[simp] theorem traceCap_pwr (e : TraceEnt) (s : State) : (traceCap e s).pwr = s.pwr := log_pwr (onlyLog_traceCap e s)
@[simp] theorem traceCap_sec (e : TraceEnt) (s : State) : (traceCap e s).sec = s.sec := log_sec (onlyLog_traceCap e s)
@[simp] theorem traceCap_fw (e : TraceEnt) (s : State) : (traceCap e s).fw = s.fw := log_fw (onlyLog_traceCap e s)
@[simp] theorem traceCap_tag (e : TraceEnt) (s : State) : (traceCap e s).tag = s.tag := log_tag (onlyLog_traceCap e s)
@[simp] theorem traceCap_latch (e : TraceEnt) (s : State) : (traceCap e s).latch = s.latch := log_latch (onlyLog_traceCap e s)
@[simp] theorem traceCap_free (e : TraceEnt) (s : State) : (traceCap e s).free = s.free := log_free (onlyLog_traceCap e s)
@[simp] theorem traceCap_out (e : TraceEnt) (s : State) : (traceCap e s).out = s.out := log_out (onlyLog_traceCap e s)
@[simp] theorem traceCap_pending (e : TraceEnt) (s : State) : (traceCap e s).pending = s.pending := log_pending (onlyLog_traceCap e s)

@[simp] theorem record_id (code src : Nat) (pl : List Byte) (s : State) : (record code src pl s).id = s.id := log_id (onlyLog_record code src pl s)
@[simp] theorem record_mode (code src : Nat) (pl : List Byte) (s : State) : (record code src pl s).mode = s.mode := log_mode (onlyLog_record code src pl s)
@[simp] theorem record_img (code src : Nat) (pl : List Byte) (s : State) : (record code src pl s).img = s.img := log_img (onlyLog_record code src pl s)
@[simp] theorem record_imgAlt (code src : Nat) (pl : List Byte) (s : State) : (record code src pl s).imgAlt = s.imgAlt := log_imgAlt (onlyLog_record code src pl s)
@[simp] theorem record_fab (code src : Nat) (pl : List Byte) (s : State) : (record code src pl s).fab = s.fab := log_fab (onlyLog_record code src pl s)
@[simp] theorem record_rfx (code src : Nat) (pl : List Byte) (s : State) : (record code src pl s).rfx = s.rfx := log_rfx (onlyLog_record code src pl s)
@[simp] theorem record_dio (code src : Nat) (pl : List Byte) (s : State) : (record code src pl s).dio = s.dio := log_dio (onlyLog_record code src pl s)
@[simp] theorem record_loop (code src : Nat) (pl : List Byte) (s : State) : (record code src pl s).loop = s.loop := log_loop (onlyLog_record code src pl s)
@[simp] theorem record_buoy (code src : Nat) (pl : List Byte) (s : State) : (record code src pl s).buoy = s.buoy := log_buoy (onlyLog_record code src pl s)
@[simp] theorem record_can (code src : Nat) (pl : List Byte) (s : State) : (record code src pl s).can = s.can := log_can (onlyLog_record code src pl s)
@[simp] theorem record_net (code src : Nat) (pl : List Byte) (s : State) : (record code src pl s).net = s.net := log_net (onlyLog_record code src pl s)
@[simp] theorem record_beam (code src : Nat) (pl : List Byte) (s : State) : (record code src pl s).beam = s.beam := log_beam (onlyLog_record code src pl s)
@[simp] theorem record_kp (code src : Nat) (pl : List Byte) (s : State) : (record code src pl s).kp = s.kp := log_kp (onlyLog_record code src pl s)
@[simp] theorem record_time (code src : Nat) (pl : List Byte) (s : State) : (record code src pl s).time = s.time := log_time (onlyLog_record code src pl s)
@[simp] theorem record_rtc (code src : Nat) (pl : List Byte) (s : State) : (record code src pl s).rtc = s.rtc := log_rtc (onlyLog_record code src pl s)
@[simp] theorem record_twin (code src : Nat) (pl : List Byte) (s : State) : (record code src pl s).twin = s.twin := log_twin (onlyLog_record code src pl s)
@[simp] theorem record_edit (code src : Nat) (pl : List Byte) (s : State) : (record code src pl s).edit = s.edit := log_edit (onlyLog_record code src pl s)
@[simp] theorem record_clk (code src : Nat) (pl : List Byte) (s : State) : (record code src pl s).clk = s.clk := log_clk (onlyLog_record code src pl s)
@[simp] theorem record_wdg (code src : Nat) (pl : List Byte) (s : State) : (record code src pl s).wdg = s.wdg := log_wdg (onlyLog_record code src pl s)
@[simp] theorem record_pwr (code src : Nat) (pl : List Byte) (s : State) : (record code src pl s).pwr = s.pwr := log_pwr (onlyLog_record code src pl s)
@[simp] theorem record_sec (code src : Nat) (pl : List Byte) (s : State) : (record code src pl s).sec = s.sec := log_sec (onlyLog_record code src pl s)
@[simp] theorem record_fw (code src : Nat) (pl : List Byte) (s : State) : (record code src pl s).fw = s.fw := log_fw (onlyLog_record code src pl s)
@[simp] theorem record_tag (code src : Nat) (pl : List Byte) (s : State) : (record code src pl s).tag = s.tag := log_tag (onlyLog_record code src pl s)
@[simp] theorem record_latch (code src : Nat) (pl : List Byte) (s : State) : (record code src pl s).latch = s.latch := log_latch (onlyLog_record code src pl s)
@[simp] theorem record_free (code src : Nat) (pl : List Byte) (s : State) : (record code src pl s).free = s.free := log_free (onlyLog_record code src pl s)
@[simp] theorem record_out (code src : Nat) (pl : List Byte) (s : State) : (record code src pl s).out = s.out := log_out (onlyLog_record code src pl s)
@[simp] theorem record_pending (code src : Nat) (pl : List Byte) (s : State) : (record code src pl s).pending = s.pending := log_pending (onlyLog_record code src pl s)

@[simp] theorem stage_id (code src fl ts : Nat) (pl : List Byte) (s : State) : (stage code src fl ts pl s).id = s.id := log_id (onlyLog_stage code src fl ts pl s)
@[simp] theorem stage_mode (code src fl ts : Nat) (pl : List Byte) (s : State) : (stage code src fl ts pl s).mode = s.mode := log_mode (onlyLog_stage code src fl ts pl s)
@[simp] theorem stage_img (code src fl ts : Nat) (pl : List Byte) (s : State) : (stage code src fl ts pl s).img = s.img := log_img (onlyLog_stage code src fl ts pl s)
@[simp] theorem stage_imgAlt (code src fl ts : Nat) (pl : List Byte) (s : State) : (stage code src fl ts pl s).imgAlt = s.imgAlt := log_imgAlt (onlyLog_stage code src fl ts pl s)
@[simp] theorem stage_fab (code src fl ts : Nat) (pl : List Byte) (s : State) : (stage code src fl ts pl s).fab = s.fab := log_fab (onlyLog_stage code src fl ts pl s)
@[simp] theorem stage_rfx (code src fl ts : Nat) (pl : List Byte) (s : State) : (stage code src fl ts pl s).rfx = s.rfx := log_rfx (onlyLog_stage code src fl ts pl s)
@[simp] theorem stage_dio (code src fl ts : Nat) (pl : List Byte) (s : State) : (stage code src fl ts pl s).dio = s.dio := log_dio (onlyLog_stage code src fl ts pl s)
@[simp] theorem stage_loop (code src fl ts : Nat) (pl : List Byte) (s : State) : (stage code src fl ts pl s).loop = s.loop := log_loop (onlyLog_stage code src fl ts pl s)
@[simp] theorem stage_buoy (code src fl ts : Nat) (pl : List Byte) (s : State) : (stage code src fl ts pl s).buoy = s.buoy := log_buoy (onlyLog_stage code src fl ts pl s)
@[simp] theorem stage_can (code src fl ts : Nat) (pl : List Byte) (s : State) : (stage code src fl ts pl s).can = s.can := log_can (onlyLog_stage code src fl ts pl s)
@[simp] theorem stage_net (code src fl ts : Nat) (pl : List Byte) (s : State) : (stage code src fl ts pl s).net = s.net := log_net (onlyLog_stage code src fl ts pl s)
@[simp] theorem stage_beam (code src fl ts : Nat) (pl : List Byte) (s : State) : (stage code src fl ts pl s).beam = s.beam := log_beam (onlyLog_stage code src fl ts pl s)
@[simp] theorem stage_kp (code src fl ts : Nat) (pl : List Byte) (s : State) : (stage code src fl ts pl s).kp = s.kp := log_kp (onlyLog_stage code src fl ts pl s)
@[simp] theorem stage_time (code src fl ts : Nat) (pl : List Byte) (s : State) : (stage code src fl ts pl s).time = s.time := log_time (onlyLog_stage code src fl ts pl s)
@[simp] theorem stage_rtc (code src fl ts : Nat) (pl : List Byte) (s : State) : (stage code src fl ts pl s).rtc = s.rtc := log_rtc (onlyLog_stage code src fl ts pl s)
@[simp] theorem stage_twin (code src fl ts : Nat) (pl : List Byte) (s : State) : (stage code src fl ts pl s).twin = s.twin := log_twin (onlyLog_stage code src fl ts pl s)
@[simp] theorem stage_edit (code src fl ts : Nat) (pl : List Byte) (s : State) : (stage code src fl ts pl s).edit = s.edit := log_edit (onlyLog_stage code src fl ts pl s)
@[simp] theorem stage_clk (code src fl ts : Nat) (pl : List Byte) (s : State) : (stage code src fl ts pl s).clk = s.clk := log_clk (onlyLog_stage code src fl ts pl s)
@[simp] theorem stage_wdg (code src fl ts : Nat) (pl : List Byte) (s : State) : (stage code src fl ts pl s).wdg = s.wdg := log_wdg (onlyLog_stage code src fl ts pl s)
@[simp] theorem stage_pwr (code src fl ts : Nat) (pl : List Byte) (s : State) : (stage code src fl ts pl s).pwr = s.pwr := log_pwr (onlyLog_stage code src fl ts pl s)
@[simp] theorem stage_sec (code src fl ts : Nat) (pl : List Byte) (s : State) : (stage code src fl ts pl s).sec = s.sec := log_sec (onlyLog_stage code src fl ts pl s)
@[simp] theorem stage_fw (code src fl ts : Nat) (pl : List Byte) (s : State) : (stage code src fl ts pl s).fw = s.fw := log_fw (onlyLog_stage code src fl ts pl s)
@[simp] theorem stage_tag (code src fl ts : Nat) (pl : List Byte) (s : State) : (stage code src fl ts pl s).tag = s.tag := log_tag (onlyLog_stage code src fl ts pl s)
@[simp] theorem stage_latch (code src fl ts : Nat) (pl : List Byte) (s : State) : (stage code src fl ts pl s).latch = s.latch := log_latch (onlyLog_stage code src fl ts pl s)
@[simp] theorem stage_free (code src fl ts : Nat) (pl : List Byte) (s : State) : (stage code src fl ts pl s).free = s.free := log_free (onlyLog_stage code src fl ts pl s)
@[simp] theorem stage_out (code src fl ts : Nat) (pl : List Byte) (s : State) : (stage code src fl ts pl s).out = s.out := log_out (onlyLog_stage code src fl ts pl s)
@[simp] theorem stage_pending (code src fl ts : Nat) (pl : List Byte) (s : State) : (stage code src fl ts pl s).pending = s.pending := log_pending (onlyLog_stage code src fl ts pl s)

/-! A counted event touches the counters of the watch port only -/
@[simp] theorem ctrAdd_rcd (ev : Nat) (k g r : Option Nat) (n : Nat) (s : State) : (ctrAdd ev k g r n s).rcd = s.rcd := by
  unfold ctrAdd; split <;> rfl
@[simp] theorem ctrAdd_nvm (ev : Nat) (k g r : Option Nat) (n : Nat) (s : State) : (ctrAdd ev k g r n s).nvm = s.nvm := by
  unfold ctrAdd; split <;> rfl

/-! Reads after the updates -/
@[simp] theorem now_reach (d : Nat) (s : State) : now (reach d s) = max d (now s) := by
  unfold reach; split
  · rename_i h; exact (Nat.max_eq_right h).symm
  · rename_i h; show s.time.ts + (d - s.time.ts) = _; unfold now at *; omega
@[simp] theorem lampOf_lampMod (i : Nat) (f : Lamp → Lamp) (s : State) : lampOf (lampMod i f s) i = f (lampOf s i) :=
  tabGet_tabMod_self ..
theorem lampOf_lampMod_ne {i j : Nat} (f : Lamp → Lamp) (s : State) (h : j ≠ i) : lampOf (lampMod i f s) j = lampOf s j :=
  tabGet_tabMod_ne _ _ _ h
@[simp] theorem taskOf_taskMod (k : Nat) (f : Task → Task) (s : State) : taskOf (taskMod k f s) k = f (taskOf s k) :=
  tabGet_tabMod_self ..
theorem taskOf_taskMod_ne {k j : Nat} (f : Task → Task) (s : State) (h : j ≠ k) : taskOf (taskMod k f s) j = taskOf s j :=
  tabGet_tabMod_ne _ _ _ h
@[simp] theorem galOf_galMod (g : Nat) (f : Gallery → Gallery) (s : State) : galOf (galMod g f s) g = f (galOf s g) :=
  tabGet_tabMod_self ..
theorem galOf_galMod_ne {g j : Nat} (f : Gallery → Gallery) (s : State) (h : j ≠ g) : galOf (galMod g f s) j = galOf s j :=
  tabGet_tabMod_ne _ _ _ h
@[simp] theorem rangeOf_rangeMod (g r : Nat) (f : Range → Range) (s : State) :
    rangeOf (rangeMod g r f s) g r = f (rangeOf s g r) := by
  simp only [rangeOf, rangeMod, galOf_galMod]; exact tabGet_tabMod_self ..
@[simp] theorem slotOf_slotMod (n : Nat) (f : Slot → Slot) (s : State) : slotOf (slotMod n f s) n = f (slotOf s n) :=
  tabGet_tabMod_self ..
theorem slotOf_slotMod_ne {n j : Nat} (f : Slot → Slot) (s : State) (h : j ≠ n) : slotOf (slotMod n f s) j = slotOf s j :=
  tabGet_tabMod_ne _ _ _ h
@[simp] theorem lampOf_ctrAdd (ev : Nat) (k g r : Option Nat) (n i : Nat) (s : State) :
    lampOf (ctrAdd ev k g r n s) i = lampOf s i := by simp [lampOf]
@[simp] theorem lampOf_taskMod (k : Nat) (f : Task → Task) (i : Nat) (s : State) : lampOf (taskMod k f s) i = lampOf s i := rfl
@[simp] theorem lampOf_galMod (g : Nat) (f : Gallery → Gallery) (i : Nat) (s : State) : lampOf (galMod g f s) i = lampOf s i := rfl
@[simp] theorem lampOf_slotMod (n : Nat) (f : Slot → Slot) (i : Nat) (s : State) : lampOf (slotMod n f s) i = lampOf s i := rfl
@[simp] theorem taskOf_lampMod (i : Nat) (f : Lamp → Lamp) (k : Nat) (s : State) : taskOf (lampMod i f s) k = taskOf s k := rfl
@[simp] theorem taskOf_galMod (g : Nat) (f : Gallery → Gallery) (k : Nat) (s : State) : taskOf (galMod g f s) k = taskOf s k := rfl
@[simp] theorem galOf_lampMod (i : Nat) (f : Lamp → Lamp) (g : Nat) (s : State) : galOf (lampMod i f s) g = galOf s g := rfl
@[simp] theorem galOf_taskMod (k : Nat) (f : Task → Task) (g : Nat) (s : State) : galOf (taskMod k f s) g = galOf s g := rfl
@[simp] theorem regGet_zero (l : Lamp) : regGet l 0 = 0 := rfl
theorem regGet_regSet (l : Lamp) (r q : Reg) (v : Word) : regGet (regSet l r v) q = if q = r ∧ r ≠ 0 then v else regGet l q := by
  unfold regGet
  by_cases hq : q = 0
  · rw [if_pos hq, if_pos hq, if_neg (fun h => h.2 (h.1 ▸ hq))]
  · rw [if_neg hq, if_neg hq]
    by_cases hr : r = 0
    · rw [if_neg (fun h => h.2 hr)]; simp only [regSet, if_pos hr]
    · simp only [regSet, if_neg hr, Vector.getElem_set]
      by_cases e : q = r
      · rw [if_pos (congrArg BitVec.toNat e.symm), if_pos ⟨e, hr⟩]
      · rw [if_neg (fun h => e (BitVec.eq_of_toNat_eq h.symm)), if_neg (fun h => e h.1)]

end Sys2Proof.Machine
end

