-- ==== Sys2Proof/Laws/Lamp.lean ====
section
/-!
SUPPORT. What running an instruction on a lamp does, said once.
-/
namespace Sys2Proof.Machine

/-- What an instruction of a lamp does with the outcome of its own effect. -/
def lampTakes (o : LampOp) (s : State) : Acc State → State
  | .ok t => t
  | .error (.stop full) => raFull o.lamp full (lampMod o.lamp (fun l => { l with mode := .specWait }) s)
  | .error (.trap (.ecc mem off) a) =>
    raiseTrap o.lamp (.ecc mem off) a (eccLeave mem (if mem ≤ 3 then lampGal o.lamp else 0) off o.dataErr s)
  | .error (.trap c a) => raiseTrap o.lamp c a s

/-- On a lamp that is ready, an instruction is its own effect, or ILLEGAL_OP. -/
theorem lampExec_eq {o : LampOp} {s : State} (h : LampReady o s) (legal : Bool) (f : State → Acc State) :
    lampExec o legal f s = if legal then lampTakes o s (f s) else raiseTrap o.lamp .illegalOp 0 s := by
  obtain ⟨h0, h1, h2, h3, h4, h5⟩ := h
  have n : ¬(0x200000 ≤ (lampOf s o.lamp).pc ∨ (lampOf s o.lamp).pc % 4 ≠ 0) := by omega
  simp only [lampExec, lampWorld, h0, lampRun, h1, eccRead, h4, h5, Bool.false_eq_true, if_false, ne_eq, not_true_eq_false]
  rw [if_neg n]
  cases legal
  · rfl
  · simp only [Bool.not_true, Bool.false_or, bne_self_eq_false, Bool.false_eq_true, if_false, if_true, lampTakes]
    try (rcases f s with (_ | _) | _ <;> rfl)

theorem lampExec_ready {o : LampOp} {s : State} (h : LampReady o s) (f : State → Acc State) {t : State} (e : f s = .ok t) :
    lampExec o true f s = t := by rw [lampExec_eq h, e]; rfl

/-- What holds of an instruction's own effect holds after it. -/
theorem lampExec_then {o : LampOp} {s : State} (h : LampReady o s) {f : State → Acc State} {p : State → Prop} {t : State}
    (e : f s = .ok t) (ht : p t) : p (lampExec o true f s) := by rw [lampExec_ready h f e]; exact ht

theorem lampExec_trap {o : LampOp} {s : State} (h : LampReady o s) (f : State → Acc State) {c : TrapCause} {a : Nat}
    (e : f s = .error (.trap c a)) (n : ∀ m k, c ≠ .ecc m k) : lampExec o true f s = raiseTrap o.lamp c a s := by
  rw [lampExec_eq h, e]
  cases c <;> first | rfl | exact absurd rfl (n _ _)

theorem lampOnly_lampMod (i : Nat) (f : Lamp → Lamp) (s : State) : LampOnly i s (lampMod i f s) :=
  ⟨fun _ h => lampOf_lampMod_ne f s h, rfl⟩
theorem lampOnly_refl (i : Nat) (s : State) : LampOnly i s s := ⟨fun _ _ => rfl, rfl⟩
theorem lampOnly_trans {i : Nat} {s t u : State} (h : LampOnly i s t) (g : LampOnly i t u) : LampOnly i s u := by
  obtain ⟨h1, h2⟩ := h
  obtain ⟨g1, g2⟩ := g
  refine ⟨fun j e => (g1 j e).trans (h1 j e), ?_⟩
  rw [h2] at g2; exact g2
theorem ctrAdd_only (ev : Nat) (k g r : Option Nat) (n : Nat) (s : State) :
    ctrAdd ev k g r n s = { s with watch := { s.watch with ctr := (ctrAdd ev k g r n s).watch.ctr } } := by
  unfold ctrAdd; split <;> rfl
theorem lampOnly_ctrAdd (i ev : Nat) (k g r : Option Nat) (n : Nat) (s : State) : LampOnly i s (ctrAdd ev k g r n s) :=
  ⟨fun _ _ => lampOf_ctrAdd .., by rw [ctrAdd_only]⟩
theorem lampOnly_lampCtr (i j ev n : Nat) (s : State) : LampOnly i s (lampCtr j ev n s) := lampOnly_ctrAdd ..
theorem lampOnly_lampCount (i : Nat) (s : State) : LampOnly i s (lampCount i s) := by
  unfold lampCount; split
  · exact lampOnly_refl i s
  · exact lampOnly_lampCtr ..
@[simp] theorem lampOf_lampCtr (j ev n i : Nat) (s : State) : lampOf (lampCtr j ev n s) i = lampOf s i := lampOf_ctrAdd ..
@[simp] theorem lampOf_lampCount (j i : Nat) (s : State) : lampOf (lampCount j s) i = lampOf s i := by
  unfold lampCount; split <;> simp

/-- The instruction goes on behind itself. -/
theorem lampNext_goes (i cost : Nat) (s : State) : LampGoes i cost (lampOf s i) s (lampNext i cost s) :=
  ⟨by simp [lampNext, Lamp.after], lampOnly_trans (lampOnly_lampCount i s) (lampOnly_lampMod ..)⟩

/-- A result is written, and nothing else. -/
theorem lampWrite_result (i cost : Nat) (rd : Reg) (v : Word) (s : State) :
    LampResult i cost rd v s (lampWrite i cost rd v s) := by
  have e : lampOf (lampWrite i cost rd v s) i = (regSet (lampOf s i) rd v).after cost ((lampOf s i).pc + 4) := by
    simp [lampWrite, lampNext, Lamp.after]; unfold regSet; split <;> rfl
  have r (q : Reg) : regGet (lampOf (lampWrite i cost rd v s) i) q = regGet (regSet (lampOf s i) rd v) q := by rw [e]; rfl
  refine ⟨?_, fun q h => ?_, ?_, ?_⟩
  · rw [r, regGet_regSet]
    by_cases h : rd = 0
    · rw [if_pos h, if_neg (fun x => x.2 h), h]; rfl
    · rw [if_neg h, if_pos ⟨rfl, h⟩]
  · rw [r, regGet_regSet, if_neg (fun x => h x.1)]
  · rw [e]; unfold regSet; split <;> rfl
  · exact lampOnly_trans (lampOnly_lampMod ..) (lampOnly_trans (lampOnly_lampCount ..) (lampOnly_lampMod ..))

end Sys2Proof.Machine
end

