-- ==== Sys2Proof/WellFormed.lean ====
section
/-!
DEFINITION. Which commands are well-formed: each names a unit, port, channel or place that the module has.
-/
namespace Sys2Proof

/-- A lamp number: 16 galleries of 16 ranges of two lamps. -/
def lampNo (i : Nat) : Bool := decide (i < 512)
/-- A lamp instruction names a lamp, and a wait the interconnect can cause (R32). -/
def lampOk (o : LampOp) : Bool := lampNo o.lamp && decide (o.wait ≤ 16)
/-- A task number (R26). -/
def taskNo (k : Nat) : Bool := decide (k < 16)
/-- A cyclic task. -/
def cyclicNo (k : Nat) : Bool := decide (k < 8)
/-- A gallery. -/
def galleryNo (g : Nat) : Bool := decide (g < 16)
/-- A physical range. -/
def rangeNo (r : Nat) : Bool := decide (r < 16)
/-- A free-running timer (R110). -/
def timerNo (k : Nat) : Bool := decide (k < 64)
/-- A mailbox (R415). -/
def mailboxNo (m : Nat) : Bool := decide (m < 26)
/-- A host-session mailbox. -/
def hostNo (m : Nat) : Bool := decide (m < 8)
/-- A digital input. -/
def inputNo (n : Nat) : Bool := decide (n < 64)
/-- A digital output. -/
def pointNo (n : Nat) : Bool := decide (n < 32)
/-- A supply group of the inputs, or a group of the outputs. -/
def groupNo (g : Nat) : Bool := decide (g < 4)
/-- A test-pulse source of the digital inputs. -/
def sourceNo (k : Nat) : Bool := decide (k < 8)
/-- A channel pair. -/
def pairNo (k : Nat) : Bool := decide (k < 32)
/-- A loop output. -/
def outNo (n : Nat) : Bool := decide (n < 8)
/-- A loop input. -/
def loopNo (n : Nat) : Bool := decide (n < 16)
/-- A buoy socket. -/
def socketNo (b : Nat) : Bool := decide (b < 3)
/-- A CAN port. -/
def canNo (n : Nat) : Bool := decide (n < 4)
/-- A transmit buffer or an acceptance filter of a CAN port. -/
def bufferNo (b : Nat) : Bool := decide (b < 64)
/-- An Ethernet port. -/
def portNo (p : Nat) : Bool := decide (p < 3)
/-- An ECN port. -/
def ecnNo (p : Nat) : Bool := decide (p < 2)
/-- A candidate of the time selector. -/
def candNo (k : Nat) : Bool := decide (k < 3)
/-- An RTC alarm. -/
def alarmNo (k : Nat) : Bool := decide (k < 2)
/-- A tag region. -/
def regionNo (r : Nat) : Bool := decide (r ≤ 4)
/-- A CAN frame: its identifier and its data fit its format. -/
def frameOk (x : CanFrame) : Bool :=
  decide (x.id < (if x.ide then 2 ^ 29 else 2 ^ 11)) && decide (x.data.length ≤ (if x.fdf then 64 else 8))

/-- The command is well-formed. -/
def Instr.wf : Instr → Bool
  | .add o _ _ _ => lampOk o
  | .sub o _ _ _ => lampOk o
  | .and o _ _ _ => lampOk o
  | .or o _ _ _ => lampOk o
  | .xor o _ _ _ => lampOk o
  | .nor o _ _ _ => lampOk o
  | .slt o _ _ _ => lampOk o
  | .sltu o _ _ _ => lampOk o
  | .sll o _ _ _ => lampOk o
  | .srl o _ _ _ => lampOk o
  | .sra o _ _ _ => lampOk o
  | .clz o _ _ => lampOk o
  | .mflk o _ => lampOk o
  | .mtlk o _ => lampOk o
  | .addi o _ _ _ => lampOk o
  | .andi o _ _ _ => lampOk o
  | .ori o _ _ _ => lampOk o
  | .xori o _ _ _ => lampOk o
  | .slti o _ _ _ => lampOk o
  | .sltiu o _ _ _ => lampOk o
  | .lui o _ _ => lampOk o
  | .slli o _ _ _ => lampOk o
  | .srli o _ _ _ => lampOk o
  | .srai o _ _ _ => lampOk o
  | .mul o _ _ _ => lampOk o
  | .mulh o _ _ _ => lampOk o
  | .mulhu o _ _ _ => lampOk o
  | .div o _ _ _ => lampOk o
  | .divu o _ _ _ => lampOk o
  | .rem o _ _ _ => lampOk o
  | .remu o _ _ _ => lampOk o
  | .extr o _ _ _ _ => lampOk o
  | .extrs o _ _ _ _ => lampOk o
  | .insr o _ _ _ _ => lampOk o
  | .perm o _ _ _ => lampOk o
  | .ldb o _ _ _ => lampOk o
  | .ldh o _ _ _ => lampOk o
  | .ldw o _ _ _ => lampOk o
  | .stb o _ _ _ => lampOk o
  | .sth o _ _ _ => lampOk o
  | .stw o _ _ _ => lampOk o
  | .inb o _ _ _ => lampOk o
  | .inh o _ _ _ => lampOk o
  | .inw o _ _ _ => lampOk o
  | .outb o _ _ _ => lampOk o
  | .outh o _ _ _ => lampOk o
  | .outw o _ _ _ => lampOk o
  | .inbit o _ _ _ _ => lampOk o
  | .outbit o _ _ _ _ => lampOk o
  | .ld o _ => lampOk o
  | .ldn o _ => lampOk o
  | .rungAnd o _ => lampOk o
  | .andn o _ => lampOk o
  | .rungOr o _ => lampOk o
  | .orn o _ => lampOk o
  | .rungXor o _ => lampOk o
  | .coil o _ => lampOk o
  | .set o _ => lampOk o
  | .rst o _ => lampOk o
  | .bpush o _ => lampOk o
  | .bpop o _ => lampOk o
  | .edgep o _ _ _ => lampOk o
  | .edgen o _ _ _ => lampOk o
  | .ton o _ _ => lampOk o
  | .tof o _ _ => lampOk o
  | .tp o _ _ => lampOk o
  | .ctu o _ _ => lampOk o
  | .ctd o _ _ => lampOk o
  | .swait o _ _ _ => lampOk o
  | .spub o _ _ _ => lampOk o
  | .j o _ => lampOk o
  | .jal o _ => lampOk o
  | .jr o _ => lampOk o
  | .jalr o _ => lampOk o
  | .ret o => lampOk o
  | .jrThroughLkWithLink o => lampOk o
  | .beq o _ _ _ => lampOk o
  | .bne o _ _ _ => lampOk o
  | .blt o _ _ _ => lampOk o
  | .bge o _ _ _ => lampOk o
  | .bltu o _ _ _ => lampOk o
  | .bgeu o _ _ _ => lampOk o
  | .fence o => lampOk o
  | .yield o _ => lampOk o
  | .gend o => lampOk o
  | .trap o _ => lampOk o
  | .slotReadResume i _ => lampNo i
  | .spubIssue i _ => lampNo i
  | .fenceComplete i => lampNo i
  | .scheduledInstant k => cyclicNo k
  | .eventTrigger k => taskNo k && !cyclicNo k
  | .agreementDeadline k => cyclicNo k
  | .logicEnd k _ => taskNo k
  | .digestDeadline k => cyclicNo k
  | .outputStrobe k _ _ clamps _ => taskNo k && clamps.all fun x => pointNo x.1
  | .logicDeadline k => taskNo k
  | .lateCycleStart k => taskNo k
  | .taskWdgVital k => taskNo k
  | .taskWdgNonvital k => taskNo k
  | .speculativeStart i => lampNo i
  | .validateGroup i => lampNo i
  | .storeBufferDrain i => lampNo i
  | .raSuspended k => cyclicNo k
  | .raResumed k => cyclicNo k
  | .lockstepMismatch g r _ _ _ => galleryNo g && rangeNo r
  | .lbistResult g r _ _ => galleryNo g && rangeNo r
  | .rangeSplit g r _ => galleryNo g && rangeNo r
  | .rangeJoined g r _ => galleryNo g && rangeNo r
  | .joinFailed g r _ _ _ _ => galleryNo g && rangeNo r
  | .observationStall _ => true
  | .gallerySleep g => galleryNo g
  | .galleryWake g _ => galleryNo g
  | .memReady g => galleryNo g
  | .galleryPowerFault g => galleryNo g
  | .interconnectFault _ => true
  | .scrubLine mem g off _ => decide (1 ≤ mem) && decide (mem ≤ 7) && galleryNo g && off % 4 == 0
  | .frtClear k => timerNo k
  | .frtRun k _ => timerNo k
  | .mbxWord0Write m _ ws => mailboxNo m && ws.length == 16
  | .mbxInAckWrite g _ => galleryNo g
  | .wdgKick _ => true
  | .latchedLowRead a => a % 4 == 0
  | .registerWrite o a _ => lampOk o && a % 4 == 0
  | .reflexSourceChange => true
  | .reflexMismatch _ _ => true
  | .reflexLaneMismatch _ => true
  | .reflexCfgCheckPass _ _ _ => true
  | .bypassDecisionChange n _ => inputNo n
  | .debounceExpiry n => inputNo n
  | .diSupplyMissing g _ => groupNo g
  | .diSupplyLow g _ => groupNo g
  | .diSupplyOk g _ => groupNo g
  | .testPulseStart k => sourceNo k
  | .testPulseEnd k _ => sourceNo k
  | .testWindowEnd k => sourceNo k
  | .diTpSourceFault k _ => sourceNo k
  | .diPairFault k => pairNo k
  | .doStuckOn n => pointNo n
  | .doStuckOff n => pointNo n
  | .doShort n _ => pointNo n
  | .doGroupOverload g _ => groupNo g
  | .doBuoyOverload _ mas => mas.length == 4
  | .doTestPulseStart n _ => pointNo n
  | .doTestPulseEnd n _ _ => pointNo n
  | .doOnStateOpen n _ => pointNo n
  | .xcutOpen n _ => pointNo n
  | .cutTestPeriodic => true
  | .cutTestElementEnd _ => true
  | .loopWindowEnd m => m.cur.length == 16 && m.us.length == 16 && m.rb.length == 8
  | .loopSupplyLimit n _ => loopNo n
  | .aoCompliance n _ => outNo n
  | .aoComplianceCleared n _ => outNo n
  | .hartIdentifyPoll n => loopNo n
  | .hartCyclicPoll n => loopNo n
  | .hartResponse n _ => loopNo n
  | .hartResponseTimeout n => loopNo n
  | .buoyInserted b => socketNo b
  | .buoyAuthDone b _ _ _ _ cnt => socketNo b && cnt.length == 4
  | .buoyAuthRetry b => socketNo b
  | .buoyCfgEcho b _ _ => socketNo b
  | .buoyRemoved b => socketNo b
  | .buoyFeedLost b _ _ => socketNo b
  | .buoySurge b _ _ => socketNo b
  | .buoyThoursUpdate b _ => socketNo b
  | .buoyCounterCommit b => socketNo b
  | .buoyMirrorUpdate => true
  | .buoyExchangeEnd b => socketNo b
  | .canFrameReceived n x _ => canNo n && frameOk x
  | .canTxComplete n b _ => canNo n && bufferNo b
  | .canArbLost n b => canNo n && bufferNo b
  | .canBusError n _ _ _ _ _ => canNo n
  | .canBusOffDelay n => canNo n
  | .canBusOn n => canNo n
  | .canRxStale n i => canNo n && bufferNo i
  | .canCmdRequest p _ _ _ _ => canNo p
  | .netLinkUp p => portNo p
  | .netLinkDown p => portNo p
  | .ethernetFrameReceived p _ => portNo p
  | .prpSupervisionSend => true
  | .beamReceive p _ => ecnNo p
  | .beamRxTimeout _ => true
  | .beamTxLate => true
  | .diagFrameSend => true
  | .partnerHeartbeatSend => true
  | .partnerHeartbeatReceived _ => true
  | .kapSessionOpen _ _ => true
  | .handshakeTimeout _ => true
  | .kapKeyUpdate _ => true
  | .kapSessionClose _ cause => decide (1 ≤ cause) && decide (cause ≤ 4)
  | .kapLockoutEnd _ => true
  | .mailboxRetentionExpiry m => hostNo m
  | .mbxWrite _ _ ws => decide (ws.length ≤ 16)
  | .mbxRead _ _ => true
  | .mbxAck _ _ _ => true
  | .ackRead _ _ => true
  | .regRead _ _ _ _ => true
  | .resume _ _ m => hostNo m
  | .keeperTakeMessage m => mailboxNo m
  | .viewCheck => true
  | .keeperResume _ => true
  | .ptpMessage p _ => ecnNo p
  | .timeRefQualified k => candNo k
  | .timeRefLost k _ => candNo k
  | .timeSwitchDone _ => true
  | .timeOffsetHigh => true
  | .scheduledAction => true
  | .rtcAlarm k => alarmNo k
  | .rtcShiftApply => true
  | .rtcKeeperCorrection => true
  | .rtcBackupSwitch sup => decide (sup ≤ 2)
  | .rtcCellLow _ => true
  | .twinLock _ _ _ => true
  | .twinLockLost => true
  | .twinSilence => true
  | .partnerInvisible => true
  | .snapshotFrame _ k _ _ _ _ _ => taskNo k
  | .digestFrame _ k _ => taskNo k
  | .relinquish _ _ _ => true
  | .sectorFail _ _ _ => true
  | .roleAck _ _ _ => true
  | .rejoinCtrl _ _ => true
  | .mailbox _ _ => true
  | .rejoinData _ _ => true
  | .proof _ _ => true
  | .status _ _ => true
  | .startupSearchEnd => true
  | .roleChange => true
  | .rejoinStart _ => true
  | .isolatedRejoinReady => true
  | .rejoinPassEnd _ => true
  | .tJoin => true
  | .rejoinFailed => true
  | .rejoinRetry => true
  | .tAssist => true
  | .proofStart => true
  | .editExpired => true
  | .tCut => true
  | .editCommitted => true
  | .tStopReached => true
  | .stopDone => true
  | .forceAutoRelease k => taskNo k
  | .powerUp _ _ _ _ _ => true
  | .rootPllLock => true
  | .pllLockTimeout => true
  | .nvmRecovered _ _ => true
  | .bootVerified _ _ _ _ => true
  | .moduleReset cause => decide (1 ≤ cause) && decide (cause ≤ 6)
  | .safeResetDelay => true
  | .clockFault c => decide (c ≤ 8)
  | .keeperCoreFault => true
  | .rcFault _ _ => true
  | .wdgExpired => true
  | .wdgHardReset => true
  | .wdgClockStopped => true
  | .freqGateComplete _ _ => true
  | .feedLost _ _ => true
  | .feedRestored _ _ => true
  | .feedOvervolt _ _ => true
  | .feedOvervoltDisconnect _ _ => true
  | .savingStart => true
  | .powerDownDone => true
  | .holdupReadyChange _ => true
  | .pageCommit p _ => p % 256 == 0 && decide (p < 0x400000)
  | .recorderFlush => true
  | .evrSuppressed => true
  | .periodicSnapshotDue => true
  | .operatingSCommit => true
  | .trngFail _ => true
  | .trngRestored => true
  | .trngHoldExpiry => true
  | .fuseRead _ _ => true
  | .rollbackAdvanced => true
  | .lampRoomRestart => true
  | .watchLossEntry => true
  | .tagRegionWrite r => regionNo r
  | .tagRfField => true
  | .tagWriteRetry r => regionNo r
  | .moduleStatus => true
  | .modeRead => true
  | .identityRead => true
  | .registerRead => true
  | .safe => true
  | .safeReset => true
  | .serviceEnter => true
  | .serviceLeave => true
  | .keeperRestart => true
  | .clockSelect => true
  | .clockMeasure => true
  | .watchdogSet => true
  | .transferOpen => true
  | .transferData => true
  | .transferClose => true
  | .batchRead => true
  | .programLoad _ => true
  | .programInfo => true
  | .run => true
  | .stop => true
  | .taskStatus => true
  | .taskRestart => true
  | .sectorRestart => true
  | .rangeRetest => true
  | .imageRead => true
  | .editLoad _ => true
  | .editStatus => true
  | .cutOver => true
  | .proofAbort => true
  | .rollback => true
  | .editCommit => true
  | .force => true
  | .release => true
  | .forceList => true
  | .pairClear => true
  | .groupCutReset => true
  | .cutTest => true
  | .aoChannelReset => true
  | .hartPassthrough => true
  | .reflexReset _ => true
  | .twinStatus => true
  | .roleSwap => true
  | .rejoin => true
  | .timeRead => true
  | .timeSettings => true
  | .timeStep => true
  | .schedule => true
  | .scheduleCancel => true
  | .rtcRead _ => true
  | .rtcSet => true
  | .weekdaySet => true
  | .rtcShift => true
  | .alarmSet => true
  | .alarmClear => true
  | .backupRecordClear => true
  | .recorderRead => true
  | .clearPrepare => true
  | .clearConfirm => true
  | .counterRead => true
  | .retainSnapshot => true
  | .lastLightRead => true
  | .sessionInfo => true
  | .enrollRequest _ _ => true
  | .enrollInstall _ _ _ _ => true
  | .ownerCertInstall _ _ _ => true
  | .keyRotate => true
  | .fuseStatus => true
  | .fwWrite _ _ _ _ => true
  | .activate => true
  | .fwStatus => true
  | .traceSet => true
  | .counterSelect => true
  | .snapshot => true
  | .canStatus => true
  | .txCancel => true
  | .portRestart => true
  | .networkSet => true
  | .firewallSet => true
  | .beamRxStatus => true
  | .buoyStatus => true
  | .buoyExchange => true
  | .tagRead => true
  | .rtcHourRollover => true
  | .rtcXtalStopped => true
  | .transferTimeout => true
  | .longCommandComplete _ => true
  | .twinCommandTimeout => true
  | .declaredInstant => true
  | .keeperFirmwareFault => true
  | .mailboxPoll m => mailboxNo m
  | .twinFrameSlot => true
  | .blockLockLost lane => decide (lane < 2)
  | .ptpSend p _ => ecnNo p
  | .xcutMaskExpiry n => pointNo n
  | .buoySupplyMissing b _ => socketNo b
  | .buoySupplyOk b _ => socketNo b
  | .buoyFeedReturned b _ _ => socketNo b
  | .fieldConnectorMateChange b _ => socketNo b
  | .tagRfFieldLeaves => true
  | .tagWriteComplete _ => true
  | .undefinedKapRecord _ _ _ => true

end Sys2Proof
end

