-- ==== Sys2Proof/Laws/PerInstr.lean ====
section
/-!
SUPPORT. The family LampPlace: a well-formed lamp instruction names one of the 512 lamps and a wait the interconnect can
cause (R32, R64), one lemma for each command.
-/
namespace Sys2Proof.Laws.LampPlace
open Sys2Proof.Machine

/-- A well-formed command that carries a lamp operand names an existing lamp and at most 16 fc of wait. -/
def Statement (i : Instr) : Prop := i.wf = true → match lampOpOf i with
  | some o => o.lamp < 512 ∧ o.wait ≤ 16
  | none => True

theorem lampOk_place (o : LampOp) (h : lampOk o = true) : o.lamp < 512 ∧ o.wait ≤ 16 := by
  simpa [lampOk, lampNo] using h

theorem add (o : LampOp) (rd rs1 rs2 : Reg) : Statement (.add o rd rs1 rs2) := lampOk_place o
theorem sub (o : LampOp) (rd rs1 rs2 : Reg) : Statement (.sub o rd rs1 rs2) := lampOk_place o
theorem and (o : LampOp) (rd rs1 rs2 : Reg) : Statement (.and o rd rs1 rs2) := lampOk_place o
theorem or (o : LampOp) (rd rs1 rs2 : Reg) : Statement (.or o rd rs1 rs2) := lampOk_place o
theorem xor (o : LampOp) (rd rs1 rs2 : Reg) : Statement (.xor o rd rs1 rs2) := lampOk_place o
theorem nor (o : LampOp) (rd rs1 rs2 : Reg) : Statement (.nor o rd rs1 rs2) := lampOk_place o
theorem slt (o : LampOp) (rd rs1 rs2 : Reg) : Statement (.slt o rd rs1 rs2) := lampOk_place o
theorem sltu (o : LampOp) (rd rs1 rs2 : Reg) : Statement (.sltu o rd rs1 rs2) := lampOk_place o
theorem sll (o : LampOp) (rd rs1 rs2 : Reg) : Statement (.sll o rd rs1 rs2) := lampOk_place o
theorem srl (o : LampOp) (rd rs1 rs2 : Reg) : Statement (.srl o rd rs1 rs2) := lampOk_place o
theorem sra (o : LampOp) (rd rs1 rs2 : Reg) : Statement (.sra o rd rs1 rs2) := lampOk_place o
theorem clz (o : LampOp) (rd rs1 : Reg) : Statement (.clz o rd rs1) := lampOk_place o
theorem mflk (o : LampOp) (rd : Reg) : Statement (.mflk o rd) := lampOk_place o
theorem mtlk (o : LampOp) (rs1 : Reg) : Statement (.mtlk o rs1) := lampOk_place o
theorem addi (o : LampOp) (rd rs1 : Reg) (imm : BitVec 16) : Statement (.addi o rd rs1 imm) := lampOk_place o
theorem andi (o : LampOp) (rd rs1 : Reg) (imm : BitVec 16) : Statement (.andi o rd rs1 imm) := lampOk_place o
theorem ori (o : LampOp) (rd rs1 : Reg) (imm : BitVec 16) : Statement (.ori o rd rs1 imm) := lampOk_place o
theorem xori (o : LampOp) (rd rs1 : Reg) (imm : BitVec 16) : Statement (.xori o rd rs1 imm) := lampOk_place o
theorem slti (o : LampOp) (rd rs1 : Reg) (imm : BitVec 16) : Statement (.slti o rd rs1 imm) := lampOk_place o
theorem sltiu (o : LampOp) (rd rs1 : Reg) (imm : BitVec 16) : Statement (.sltiu o rd rs1 imm) := lampOk_place o
theorem lui (o : LampOp) (rd : Reg) (imm : BitVec 16) : Statement (.lui o rd imm) := lampOk_place o
theorem slli (o : LampOp) (rd rs1 : Reg) (sh : BitVec 5) : Statement (.slli o rd rs1 sh) := lampOk_place o
theorem srli (o : LampOp) (rd rs1 : Reg) (sh : BitVec 5) : Statement (.srli o rd rs1 sh) := lampOk_place o
theorem srai (o : LampOp) (rd rs1 : Reg) (sh : BitVec 5) : Statement (.srai o rd rs1 sh) := lampOk_place o
theorem mul (o : LampOp) (rd rs1 rs2 : Reg) : Statement (.mul o rd rs1 rs2) := lampOk_place o
theorem mulh (o : LampOp) (rd rs1 rs2 : Reg) : Statement (.mulh o rd rs1 rs2) := lampOk_place o
theorem mulhu (o : LampOp) (rd rs1 rs2 : Reg) : Statement (.mulhu o rd rs1 rs2) := lampOk_place o
theorem div (o : LampOp) (rd rs1 rs2 : Reg) : Statement (.div o rd rs1 rs2) := lampOk_place o
theorem divu (o : LampOp) (rd rs1 rs2 : Reg) : Statement (.divu o rd rs1 rs2) := lampOk_place o
theorem rem (o : LampOp) (rd rs1 rs2 : Reg) : Statement (.rem o rd rs1 rs2) := lampOk_place o
theorem remu (o : LampOp) (rd rs1 rs2 : Reg) : Statement (.remu o rd rs1 rs2) := lampOk_place o
theorem extr (o : LampOp) (rd rs1 : Reg) (pos lenm1 : BitVec 5) : Statement (.extr o rd rs1 pos lenm1) := lampOk_place o
theorem extrs (o : LampOp) (rd rs1 : Reg) (pos lenm1 : BitVec 5) : Statement (.extrs o rd rs1 pos lenm1) := lampOk_place o
theorem insr (o : LampOp) (rd rs1 : Reg) (pos lenm1 : BitVec 5) : Statement (.insr o rd rs1 pos lenm1) := lampOk_place o
theorem perm (o : LampOp) (rd rs1 : Reg) (sel : BitVec 16) : Statement (.perm o rd rs1 sel) := lampOk_place o
theorem ldb (o : LampOp) (rd rs1 : Reg) (imm : BitVec 16) : Statement (.ldb o rd rs1 imm) := lampOk_place o
theorem ldh (o : LampOp) (rd rs1 : Reg) (imm : BitVec 16) : Statement (.ldh o rd rs1 imm) := lampOk_place o
theorem ldw (o : LampOp) (rd rs1 : Reg) (imm : BitVec 16) : Statement (.ldw o rd rs1 imm) := lampOk_place o
theorem stb (o : LampOp) (rs2 rs1 : Reg) (imm : BitVec 16) : Statement (.stb o rs2 rs1 imm) := lampOk_place o
theorem sth (o : LampOp) (rs2 rs1 : Reg) (imm : BitVec 16) : Statement (.sth o rs2 rs1 imm) := lampOk_place o
theorem stw (o : LampOp) (rs2 rs1 : Reg) (imm : BitVec 16) : Statement (.stw o rs2 rs1 imm) := lampOk_place o
theorem inb (o : LampOp) (rd rs1 : Reg) (imm : BitVec 16) : Statement (.inb o rd rs1 imm) := lampOk_place o
theorem inh (o : LampOp) (rd rs1 : Reg) (imm : BitVec 16) : Statement (.inh o rd rs1 imm) := lampOk_place o
theorem inw (o : LampOp) (rd rs1 : Reg) (imm : BitVec 16) : Statement (.inw o rd rs1 imm) := lampOk_place o
theorem outb (o : LampOp) (rs2 rs1 : Reg) (imm : BitVec 16) : Statement (.outb o rs2 rs1 imm) := lampOk_place o
theorem outh (o : LampOp) (rs2 rs1 : Reg) (imm : BitVec 16) : Statement (.outh o rs2 rs1 imm) := lampOk_place o
theorem outw (o : LampOp) (rs2 rs1 : Reg) (imm : BitVec 16) : Statement (.outw o rs2 rs1 imm) := lampOk_place o
theorem inbit (o : LampOp) (rd rs1 : Reg) (bit : BitVec 4) (off : BitVec 12) : Statement (.inbit o rd rs1 bit off) := lampOk_place o
theorem outbit (o : LampOp) (rs2 rs1 : Reg) (bit : BitVec 4) (off : BitVec 12) : Statement (.outbit o rs2 rs1 bit off) := lampOk_place o
theorem ld (o : LampOp) (b : RungBit) : Statement (.ld o b) := lampOk_place o
theorem ldn (o : LampOp) (b : RungBit) : Statement (.ldn o b) := lampOk_place o
theorem rungAnd (o : LampOp) (b : RungBit) : Statement (.rungAnd o b) := lampOk_place o
theorem andn (o : LampOp) (b : RungBit) : Statement (.andn o b) := lampOk_place o
theorem rungOr (o : LampOp) (b : RungBit) : Statement (.rungOr o b) := lampOk_place o
theorem orn (o : LampOp) (b : RungBit) : Statement (.orn o b) := lampOk_place o
theorem rungXor (o : LampOp) (b : RungBit) : Statement (.rungXor o b) := lampOk_place o
theorem coil (o : LampOp) (b : RungBit) : Statement (.coil o b) := lampOk_place o
theorem set (o : LampOp) (b : RungBit) : Statement (.set o b) := lampOk_place o
theorem rst (o : LampOp) (b : RungBit) : Statement (.rst o b) := lampOk_place o
theorem bpush (o : LampOp) (mode : BitVec 2) : Statement (.bpush o mode) := lampOk_place o
theorem bpop (o : LampOp) (mode : BitVec 2) : Statement (.bpop o mode) := lampOk_place o
theorem edgep (o : LampOp) (rs1 : Reg) (bit : BitVec 5) (off : BitVec 16) : Statement (.edgep o rs1 bit off) := lampOk_place o
theorem edgen (o : LampOp) (rs1 : Reg) (bit : BitVec 5) (off : BitVec 16) : Statement (.edgen o rs1 bit off) := lampOk_place o
theorem ton (o : LampOp) (rs1 : Reg) (blk : BitVec 12) : Statement (.ton o rs1 blk) := lampOk_place o
theorem tof (o : LampOp) (rs1 : Reg) (blk : BitVec 12) : Statement (.tof o rs1 blk) := lampOk_place o
theorem tp (o : LampOp) (rs1 : Reg) (blk : BitVec 12) : Statement (.tp o rs1 blk) := lampOk_place o
theorem ctu (o : LampOp) (rs1 : Reg) (blk : BitVec 12) : Statement (.ctu o rs1 blk) := lampOk_place o
theorem ctd (o : LampOp) (rs1 : Reg) (blk : BitVec 12) : Statement (.ctd o rs1 blk) := lampOk_place o
theorem swait (o : LampOp) (rd rs1 : Reg) (imm : BitVec 16) : Statement (.swait o rd rs1 imm) := lampOk_place o
theorem spub (o : LampOp) (rs2 rs1 : Reg) (imm : BitVec 16) : Statement (.spub o rs2 rs1 imm) := lampOk_place o
theorem j (o : LampOp) (off : BitVec 26) : Statement (.j o off) := lampOk_place o
theorem jal (o : LampOp) (off : BitVec 26) : Statement (.jal o off) := lampOk_place o
theorem jr (o : LampOp) (rs1 : Reg) : Statement (.jr o rs1) := lampOk_place o
theorem jalr (o : LampOp) (rs1 : Reg) : Statement (.jalr o rs1) := lampOk_place o
theorem ret (o : LampOp) : Statement (.ret o) := lampOk_place o
theorem jrThroughLkWithLink (o : LampOp) : Statement (.jrThroughLkWithLink o) := lampOk_place o
theorem beq (o : LampOp) (rs1 rs2 : Reg) (off : BitVec 16) : Statement (.beq o rs1 rs2 off) := lampOk_place o
theorem bne (o : LampOp) (rs1 rs2 : Reg) (off : BitVec 16) : Statement (.bne o rs1 rs2 off) := lampOk_place o
theorem blt (o : LampOp) (rs1 rs2 : Reg) (off : BitVec 16) : Statement (.blt o rs1 rs2 off) := lampOk_place o
theorem bge (o : LampOp) (rs1 rs2 : Reg) (off : BitVec 16) : Statement (.bge o rs1 rs2 off) := lampOk_place o
theorem bltu (o : LampOp) (rs1 rs2 : Reg) (off : BitVec 16) : Statement (.bltu o rs1 rs2 off) := lampOk_place o
theorem bgeu (o : LampOp) (rs1 rs2 : Reg) (off : BitVec 16) : Statement (.bgeu o rs1 rs2 off) := lampOk_place o
theorem fence (o : LampOp) : Statement (.fence o) := lampOk_place o
theorem yield (o : LampOp) (n : BitVec 8) : Statement (.yield o n) := lampOk_place o
theorem gend (o : LampOp) : Statement (.gend o) := lampOk_place o
theorem trap (o : LampOp) (code : BitVec 16) : Statement (.trap o code) := lampOk_place o
theorem slotReadResume (i fc : Nat) : Statement (.slotReadResume i fc) := fun _ => trivial
theorem spubIssue (i fc : Nat) : Statement (.spubIssue i fc) := fun _ => trivial
theorem fenceComplete (i : Nat) : Statement (.fenceComplete i) := fun _ => trivial
theorem scheduledInstant (k : Nat) : Statement (.scheduledInstant k) := fun _ => trivial
theorem eventTrigger (k : Nat) : Statement (.eventTrigger k) := fun _ => trivial
theorem agreementDeadline (k : Nat) : Statement (.agreementDeadline k) := fun _ => trivial
theorem logicEnd (k t : Nat) : Statement (.logicEnd k t) := fun _ => trivial
theorem digestDeadline (k : Nat) : Statement (.digestDeadline k) := fun _ => trivial
theorem outputStrobe (k : Nat) (line drv : Word) (clamps : List (Nat × Nat)) (bad : List Nat) : Statement (.outputStrobe k line drv clamps bad) := fun _ => trivial
theorem logicDeadline (k : Nat) : Statement (.logicDeadline k) := fun _ => trivial
theorem lateCycleStart (k : Nat) : Statement (.lateCycleStart k) := fun _ => trivial
theorem taskWdgVital (k : Nat) : Statement (.taskWdgVital k) := fun _ => trivial
theorem taskWdgNonvital (k : Nat) : Statement (.taskWdgNonvital k) := fun _ => trivial
theorem speculativeStart (i : Nat) : Statement (.speculativeStart i) := fun _ => trivial
theorem validateGroup (i : Nat) : Statement (.validateGroup i) := fun _ => trivial
theorem storeBufferDrain (i : Nat) : Statement (.storeBufferDrain i) := fun _ => trivial
theorem raSuspended (k : Nat) : Statement (.raSuspended k) := fun _ => trivial
theorem raResumed (k : Nat) : Statement (.raResumed k) := fun _ => trivial
theorem lockstepMismatch (g r code : Nat) (main chk : Word) : Statement (.lockstepMismatch g r code main chk) := fun _ => trivial
theorem lbistResult (g r : Nat) (p0 p1 : Bool) : Statement (.lbistResult g r p0 p1) := fun _ => trivial
theorem rangeSplit (g r d : Nat) : Statement (.rangeSplit g r d) := fun _ => trivial
theorem rangeJoined (g r d : Nat) : Statement (.rangeJoined g r d) := fun _ => trivial
theorem joinFailed (g r code : Nat) (main chk : Word) (fc : Nat) : Statement (.joinFailed g r code main chk fc) := fun _ => trivial
theorem observationStall (bad : Bool) : Statement (.observationStall bad) := fun _ => trivial
theorem gallerySleep (g : Nat) : Statement (.gallerySleep g) := fun _ => trivial
theorem galleryWake (g us : Nat) : Statement (.galleryWake g us) := fun _ => trivial
theorem memReady (g : Nat) : Statement (.memReady g) := fun _ => trivial
theorem galleryPowerFault (g : Nat) : Statement (.galleryPowerFault g) := fun _ => trivial
theorem interconnectFault (data : Bool) : Statement (.interconnectFault data) := fun _ => trivial
theorem scrubLine (mem g off : Nat) (mark : EccMark) : Statement (.scrubLine mem g off mark) := fun _ => trivial
theorem frtClear (k : Nat) : Statement (.frtClear k) := fun _ => trivial
theorem frtRun (k : Nat) (run : Bool) : Statement (.frtRun k run) := fun _ => trivial
theorem mbxWord0Write (m : Nat) (tk : Bool) (ws : List Word) : Statement (.mbxWord0Write m tk ws) := fun _ => trivial
theorem mbxInAckWrite (g : Nat) (w : Word) : Statement (.mbxInAckWrite g w) := fun _ => trivial
theorem wdgKick (w : Word) : Statement (.wdgKick w) := fun _ => trivial
theorem latchedLowRead (a : Nat) : Statement (.latchedLowRead a) := fun _ => trivial
theorem registerWrite (o : LampOp) (a : Nat) (v : Word) : Statement (.registerWrite o a v) := fun _ => trivial
theorem reflexSourceChange : Statement .reflexSourceChange := fun _ => trivial
theorem reflexMismatch (offB onB : Word) : Statement (.reflexMismatch offB onB) := fun _ => trivial
theorem reflexLaneMismatch (laneB : Word) : Statement (.reflexLaneMismatch laneB) := fun _ => trivial
theorem reflexCfgCheckPass (diff : Option Nat) (crcA crcB : Word) : Statement (.reflexCfgCheckPass diff crcA crcB) := fun _ => trivial
theorem bypassDecisionChange (n : Nat) (v : Bool) : Statement (.bypassDecisionChange n v) := fun _ => trivial
theorem debounceExpiry (n : Nat) : Statement (.debounceExpiry n) := fun _ => trivial
theorem diSupplyMissing (g mv : Nat) : Statement (.diSupplyMissing g mv) := fun _ => trivial
theorem diSupplyLow (g mv : Nat) : Statement (.diSupplyLow g mv) := fun _ => trivial
theorem diSupplyOk (g mv : Nat) : Statement (.diSupplyOk g mv) := fun _ => trivial
theorem testPulseStart (k : Nat) : Statement (.testPulseStart k) := fun _ => trivial
theorem testPulseEnd (k : Nat) (samples : BitVec 64) : Statement (.testPulseEnd k samples) := fun _ => trivial
theorem testWindowEnd (k : Nat) : Statement (.testWindowEnd k) := fun _ => trivial
theorem diTpSourceFault (k mv : Nat) : Statement (.diTpSourceFault k mv) := fun _ => trivial
theorem diPairFault (k : Nat) : Statement (.diPairFault k) := fun _ => trivial
theorem doStuckOn (n : Nat) : Statement (.doStuckOn n) := fun _ => trivial
theorem doStuckOff (n : Nat) : Statement (.doStuckOff n) := fun _ => trivial
theorem doShort (n : Nat) (temp : Bool) : Statement (.doShort n temp) := fun _ => trivial
theorem doGroupOverload (g ma : Nat) : Statement (.doGroupOverload g ma) := fun _ => trivial
theorem doBuoyOverload (ma : Nat) (mas : List Nat) : Statement (.doBuoyOverload ma mas) := fun _ => trivial
theorem doTestPulseStart (n : Nat) (requested : Bool) : Statement (.doTestPulseStart n requested) := fun _ => trivial
theorem doTestPulseEnd (n ma : Nat) (drv : Bool) : Statement (.doTestPulseEnd n ma drv) := fun _ => trivial
theorem doOnStateOpen (n ma : Nat) : Statement (.doOnStateOpen n ma) := fun _ => trivial
theorem xcutOpen (n us : Nat) : Statement (.xcutOpen n us) := fun _ => trivial
theorem cutTestPeriodic : Statement .cutTestPeriodic := fun _ => trivial
theorem cutTestElementEnd (ua : Nat) : Statement (.cutTestElementEnd ua) := fun _ => trivial
theorem loopWindowEnd (m : LoopSample) : Statement (.loopWindowEnd m) := fun _ => trivial
theorem loopSupplyLimit (n us : Nat) : Statement (.loopSupplyLimit n us) := fun _ => trivial
theorem aoCompliance (n hr : Nat) : Statement (.aoCompliance n hr) := fun _ => trivial
theorem aoComplianceCleared (n hr : Nat) : Statement (.aoComplianceCleared n hr) := fun _ => trivial
theorem hartIdentifyPoll (n : Nat) : Statement (.hartIdentifyPoll n) := fun _ => trivial
theorem hartCyclicPoll (n : Nat) : Statement (.hartCyclicPoll n) := fun _ => trivial
theorem hartResponse (n : Nat) (m : HartMsg) : Statement (.hartResponse n m) := fun _ => trivial
theorem hartResponseTimeout (n : Nat) : Statement (.hartResponseTimeout n) := fun _ => trivial
theorem buoyInserted (b : Nat) : Statement (.buoyInserted b) := fun _ => trivial
theorem buoyAuthDone (b step typ rev serial : Nat) (cnt : List Nat) : Statement (.buoyAuthDone b step typ rev serial cnt) := fun _ => trivial
theorem buoyAuthRetry (b : Nat) : Statement (.buoyAuthRetry b) := fun _ => trivial
theorem buoyCfgEcho (b : Nat) (want echo : Word) : Statement (.buoyCfgEcho b want echo) := fun _ => trivial
theorem buoyRemoved (b : Nat) : Statement (.buoyRemoved b) := fun _ => trivial
theorem buoyFeedLost (b : Nat) (fb : Bool) (mv : Nat) : Statement (.buoyFeedLost b fb mv) := fun _ => trivial
theorem buoySurge (b uj : Nat) (ch : Option Nat) : Statement (.buoySurge b uj ch) := fun _ => trivial
theorem buoyThoursUpdate (b : Nat) (t : Int) : Statement (.buoyThoursUpdate b t) := fun _ => trivial
theorem buoyCounterCommit (b : Nat) : Statement (.buoyCounterCommit b) := fun _ => trivial
theorem buoyMirrorUpdate : Statement .buoyMirrorUpdate := fun _ => trivial
theorem buoyExchangeEnd (b : Nat) : Statement (.buoyExchangeEnd b) := fun _ => trivial
theorem canFrameReceived (n : Nat) (x : CanFrame) (remote : Bool) : Statement (.canFrameReceived n x remote) := fun _ => trivial
theorem canTxComplete (n b : Nat) (tdcv : Option Nat) : Statement (.canTxComplete n b tdcv) := fun _ => trivial
theorem canArbLost (n b : Nat) : Statement (.canArbLost n b) := fun _ => trivial
theorem canBusError (n lec : Nat) (inData : Bool) (tec rc : Nat) (tx : Option Nat) : Statement (.canBusError n lec inData tec rc tx) := fun _ => trivial
theorem canBusOffDelay (n : Nat) : Statement (.canBusOffDelay n) := fun _ => trivial
theorem canBusOn (n : Nat) : Statement (.canBusOn n) := fun _ => trivial
theorem canRxStale (n i : Nat) : Statement (.canRxStale n i) := fun _ => trivial
theorem canCmdRequest (p : Nat) (h : Word) (args : List Word) (counter : Nat) (tagOk : Bool) : Statement (.canCmdRequest p h args counter tagOk) := fun _ => trivial
theorem netLinkUp (p : Nat) : Statement (.netLinkUp p) := fun _ => trivial
theorem netLinkDown (p : Nat) : Statement (.netLinkDown p) := fun _ => trivial
theorem ethernetFrameReceived (p : Nat) (f : EthFrame) : Statement (.ethernetFrameReceived p f) := fun _ => trivial
theorem prpSupervisionSend : Statement .prpSupervisionSend := fun _ => trivial
theorem beamReceive (p : Nat) (f : BeamFrame) : Statement (.beamReceive p f) := fun _ => trivial
theorem beamRxTimeout (c : Nat) : Statement (.beamRxTimeout c) := fun _ => trivial
theorem beamTxLate : Statement .beamTxLate := fun _ => trivial
theorem diagFrameSend : Statement .diagFrameSend := fun _ => trivial
theorem partnerHeartbeatSend : Statement .partnerHeartbeatSend := fun _ => trivial
theorem partnerHeartbeatReceived (h : Heartbeat) : Statement (.partnerHeartbeatReceived h) := fun _ => trivial
theorem kapSessionOpen (id : Nat) (e : HsEnd) : Statement (.kapSessionOpen id e) := fun _ => trivial
theorem handshakeTimeout (id : Nat) : Statement (.handshakeTimeout id) := fun _ => trivial
theorem kapKeyUpdate (id : Nat) : Statement (.kapKeyUpdate id) := fun _ => trivial
theorem kapSessionClose (id cause : Nat) : Statement (.kapSessionClose id cause) := fun _ => trivial
theorem kapLockoutEnd (peer : Nat) : Statement (.kapLockoutEnd peer) := fun _ => trivial
theorem mailboxRetentionExpiry (m : Nat) : Statement (.mailboxRetentionExpiry m) := fun _ => trivial
theorem mbxWrite (id no : Nat) (ws : List Word) : Statement (.mbxWrite id no ws) := fun _ => trivial
theorem mbxRead (id no : Nat) : Statement (.mbxRead id no) := fun _ => trivial
theorem mbxAck (id no : Nat) (w : Word) : Statement (.mbxAck id no w) := fun _ => trivial
theorem ackRead (id no : Nat) : Statement (.ackRead id no) := fun _ => trivial
theorem regRead (id no a n : Nat) : Statement (.regRead id no a n) := fun _ => trivial
theorem resume (id no m : Nat) : Statement (.resume id no m) := fun _ => trivial
theorem keeperTakeMessage (m : Nat) : Statement (.keeperTakeMessage m) := fun _ => trivial
theorem viewCheck : Statement .viewCheck := fun _ => trivial
theorem keeperResume (digestOk : Bool) : Statement (.keeperResume digestOk) := fun _ => trivial
theorem ptpMessage (p : Nat) (m : PtpMsg) : Statement (.ptpMessage p m) := fun _ => trivial
theorem timeRefQualified (k : Nat) : Statement (.timeRefQualified k) := fun _ => trivial
theorem timeRefLost (k cause : Nat) : Statement (.timeRefLost k cause) := fun _ => trivial
theorem timeSwitchDone (off : Int) : Statement (.timeSwitchDone off) := fun _ => trivial
theorem timeOffsetHigh : Statement .timeOffsetHigh := fun _ => trivial
theorem scheduledAction : Statement .scheduledAction := fun _ => trivial
theorem rtcAlarm (k : Nat) : Statement (.rtcAlarm k) := fun _ => trivial
theorem rtcShiftApply : Statement .rtcShiftApply := fun _ => trivial
theorem rtcKeeperCorrection : Statement .rtcKeeperCorrection := fun _ => trivial
theorem rtcBackupSwitch (sup : Nat) : Statement (.rtcBackupSwitch sup) := fun _ => trivial
theorem rtcCellLow (mv : Nat) : Statement (.rtcCellLow mv) := fun _ => trivial
theorem twinLock (ns rejects proto : Nat) : Statement (.twinLock ns rejects proto) := fun _ => trivial
theorem twinLockLost : Statement .twinLockLost := fun _ => trivial
theorem twinSilence : Statement .twinSilence := fun _ => trivial
theorem partnerInvisible : Statement .partnerInvisible := fun _ => trivial
theorem snapshotFrame (h : TwinHdr) (k idx : Nat) (last : Bool) (cycle t0 : Nat) (data : List Byte) : Statement (.snapshotFrame h k idx last cycle t0 data) := fun _ => trivial
theorem digestFrame (h : TwinHdr) (k : Nat) (d : Digest) : Statement (.digestFrame h k d) := fun _ => trivial
theorem relinquish (h : TwinHdr) (ts epoch : Nat) : Statement (.relinquish h ts epoch) := fun _ => trivial
theorem sectorFail (h : TwinHdr) (sec cause : Nat) : Statement (.sectorFail h sec cause) := fun _ => trivial
theorem roleAck (h : TwinHdr) (ts epoch : Nat) : Statement (.roleAck h ts epoch) := fun _ => trivial
theorem rejoinCtrl (h : TwinHdr) (m : RejoinMsg) : Statement (.rejoinCtrl h m) := fun _ => trivial
theorem mailbox (h : TwinHdr) (m : TwinMsg) : Statement (.mailbox h m) := fun _ => trivial
theorem rejoinData (h : TwinHdr) (l : List RejoinItem) : Statement (.rejoinData h l) := fun _ => trivial
theorem proof (h : TwinHdr) (m : ProofMsg) : Statement (.proof h m) := fun _ => trivial
theorem status (h : TwinHdr) (x : TwinStatus) : Statement (.status h x) := fun _ => trivial
theorem startupSearchEnd : Statement .startupSearchEnd := fun _ => trivial
theorem roleChange : Statement .roleChange := fun _ => trivial
theorem rejoinStart (x : RejoinCmp) : Statement (.rejoinStart x) := fun _ => trivial
theorem isolatedRejoinReady : Statement .isolatedRejoinReady := fun _ => trivial
theorem rejoinPassEnd (last : List (Nat × Nat)) : Statement (.rejoinPassEnd last) := fun _ => trivial
theorem tJoin : Statement .tJoin := fun _ => trivial
theorem rejoinFailed : Statement .rejoinFailed := fun _ => trivial
theorem rejoinRetry : Statement .rejoinRetry := fun _ => trivial
theorem tAssist : Statement .tAssist := fun _ => trivial
theorem proofStart : Statement .proofStart := fun _ => trivial
theorem editExpired : Statement .editExpired := fun _ => trivial
theorem tCut : Statement .tCut := fun _ => trivial
theorem editCommitted : Statement .editCommitted := fun _ => trivial
theorem tStopReached : Statement .tStopReached := fun _ => trivial
theorem stopDone : Statement .stopDone := fun _ => trivial
theorem forceAutoRelease (k : Nat) : Statement (.forceAutoRelease k) := fun _ => trivial
theorem powerUp (off : Nat) (lost brown supA supB : Bool) : Statement (.powerUp off lost brown supA supB) := fun _ => trivial
theorem rootPllLock : Statement .rootPllLock := fun _ => trivial
theorem pllLockTimeout : Statement .pllLockTimeout := fun _ => trivial
theorem nvmRecovered (fates : List (Option Bool)) (bad : List Nat) : Statement (.nvmRecovered fates bad) := fun _ => trivial
theorem bootVerified (sigA sigB : Option (Nat × Nat)) (ringOk : Bool) (tag : Option Word) : Statement (.bootVerified sigA sigB ringOk tag) := fun _ => trivial
theorem moduleReset (cause : Nat) : Statement (.moduleReset cause) := fun _ => trivial
theorem safeResetDelay : Statement .safeResetDelay := fun _ => trivial
theorem clockFault (c : Nat) : Statement (.clockFault c) := fun _ => trivial
theorem keeperCoreFault : Statement .keeperCoreFault := fun _ => trivial
theorem rcFault (dev : Int) (stopped : Bool) : Statement (.rcFault dev stopped) := fun _ => trivial
theorem wdgExpired : Statement .wdgExpired := fun _ => trivial
theorem wdgHardReset : Statement .wdgHardReset := fun _ => trivial
theorem wdgClockStopped : Statement .wdgClockStopped := fun _ => trivial
theorem freqGateComplete (cnt ref : Word) : Statement (.freqGateComplete cnt ref) := fun _ => trivial
theorem feedLost (b : Bool) (mv : Nat) : Statement (.feedLost b mv) := fun _ => trivial
theorem feedRestored (b : Bool) (mv : Nat) : Statement (.feedRestored b mv) := fun _ => trivial
theorem feedOvervolt (b : Bool) (mv : Nat) : Statement (.feedOvervolt b mv) := fun _ => trivial
theorem feedOvervoltDisconnect (b : Bool) (mv : Nat) : Statement (.feedOvervoltDisconnect b mv) := fun _ => trivial
theorem savingStart : Statement .savingStart := fun _ => trivial
theorem powerDownDone : Statement .powerDownDone := fun _ => trivial
theorem holdupReadyChange (mv : Nat) : Statement (.holdupReadyChange mv) := fun _ => trivial
theorem pageCommit (p : Nat) (ok : Bool) : Statement (.pageCommit p ok) := fun _ => trivial
theorem recorderFlush : Statement .recorderFlush := fun _ => trivial
theorem evrSuppressed : Statement .evrSuppressed := fun _ => trivial
theorem periodicSnapshotDue : Statement .periodicSnapshotDue := fun _ => trivial
theorem operatingSCommit : Statement .operatingSCommit := fun _ => trivial
theorem trngFail (test : Nat) : Statement (.trngFail test) := fun _ => trivial
theorem trngRestored : Statement .trngRestored := fun _ => trivial
theorem trngHoldExpiry : Statement .trngHoldExpiry := fun _ => trivial
theorem fuseRead (ws : List (Nat × Nat × List Word)) (temp : Int) : Statement (.fuseRead ws temp) := fun _ => trivial
theorem rollbackAdvanced : Statement .rollbackAdvanced := fun _ => trivial
theorem lampRoomRestart : Statement .lampRoomRestart := fun _ => trivial
theorem watchLossEntry : Statement .watchLossEntry := fun _ => trivial
theorem tagRegionWrite (r : Nat) : Statement (.tagRegionWrite r) := fun _ => trivial
theorem tagRfField : Statement .tagRfField := fun _ => trivial
theorem tagWriteRetry (r : Nat) : Statement (.tagWriteRetry r) := fun _ => trivial
theorem moduleStatus : Statement .moduleStatus := fun _ => trivial
theorem modeRead : Statement .modeRead := fun _ => trivial
theorem identityRead : Statement .identityRead := fun _ => trivial
theorem registerRead : Statement .registerRead := fun _ => trivial
theorem safe : Statement .safe := fun _ => trivial
theorem safeReset : Statement .safeReset := fun _ => trivial
theorem serviceEnter : Statement .serviceEnter := fun _ => trivial
theorem serviceLeave : Statement .serviceLeave := fun _ => trivial
theorem keeperRestart : Statement .keeperRestart := fun _ => trivial
theorem clockSelect : Statement .clockSelect := fun _ => trivial
theorem clockMeasure : Statement .clockMeasure := fun _ => trivial
theorem watchdogSet : Statement .watchdogSet := fun _ => trivial
theorem transferOpen : Statement .transferOpen := fun _ => trivial
theorem transferData : Statement .transferData := fun _ => trivial
theorem transferClose : Statement .transferClose := fun _ => trivial
theorem batchRead : Statement .batchRead := fun _ => trivial
theorem programLoad (x : Loaded) : Statement (.programLoad x) := fun _ => trivial
theorem programInfo : Statement .programInfo := fun _ => trivial
theorem run : Statement .run := fun _ => trivial
theorem stop : Statement .stop := fun _ => trivial
theorem taskStatus : Statement .taskStatus := fun _ => trivial
theorem taskRestart : Statement .taskRestart := fun _ => trivial
theorem sectorRestart : Statement .sectorRestart := fun _ => trivial
theorem rangeRetest : Statement .rangeRetest := fun _ => trivial
theorem imageRead : Statement .imageRead := fun _ => trivial
theorem editLoad (x : DeltaIn) : Statement (.editLoad x) := fun _ => trivial
theorem editStatus : Statement .editStatus := fun _ => trivial
theorem cutOver : Statement .cutOver := fun _ => trivial
theorem proofAbort : Statement .proofAbort := fun _ => trivial
theorem rollback : Statement .rollback := fun _ => trivial
theorem editCommit : Statement .editCommit := fun _ => trivial
theorem force : Statement .force := fun _ => trivial
theorem release : Statement .release := fun _ => trivial
theorem forceList : Statement .forceList := fun _ => trivial
theorem pairClear : Statement .pairClear := fun _ => trivial
theorem groupCutReset : Statement .groupCutReset := fun _ => trivial
theorem cutTest : Statement .cutTest := fun _ => trivial
theorem aoChannelReset : Statement .aoChannelReset := fun _ => trivial
theorem hartPassthrough : Statement .hartPassthrough := fun _ => trivial
theorem reflexReset (ok : Bool) : Statement (.reflexReset ok) := fun _ => trivial
theorem twinStatus : Statement .twinStatus := fun _ => trivial
theorem roleSwap : Statement .roleSwap := fun _ => trivial
theorem rejoin : Statement .rejoin := fun _ => trivial
theorem timeRead : Statement .timeRead := fun _ => trivial
theorem timeSettings : Statement .timeSettings := fun _ => trivial
theorem timeStep : Statement .timeStep := fun _ => trivial
theorem schedule : Statement .schedule := fun _ => trivial
theorem scheduleCancel : Statement .scheduleCancel := fun _ => trivial
theorem rtcRead (ok : Bool) : Statement (.rtcRead ok) := fun _ => trivial
theorem rtcSet : Statement .rtcSet := fun _ => trivial
theorem weekdaySet : Statement .weekdaySet := fun _ => trivial
theorem rtcShift : Statement .rtcShift := fun _ => trivial
theorem alarmSet : Statement .alarmSet := fun _ => trivial
theorem alarmClear : Statement .alarmClear := fun _ => trivial
theorem backupRecordClear : Statement .backupRecordClear := fun _ => trivial
theorem recorderRead : Statement .recorderRead := fun _ => trivial
theorem clearPrepare : Statement .clearPrepare := fun _ => trivial
theorem clearConfirm : Statement .clearConfirm := fun _ => trivial
theorem counterRead : Statement .counterRead := fun _ => trivial
theorem retainSnapshot : Statement .retainSnapshot := fun _ => trivial
theorem lastLightRead : Statement .lastLightRead := fun _ => trivial
theorem sessionInfo : Statement .sessionInfo := fun _ => trivial
theorem enrollRequest (csr : List Byte) (key : Nat) : Statement (.enrollRequest csr key) := fun _ => trivial
theorem enrollInstall (chainOk : Bool) (key node : Nat) (env : Option (Nat × Nat)) : Statement (.enrollInstall chainOk key node env) := fun _ => trivial
theorem ownerCertInstall (hash : Nat) (proofOk lock : Bool) : Statement (.ownerCertInstall hash proofOk lock) := fun _ => trivial
theorem keyRotate : Statement .keyRotate := fun _ => trivial
theorem fuseStatus : Statement .fuseStatus := fun _ => trivial
theorem fwWrite (sign : Bool) (sig : SigCheck) (signer : Nat) (writeOk : Bool) : Statement (.fwWrite sign sig signer writeOk) := fun _ => trivial
theorem activate : Statement .activate := fun _ => trivial
theorem fwStatus : Statement .fwStatus := fun _ => trivial
theorem traceSet : Statement .traceSet := fun _ => trivial
theorem counterSelect : Statement .counterSelect := fun _ => trivial
theorem snapshot : Statement .snapshot := fun _ => trivial
theorem canStatus : Statement .canStatus := fun _ => trivial
theorem txCancel : Statement .txCancel := fun _ => trivial
theorem portRestart : Statement .portRestart := fun _ => trivial
theorem networkSet : Statement .networkSet := fun _ => trivial
theorem firewallSet : Statement .firewallSet := fun _ => trivial
theorem beamRxStatus : Statement .beamRxStatus := fun _ => trivial
theorem buoyStatus : Statement .buoyStatus := fun _ => trivial
theorem buoyExchange : Statement .buoyExchange := fun _ => trivial
theorem tagRead : Statement .tagRead := fun _ => trivial
theorem rtcHourRollover : Statement .rtcHourRollover := fun _ => trivial
theorem rtcXtalStopped : Statement .rtcXtalStopped := fun _ => trivial
theorem transferTimeout : Statement .transferTimeout := fun _ => trivial
theorem longCommandComplete (op : Nat) : Statement (.longCommandComplete op) := fun _ => trivial
theorem twinCommandTimeout : Statement .twinCommandTimeout := fun _ => trivial
theorem declaredInstant : Statement .declaredInstant := fun _ => trivial
theorem keeperFirmwareFault : Statement .keeperFirmwareFault := fun _ => trivial
theorem mailboxPoll (m : Nat) : Statement (.mailboxPoll m) := fun _ => trivial
theorem twinFrameSlot : Statement .twinFrameSlot := fun _ => trivial
theorem blockLockLost (lane : Nat) : Statement (.blockLockLost lane) := fun _ => trivial
theorem ptpSend (p kind : Nat) : Statement (.ptpSend p kind) := fun _ => trivial
theorem xcutMaskExpiry (n : Nat) : Statement (.xcutMaskExpiry n) := fun _ => trivial
theorem buoySupplyMissing (b mv : Nat) : Statement (.buoySupplyMissing b mv) := fun _ => trivial
theorem buoySupplyOk (b mv : Nat) : Statement (.buoySupplyOk b mv) := fun _ => trivial
theorem buoyFeedReturned (b : Nat) (fb : Bool) (mv : Nat) : Statement (.buoyFeedReturned b fb mv) := fun _ => trivial
theorem fieldConnectorMateChange (b : Nat) (mated : Bool) : Statement (.fieldConnectorMateChange b mated) := fun _ => trivial
theorem tagRfFieldLeaves : Statement .tagRfFieldLeaves := fun _ => trivial
theorem tagWriteComplete (ok : Bool) : Statement (.tagWriteComplete ok) := fun _ => trivial
theorem undefinedKapRecord (id no typ : Nat) : Statement (.undefinedKapRecord id no typ) := fun _ => trivial

end Sys2Proof.Laws.LampPlace
end

