-- ==== Sys2Proof/Laws/Served.lean ====
section
/-!
SUPPORT. What the shared forms of the keeper's commands answer: nothing when the front of the queue is not theirs, and the
effect of their opcode on the queue's rest when the keeper serves it.
-/
namespace Sys2Proof.Machine

/-- The keeper does not serve opcode `op` now. -/
def NotFront (op : Nat) (s : State) : Prop :=
  s.kp.ready = false ∨ s.kp.queue = [] ∨ ∃ q rest, s.kp.queue = q :: rest ∧ q.opcode ≠ op

theorem command_notFront {op : Nat} {s : State} (f : Req → State → Option Ans × State) (h : NotFront op s) :
    command op f s = s := by
  unfold command
  rcases h with h | h | ⟨q, rest, h, h'⟩
  · split <;> simp_all
  · simp [h]
  · simp [h, h']

theorem commandData_notFront {op : Nat} {s : State} (f : Req → State → Option Ans × State) (h : NotFront op s) :
    commandData op f s = s := by
  unfold commandData
  rcases h with h | h | ⟨q, rest, h, h'⟩
  · split <;> simp_all
  · simp [h]
  · simp [h, h']

theorem commandOwn_notFront {op : Nat} {s : State} (f : Req → State → Option Ans × State) (h : NotFront op s) :
    commandOwn op f s = s := by
  unfold commandOwn
  rcases h with h | h | ⟨q, rest, h, h'⟩
  · split <;> simp_all
  · simp [h]
  · simp [h, h']

theorem readCmd_notFront {op : Nat} {s : State} (f : Req → State → Ans) (h : NotFront op s) : readCmd op f s = s :=
  command_notFront _ h

theorem simple_notFront {op : Nat} {s : State} (chk : Req → State → Option Nat) (eff : Req → State → Ans × State)
    (h : NotFront op s) : simple op chk eff s = s := command_notFront _ h

theorem twinWide_notFront {op : Nat} {s : State} (chk : Req → State → Option Ans)
    (eff : Req → State → Option Ans × State) (h : NotFront op s) : twinWide op chk eff s = s := commandData_notFront _ h

theorem command_refused {op : Nat} {q : Req} {rest : List Req} {s : State} (f : Req → State → Option Ans × State)
    (hr : s.kp.ready = true) (hf : s.kp.queue = q :: rest) (ho : q.opcode = op)
    (hm : modeRefused q (taken rest s) = true) : command op f s = finish q { rc := 0x0302 } (taken rest s) := by
  unfold command
  rw [hf]
  exact (if_pos ⟨ho, hr⟩).trans (if_pos hm)

theorem commandData_refused {op : Nat} {q : Req} {rest : List Req} {s : State} (f : Req → State → Option Ans × State)
    (hr : s.kp.ready = true) (hf : s.kp.queue = q :: rest) (ho : q.opcode = op)
    (hm : modeRefused q (taken rest s) = true) : commandData op f s = finish q { rc := 0x0302 } (taken rest s) := by
  unfold commandData
  rw [hf]
  exact (if_pos ⟨ho, hr⟩).trans (if_pos hm)

/-- The command is served: what its body answers is trimmed and written. -/
theorem command_served {op : Nat} {q : Req} {rest : List Req} {s : State} (f : Req → State → Option Ans × State)
    (h : Served op q rest s) : command op f s = match f q (taken rest s) with
      | (some a, t) => finish q (ansTrim a) t
      | (none, t) => t := by
  unfold command
  rw [h.front]
  exact (if_pos ⟨h.opcode, h.ready⟩).trans (if_neg (Bool.eq_false_iff.1 h.allowed))

theorem commandData_served {op : Nat} {q : Req} {rest : List Req} {s : State} (f : Req → State → Option Ans × State)
    (h : Served op q rest s) : commandData op f s = match f q (taken rest s) with
      | (some a, t) => finish q a t
      | (none, t) => t := by
  unfold commandData
  rw [h.front]
  exact (if_pos ⟨h.opcode, h.ready⟩).trans (if_neg (Bool.eq_false_iff.1 h.allowed))

theorem commandOwn_served {op : Nat} {q : Req} {rest : List Req} {s : State} (f : Req → State → Option Ans × State)
    (h : Served op q rest s) : commandOwn op f s = match f q (taken rest s) with
      | (some a, t) => finish q a t
      | (none, t) => t := by
  unfold commandOwn
  rw [h.front]
  exact if_pos ⟨h.opcode, h.ready⟩

theorem readCmd_served {op : Nat} {q : Req} {rest : List Req} {s : State} (f : Req → State → Ans)
    (h : Served op q rest s) : readCmd op f s = finish q (ansTrim (f q (taken rest s))) (taken rest s) :=
  command_served _ h

theorem simple_refused {op : Nat} {q : Req} {rest : List Req} {s : State} {chk : Req → State → Option Nat} {rc : Nat}
    (eff : Req → State → Ans × State) (h : Served op q rest s) (hc : chk q (taken rest s) = some rc) :
    simple op chk eff s = finish q (ansTrim (rcAns rc)) (taken rest s) := by
  refine (command_served _ h).trans ?_
  simp only [hc]

theorem simple_served {op : Nat} {q : Req} {rest : List Req} {s : State} {chk : Req → State → Option Nat}
    (eff : Req → State → Ans × State) (h : Served op q rest s) (hc : chk q (taken rest s) = none) :
    simple op chk eff s = finish q (ansTrim (eff q (taken rest s)).1) (eff q (taken rest s)).2 := by
  refine (command_served _ h).trans ?_
  simp only [hc]

theorem twinWide_refused {op : Nat} {q : Req} {rest : List Req} {s : State} {chk : Req → State → Option Ans} {a : Ans}
    (eff : Req → State → Option Ans × State) (h : Served op q rest s) (hc : chk q (taken rest s) = some a) :
    twinWide op chk eff s = finish q a (taken rest s) := by
  refine (commandData_served _ h).trans ?_
  simp only [hc]

/-- A twin-wide command of a module without a partner takes its own effect. -/
theorem twinWide_alone {op : Nat} {q : Req} {rest : List Req} {s : State} {chk : Req → State → Option Ans}
    (eff : Req → State → Option Ans × State) (h : Served op q rest s) (ha : Alone q (taken rest s))
    (hc : chk q (taken rest s) = none) : twinWide op chk eff s = match eff q (taken rest s) with
      | (some a, t) => finish q a t
      | (none, t) => t := by
  refine (commandData_served _ h).trans ?_
  have hp : (partnerThere (taken rest s) && passesTwin q (taken rest s)) = false := ha
  simp only [hc, hp, Bool.false_eq_true, if_false]

end Sys2Proof.Machine
end

