-- ==== Sys2Proof/Tests/Slice0.lean ====
section
/-!
SUPPORT. Tests. For every statement with hypotheses, a theorem `witness_<statement>` shows states and operands that meet the
hypotheses of each of its clauses; then ill-formed commands are refused, and single steps agree with worked examples of the
manual.
-/
namespace Sys2Proof.Tests
open Sys2Proof.Machine

/-! ### States the witnesses stand in -/

/-- A program: task 0 (cyclic, vital, sector 0, gallery 0) owns output bytes 0 to 7, task 1 (cyclic, not vital) bytes 8 to
15, task 8 is an event task. -/
def prog : ProgImage :=
  { id := 1
    tasks := [(0, { used := true, period := 1000, strobeOffset := 500, watchdog := 1000, pages := [0, 1], tOut := 100 }),
      (1, { used := true, period := 2000, strobeOffset := 900, watchdog := 2000, vital := false, pages := [0], tOut := 100 }),
      (8, { used := true, strobeOffset := 500, watchdog := 1000, vital := false, trigger := .eventBit 0 })]
    chart := [(0, [⟨0, 0, 0, 4, [⟨3, false, 1, false, false⟩], [⟨5, 1⟩], 0⟩])]
    slots := [⟨3, 0, false, 0, 1⟩, ⟨5, 0, false, 0, 1⟩]
    gal := [(0, { sector := some 0 })]
    pages := [(0, .task 0), (1, .task 1), (131072, .task 0)]
    outOwners := [⟨0, 8, 0⟩, ⟨512, 8, 1⟩] }

/-- The module with the program, in RUN. -/
def running : State :=
  { State.reset with img := some prog, mode := { exec := .run }, clk := { root := true, en := 0x7FFF#15 }
                     kp := { ready := true }, rcd := { ready := true }, nvm := { ready := true }
                     fab := { gal := [(0, { power := .on, memReady := true, sstate := .run })]
                              tasks := [(0, { mode := .running }), (1, { mode := .running }), (8, { mode := .running })] } }

/-- The same with lamp 0 as given. -/
def onLamp (l : Lamp) : State := { running with fab := { running.fab with lamps := [(0, l)] } }

/-- An executing lamp whose g1 is `w` and g2 is `v`. -/
def lampOn (w v : Word) : Lamp := { mode := .exec, pc := 0x1FFFFC, regs := ((Vector.replicate 32 0).set 1 w).set 2 v }

def theLamp : LampOp := { lamp := 0 }

theorem ready_of {o : LampOp} {s : State} (h : isShadowLamp s o.lamp = false ∧ (lampOf s o.lamp).mode = .exec ∧
    (lampOf s o.lamp).pc < 0x200000 ∧ (lampOf s o.lamp).pc % 4 = 0 ∧
    eccSeen s (eccKey 1 (lampGal o.lamp) (lampOf s o.lamp).pc) o.fetchErr = .ok ∧ o.z = 0) : LampReady o s :=
  ⟨h.1, h.2.1, h.2.2.1, h.2.2.2.1, h.2.2.2.2.1, h.2.2.2.2.2⟩

theorem served_of {op : Nat} {q : Req} {rest : List Req} {s : State} (h : s.kp.ready = true ∧ s.kp.queue = q :: rest ∧
    q.opcode = op ∧ modeRefused q (taken rest s) = false) : Served op q rest s := ⟨h.1, h.2.1, h.2.2.1, h.2.2.2⟩

/-- A request of a host at mailbox 0. -/
def req (op : Nat) (args : List Word := []) (role : Role := .engineer) : Req := ⟨.host 0, op, 7, args.length + 1, args, role, 5, false⟩

/-- A state whose keeper has only request `q`. -/
def asked (q : Req) (s : State) : State := { s with kp := { s.kp with ready := true, queue := [q] } }

theorem witness_AluFormsWriteResult : LampReady theLamp (onLamp (lampOn 1 2)) := ready_of (by decide)

theorem witness_DividesRoundTowardZero : LampReady theLamp (onLamp (lampOn 1 2)) ∧
    regGet (lampOf (onLamp (lampOn 0x80000000 0xFFFFFFFF)) 0) 1 = 0x80000000 ∧
    regGet (lampOf (onLamp (lampOn 0x80000000 0xFFFFFFFF)) 0) 2 = 0xFFFFFFFF ∧
    LampReady theLamp (onLamp (lampOn 0x80000000 0xFFFFFFFF)) ∧ LampReady theLamp (onLamp (lampOn 5 0)) ∧
    regGet (lampOf (onLamp (lampOn 5 0)) 0) 2 = 0 := by
  refine ⟨ready_of ?_, ?_, ?_, ready_of ?_, ready_of ?_, ?_⟩ <;> decide

theorem witness_FieldsAndPermute : LampReady theLamp (onLamp (lampOn 1 2)) ∧
    (27#5).toNat + (4#5).toNat + 1 ≤ 32 ∧ 32 < (28#5).toNat + (4#5).toNat + 1 ∧
    (∀ i, i < 4 → nib 0xDDDD i < 14) ∧ 14 ≤ nib 0xE000 3 := by
  refine ⟨ready_of ?_, ?_, ?_, ?_, ?_⟩ <;> decide

theorem witness_LoadsReadDspace :
    let s := onLamp (lampOn 0x7FFC 0)
    let u := onLamp (lampOn 0x100000 0)
    LampReady theLamp s ∧ dPlace s 0 0x7FFC = some ⟨3, 0, 0x7FFC⟩ ∧ (lampOf s 0).spec = false ∧
    eccSeen s (eccKey 3 0 0x7FFC) .ok = .ok ∧ 0x7FFC % 4 = 0 ∧
    LampReady theLamp u ∧ dPlace u 0 0x100000 = some ⟨2, 0, 0⟩ ∧ pageOk (pageUse u (dPage ⟨2, 0, 0⟩)) (lampOf u 0).task false = true ∧
    regGet (lampOf (onLamp (lampOn 0x7FFF 0)) 0) 1 + (0#16).signExtend 32 = 0x7FFF ∧ 0x7FFF % 2 ≠ 0 ∧
    dPlace s 0 0x8000 = none ∧ dPlace s 0 0x17FFFC = some ⟨2, 0, 0x7FFFC⟩ ∧
    pageOk (pageUse s (dPage ⟨2, 0, 0x7FFFC⟩)) (lampOf s 0).task false = false := by
  refine ⟨ready_of ?_, ?_, ?_, ?_, ?_, ready_of ?_, ?_, ?_, ?_, ?_, ?_, ?_, ?_⟩ <;> decide

theorem plain_of {o : LampOp} {s : State} (h : (lampOf s o.lamp).spec = false ∧ (lampOf s o.lamp).drain = [] ∧
    (lampOf s o.lamp).specs = []) : LampPlain o s := h

theorem view_of {o : LampOp} {a : Nat} {s : State} (p : LampPlain o s) (h : a < 0x10000 ∧ viewOk s (lampOf s o.lamp).task a = true ∧
    eccSeen s (eccKey 5 0 (eccView (lampOf s o.lamp).task a)) o.dataErr = .ok) : ViewReady o a s := ⟨p, h⟩

theorem out_of {o : LampOp} {x : Nat} {m : Word} {s : State} (p : LampPlain o s) (h : x % 4 = 0 ∧ x < 0x10000 ∧
    foreignMask s (lampOf s o.lamp).task x &&& m = 0 ∧ eccSeen s (eccKey 5 0 (eccOut x)) o.dataErr = .ok) : OutReady o x m s :=
  ⟨p, h⟩

theorem witness_StoresWriteDspace :
    let s := onLamp (lampOn 0x1000FC 0xABCD)
    LampReady theLamp s ∧ LampPlain theLamp s ∧ dPlace s 0 0x1000FC = some ⟨2, 0, 0xFC⟩ ∧
    pageOk (pageUse s (dPage ⟨2, 0, 0xFC⟩)) (lampOf s 0).task true = true ∧ eccSeen s (eccKey 2 0 0xFC) .ok = .ok ∧
    0x1000FC % 4 = 0 ∧ (0x1000FC + 1) % 4 ≠ 0 ∧ dPlace s 0 0x180000 = none := by
  refine ⟨ready_of ?_, plain_of ?_, ?_, ?_, ?_, ?_, ?_, ?_⟩ <;> decide

theorem witness_InputReadsShowTheView :
    let s := onLamp (lampOn 0x1FC 0)
    LampReady theLamp s ∧ LampPlain theLamp s ∧ ViewReady theLamp 0x1FC s ∧ 0x1FC % 4 = 0 ∧ (7#4).toNat < 8 ∧
    viewOk s (lampOf s 0).task 0xFFFF = false ∧
    0x600FC = 0x60000 + 16 * 15 + 4 * 3 ∧ pageOk (pageUse s (131072 + 15 / 16)) (lampOf s 0).task true = true ∧
    eccSeen s (eccKey 7 0 (16 * 15 + 4 * 3)) .ok = .ok ∧
    rctlDenied s 0 0x70FFC = false ∧ rctlDenied s 0 0x70008 = true := by
  refine ⟨ready_of ?_, plain_of ?_, view_of (plain_of ?_) ?_, ?_, ?_, ?_, ?_, ?_, ?_, ?_, ?_⟩ <;> decide

theorem witness_OutputWritesReachOwnBytes :
    let s := onLamp (lampOn 0x10004 0xFF)
    LampReady theLamp s ∧ LampPlain theLamp s ∧ OutReady theLamp 4 (byteMask 0x10007 1) s ∧ OutReady theLamp 4 (byteMask 0x10006 2) s ∧
    OutReady theLamp 4 0xFFFFFFFF s ∧ foreignMask s (lampOf s 0).task 512 &&& byteMask 0x10200 1 ≠ 0 ∧
    OutReady theLamp 4 (BitVec.ofNat 32 (2 ^ (8 * (0x10007 % 4) + 7))) s ∧
    pageOk (pageUse s (131072 + 15 / 16)) (lampOf s 0).task true = true ∧
    regGet (lampOf (onLamp (lampOn 0xFFFF 0)) 0) 1 = 0xFFFF ∧ regGet (lampOf (onLamp (lampOn 0x20000 0)) 0) 1 = 0x20000 := by
  refine ⟨ready_of ?_, plain_of ?_, out_of (plain_of ?_) ?_, out_of (plain_of ?_) ?_, out_of (plain_of ?_) ?_, ?_,
    out_of (plain_of ?_) ?_, ?_, ?_, ?_⟩ <;> decide

theorem witness_RungReadsCombineIntoBa :
    let s := onLamp (lampOn 0x10004 0xFF)
    LampReady theLamp s ∧ (regGet (lampOf s 0) 2).getLsbD (7#5).toNat = true ∧ ViewReady theLamp (0x1FF#20).toNat s ∧
    0x20000 ≤ (0x7FFFF#20).toNat ∧ (0x7FFFF#20).toNat < 0x80000 := by
  refine ⟨ready_of ?_, ?_, view_of (plain_of ?_) ?_, ?_, ?_⟩ <;> decide

theorem witness_RungConstantsLoad : LampReady theLamp (onLamp (lampOn 1 2)) := ready_of (by decide)

theorem witness_RungWritesAndBitStack :
    let s := onLamp (lampOn 0 0)
    let u := onLamp { lampOn 0 0 with ba := true, bits := [false] }
    LampReady theLamp s ∧ (lampOf s 0).ba = false ∧ (lampOf s 0).bits = [] ∧ OutReady theLamp 4 (BitVec.ofNat 32 (2 ^ 31)) s ∧
    LampReady theLamp u ∧ (lampOf u 0).ba = true ∧ (lampOf u 0).bits = false :: [] ∧
    OutReady theLamp 4 (BitVec.ofNat 32 (2 ^ 31)) u ∧ (0x5FFFF#20).toNat < 0x60000 ∧
    16 ≤ (lampOf (onLamp { lampOn 0 0 with bits := List.replicate 16 true }) 0).bits.length ∧ (1 : BitVec 2) ≠ 0 := by
  refine ⟨ready_of ?_, ?_, ?_, out_of (plain_of ?_) ?_, ready_of ?_, ?_, ?_, out_of (plain_of ?_) ?_, ?_, ?_, ?_⟩ <;> decide

theorem witness_EdgesReportAndRecord :
    let s := onLamp (lampOn 0x1000FC 0)
    LampReady theLamp s ∧ LampPlain theLamp s ∧ dPlace s 0 0x1000FC = some ⟨2, 0, 0xFC⟩ ∧
    pageOk (pageUse s (dPage ⟨2, 0, 0xFC⟩)) (lampOf s 0).task true = true ∧ eccSeen s (eccKey 2 0 0xFC) .ok = .ok ∧
    0x1000FE % 4 ≠ 0 := by
  refine ⟨ready_of ?_, plain_of ?_, ?_, ?_, ?_, ?_⟩ <;> decide

theorem block_of {o : LampOp} {b : Nat} {s : State} (p : LampPlain o s) (h : b < 4096 ∧
    pageOk (pageUse s (131072 + b / 16)) (lampOf s o.lamp).task true = true ∧ eccSeen s (eccKey 7 0 (16 * b)) o.dataErr = .ok ∧
    ∀ j, j < 4 → eccSeen s (eccKey 7 0 (16 * b + 4 * j)) .ok = .ok) : BlockReady o b s := ⟨p, h⟩

theorem witness_TimersFollowTheCycleStart : LampReady theLamp (onLamp (lampOn 15 0)) ∧
    BlockReady theLamp 15 (onLamp (lampOn 15 0)) ∧ 15 = (regGet (lampOf (onLamp (lampOn 15 0)) 0) 1 + (0#12).zeroExtend 32).toNat := by
  refine ⟨ready_of ?_, block_of (plain_of ?_) ?_, ?_⟩ <;> decide

theorem witness_CountersCountEdges :
    let s := onLamp { lampOn 15 0 with bits := [true] }
    let u := onLamp (lampOn 15 0)
    (LampReady theLamp s ∧ BlockReady theLamp 15 s ∧ (lampOf s 0).bits = true :: []) ∧
    (LampReady theLamp u ∧ BlockReady theLamp 15 u ∧ (lampOf u 0).bits = []) := by
  refine ⟨⟨ready_of ?_, block_of (plain_of ?_) ?_, ?_⟩, ready_of ?_, block_of (plain_of ?_) ?_, ?_⟩ <;> decide

/-- Lamp 0 in the one group of task 0, with slot 3 as it is read and slot 5 as it is published. -/
def atSlots (l : Lamp) (v : Slot) : State :=
  { onLamp l with fab := { (onLamp l).fab with slots := [(3, v), (5, { epoch := 255, ord := 1 })] } }

theorem witness_SlotsHandOverOneVersion :
    let s := atSlots (lampOn 3 0) { value := 9, ord := 1, quota := 1 }
    let u := atSlots { lampOn 3 0 with mode := .slotWait 3 1 } { value := 9, ord := 1, quota := 1 }
    let p := atSlots { lampOn 3 0 with mode := .pubWait 5 1 } {}
    (LampReady theLamp s ∧ LampPlain theLamp s ∧ SlotReadable s 0 3 ∧ eccSeen s (eccKey 6 0 12) .ok = .ok) ∧
    SlotAwaited (atSlots (lampOn 3 0) {}) 0 3 ∧
    (SlotPublishable s 0 5 ⟨5, 1⟩ ⟨5, 0, false, 0, 1⟩ ∧ (lampOf s 0).visAt ≤ (lampOf s 0).fc) ∧
    (regGet (lampOf (onLamp (lampOn 0x10000 0)) 0) 1).toNat = 65536 ∧
    (lampGroup s 0).reads.find? (fun r => r.slot == 65535) = none ∧
    (isShadowLamp u 0 = false ∧ (lampOf u 0).spec = false ∧ u.nvm.saveStage ≠ 1 ∧ (lampOf u 0).mode = .slotWait 3 1 ∧ SlotReadable u 0 3) ∧
    isShadowLamp p 0 = false ∧ (lampOf p 0).mode = .pubWait 5 1 ∧ (lampOf p 0).drain = [] ∧
    SlotPublishable p 0 5 ⟨5, 1⟩ ⟨5, 0, false, 0, 1⟩ := by
  refine ⟨⟨ready_of ?_, plain_of ?_, ⟨⟨3, false, 1, false, false⟩, ⟨3, 0, false, 0, 1⟩, ?_⟩, ?_⟩,
    ⟨⟨3, false, 1, false, false⟩, ⟨3, 0, false, 0, 1⟩, ?_⟩, ⟨⟨?_, ?_, ?_, ?_, ?_, ?_⟩, ?_⟩, ?_, ?_,
    ⟨?_, ?_, ?_, ?_, ⟨⟨3, false, 1, false, false⟩, ⟨3, 0, false, 0, 1⟩, ?_⟩⟩, ?_, ?_, ?_, ?_, ?_, ?_, ?_, ?_, ?_⟩ <;> decide

theorem witness_BranchesReachTheirTargets : LampReady theLamp (onLamp (lampOn 1 2)) ∧
    (let s := onLamp { lampOn 1 2 with pc := 0x200000 }
     isShadowLamp s 0 = false ∧ (lampOf s 0).mode = .exec ∧ 0x200000 ≤ (lampOf s 0).pc) ∧
    (lampOf (onLamp { lampOn 1 2 with pc := 2 }) 0).pc % 4 ≠ 0 := by
  refine ⟨ready_of ?_, ⟨?_, ?_, ?_⟩, ?_⟩ <;> decide

theorem witness_SystemInstructionsAct :
    let s := onLamp { lampOn 1 2 with readSlots := [3], pubSlots := [(5, 1)] }
    let b := onLamp { lampOn 1 2 with visAt := 1 }
    let f := onLamp { lampOn 1 2 with mode := .fenceWait, visAt := 3 }
    LampReady theLamp s ∧ storesVisible (lampOf s 0) = true ∧ LampReady theLamp b ∧ storesVisible (lampOf b 0) = false ∧
    ((lampOf f 0).mode = .fenceWait ∧ (lampOf f 0).drain = [] ∧ isShadowLamp f 0 = false) ∧
    ((lampOf s 0).spec = false ∧ s.nvm.saveStage ≠ 1 ∧
      (∀ r ∈ (lampGroup s 0).reads, (lampOf s 0).readSlots.contains r.slot || (lampOf s 0).pubSlots.any (fun p => p.1 == r.slot)) ∧
      ∀ p ∈ (lampGroup s 0).pubs, (lampOf s 0).pubSlots.any (fun x => x.1 == p.slot)) ∧
    LampReady theLamp (onLamp { lampOn 1 2 with spec := true }) := by
  refine ⟨ready_of ?_, ?_, ready_of ?_, ?_, ⟨?_, ?_, ?_⟩, ⟨?_, ?_, ?_, ?_⟩, ready_of ?_⟩ <;> decide

theorem apart_of {s : State} (sec : Nat) (h : s.edit.host ≠ 2) : HostApart s sec := fun e => absurd e h

/-- Task k of the program in LOGIC. -/
def inLogic (k : Nat) : State := { running with fab := { running.fab with tasks := [(k, { mode := .running, phase := .logic, start := 7 })] } }

theorem witness_TrapsAndWatchdogsEndTasks :
    let s := onLamp (lampOn 1 2)
    let p := onLamp { lampOn 1 2 with spec := true, specs := [⟨0, 0, 0, [], [], [], [], [], none, false, 0, 0, 0⟩] }
    (tabWf {} s.fab.lamps = true ∧ s.fab.isShadow = false ∧ (lampOf s 0).spec = false ∧ (lampOf s 0).mode = .exec ∧
      (taskCfg s (lampOf s 0).task).used = true ∧ (lampOf s 0).task < 16 ∧ (taskCfg s (lampOf s 0).task).vital = true ∧
      sectorState s 0 ≠ .safe ∧ HostApart s 0) ∧
    (tabWf {} p.fab.lamps = true ∧ (lampOf p 0).spec = true ∧ (lampOf p 0).specs ≠ []) ∧
    ((taskCfg (inLogic 0) 0).used = true ∧ (taskOf (inLogic 0) 0).phase = .logic ∧ (twOf (inLogic 0) 0).firstJoin = false ∧
      (taskCfg (inLogic 0) 0).vital = true ∧ sectorState (inLogic 0) 0 ≠ .safe ∧ HostApart (inLogic 0) 0) ∧
    (taskCfg (inLogic 1) 1).used = true ∧ (taskOf (inLogic 1) 1).phase = .logic ∧ (taskCfg (inLogic 1) 1).vital = false := by
  refine ⟨⟨?_, ?_, ?_, ?_, ?_, ?_, ?_, ?_, apart_of 0 ?_⟩, ⟨?_, ?_, ?_⟩, ⟨?_, ?_, ?_, ?_, ?_, apart_of 0 ?_⟩, ?_, ?_, ?_⟩ <;> decide

/-- A proof run's shadow stands in gallery 0. -/
def shadowed (l : Lamp) : State :=
  { onLamp l with edit := { shadow := some {} }, fab := { (onLamp l).fab with gal := [(0, { sstate := .shadow })] } }

theorem witness_LampCommandsAreGated :
    lampOpOf (.gend theLamp) = some theLamp ∧ lampOpOf (.fence theLamp) = some theLamp ∧ Instr.fence theLamp ≠ .gend theLamp ∧
    isShadowLamp (onLamp (lampOn 0 0)) 0 = false ∧ (lampOf (onLamp {}) 0).mode ≠ .exec ∧
    (lampOf (onLamp (lampOn 0 0)) 0).mode = .exec ∧ 0x200000 ≤ (lampOf (onLamp { lampOn 0 0 with pc := 0x200000 }) 0).pc ∧
    (lampOf (onLamp (lampOn 0 0)) 0).pc < 0x200000 ∧ (lampOf (onLamp (lampOn 0 0)) 0).pc % 4 = 0 ∧
    eccSeen (onLamp (lampOn 0 0)) (eccKey 1 0 0x1FFFFC) .double = .double ∧
    eccSeen (onLamp (lampOn 0 0)) (eccKey 1 0 0x1FFFFC) .ok = .ok ∧ ({ theLamp with z := 1 } : LampOp).z ≠ 0 ∧
    isShadowLamp (shadowed (lampOn 0 0)) 0 = true := by
  refine ⟨?_, ?_, ?_, ?_, ?_, ?_, ?_, ?_, ?_, ?_, ?_, ?_, ?_⟩ <;> first | rfl | decide

/-- A run-ahead task whose share of the cycle on lamp 0 has ended. -/
def ahead : State :=
  { running with
    img := some { prog with tasks := [(0, { used := true, period := 1000, vital := false, runAhead := true })] }
    fab := { running.fab with
      gal := [(0, { power := .on, memReady := true, sstate := .run, ranges := [(0, { st := .inService })] })]
      tasks := [(0, { mode := .running, phase := .logic, started := true, taken := [0] })] } }

def aGroup : SpecGroup := ⟨0, 0, 0, [⟨.view, 0, 0xFFFFFFFF, 0⟩], [], [], [], [], none, false, 0, 0, 0⟩

theorem witness_SpeculationCommitsOrVanishes :
    let s := { ahead with fab := { ahead.fab with lamps := [(0, { mode := .specWait, spec := true, specs := [aGroup], drain := [⟨.dspace, 0x100000, 1, 1, 0⟩] })] } }
    let u := { s with fab := { s.fab with tasks := [(0, { mode := .running, phase := .logic, view := [(0, 1)] })] } }
    ((lampOf ahead 0).mode = .idle ∧ lampServes ahead 0 = true ∧ nextGroup ahead 0 = none ∧ ahead.fab.isShadow = false ∧
      nextSpec ahead 0 = some (0, 0)) ∧
    ((lampOf s 0).specs = aGroup :: [] ∧ aGroup.cycle = (taskOf s aGroup.task).cycle ∧ (taskOf s aGroup.task).phase = .logic ∧
      (∀ u ∈ aGroup.used, (slotOf s u.1).prov = true → verNum (slotOf s u.1).epoch (slotOf s u.1).ord ≠ u.2) ∧
      (∀ r ∈ aGroup.reads, readHolds s aGroup.task r = true) ∧ aGroup.trap = none) ∧
    (∃ r ∈ aGroup.reads, readHolds u aGroup.task r = false) ∧ (taskOf u aGroup.task).phase = .logic ∧
    (lampOf s 0).drain = ⟨.dspace, 0x100000, 1, 1, 0⟩ :: [] ∧ dPlace s 0 0x100000 = some ⟨2, 0, 0⟩ ∧
    (let r := { running with fab := { running.fab with tasks := [(7, { raCycles := 64, raSquashed := 1 })] } }
     64 ≤ (taskOf r 7).raCycles ∧ (taskOf r 7).raCommitted < (taskOf r 7).raSquashed ∧ (taskOf r 7).raSuspended = 0) ∧
    (taskOf { running with fab := { running.fab with tasks := [(7, { raSuspended := 1 })] } } 7).raSuspended = 1 := by
  refine ⟨?_, ?_, ?_, ?_, ?_, ?_, ?_, ?_⟩ <;> decide

theorem wf_running (l : Lamp) : MemoriesWf (onLamp l) := by
  refine ⟨rfl, fun g => ?_⟩
  simp only [galOf, onLamp, running, tabGet]
  split <;> decide

theorem witness_StoresKeepMemoryCanonical : MemoriesWf (onLamp (lampOn 0x100000 1)) ∧
    LampReady theLamp (onLamp (lampOn 0x100000 1)) ∧ LampPlain theLamp (onLamp (lampOn 0x100000 1)) := by
  refine ⟨wf_running _, ready_of ?_, plain_of ?_⟩ <;> decide

/-- Task k of the program as given. -/
def withTask (k : Nat) (t : Task) (s : State) : State := { s with fab := { s.fab with tasks := [(k, t)] } }

/-- Gallery 0 as given, and range 0 of it. -/
def withRange (r : Nat) (x : Range) : State :=
  { running with fab := { running.fab with gal := [(0, { power := .on, memReady := true, sstate := .run, ranges := [(r, x)] })] } }

theorem witness_CyclesBeginAtTheirInstants :
    let s := withTask 0 { mode := .running, nextAt := some 5 } running
    let u := withTask 1 { mode := .running, nextAt := some 2000001, lateNext := true } running
    let e := withTask 8 { mode := .running } running
    let f := withTask 8 { mode := .running, phase := .logic } running
    let h := withTask 8 { mode := .running, phase := .logic, held := some 0 } running
    (twinOn s = false ∧ s.edit.toSwitch = [] ∧ mayStart s 0 = true ∧ (taskOf s 0).nextAt = some 5 ∧ (taskOf s 0).lateNext = false) ∧
    (twinOn u = false ∧ mayStart u 1 = true ∧ (taskOf u 1).nextAt = some 2000001 ∧ (taskOf u 1).lateNext = true) ∧
    ((taskCfg e 8).trigger ≠ .none ∧ mayStart e 8 = true) ∧
    ((taskOf f 8).phase ≠ .idle ∧ scanning f = true ∧ (taskOf f 8).held = none) ∧ (taskOf h 8).held ≠ none := by
  refine ⟨⟨?_, ?_, ?_, ?_, ?_⟩, ⟨?_, ?_, ?_, ?_⟩, ⟨?_, ?_⟩, ⟨?_, ?_, ?_⟩, ?_⟩ <;> decide

theorem witness_LogicEndsAndStrobes :
    let s := withTask 0 { mode := .running, phase := .logic, doneG := [0], start := 7 } running
    let a := withTask 0 { mode := .running, phase := .armed, strobeAt := 9 } running
    let d := withTask 1 { mode := .running, phase := .logic } running
    (twinOn s = false ∧ s.mode.role = .solo ∧ s.edit.toSwitch = [] ∧ (taskOf s 0).phase = .logic ∧ logicDone s 0 = true ∧
      max 1000007 (now s) ≤ (taskOf s 0).start + (taskCfg s 0).watchdog * 1000) ∧
    (a.img = some prog ∧ (taskOf a 0).phase = .armed ∧ (taskOf a 0).mode = .running ∧ (twOf a 0).adopt = false ∧
      (taskOf a 0).stretched = false ∧ stopAt a = none ∧ (twOf a 0).takeOver = false) ∧
    (taskCfg d 1).vital = false ∧ (taskOf d 1).phase = .logic ∧ (taskOf d 1).stretched = false := by
  refine ⟨⟨?_, ?_, ?_, ?_, ?_, ?_⟩, ⟨?_, ?_, ?_, ?_, ?_, ?_, ?_⟩, ?_, ?_, ?_⟩ <;> decide

theorem witness_RangesFailAndRecover :
    let s := withRange 15 { st := .inService }
    ((rangeOf s 0 15).split = false ∧ (rangeOf s 0 15).st = .inService ∧ HostApart s (galOf s 0).sector ∧
      (galOf s 0).sstate = .run ∧ sectorState s (galOf s 0).sector ≠ .safe) ∧
    ((rangeOf (withRange 0 { st := .lbist, lbCause := .mismatch }) 0 0).changing = false ∧
      (rangeOf (withRange 0 { st := .lbist, lbCause := .mismatch }) 0 0).lbCause ≠ .retest) ∧
    1 < (rangeOf (withRange 0 { st := .lbist, lbCause := .retest, retest := 2 }) 0 0).retest ∧
    rangeQuiet (withRange 0 { st := .inService, changing := true, chgSplit := true }) 0 0 = true ∧
    rangeQuiet (withRange 0 { st := .lbist, changing := true }) 0 0 = true := by
  refine ⟨⟨?_, ?_, apart_of _ ?_, ?_, ?_⟩, ⟨?_, ?_⟩, ?_, ?_, ?_⟩ <;> decide

theorem witness_GalleriesAndFabricFaults :
    let g (x : Gallery) : State := { running with fab := { running.fab with gal := [(15, x)] } }
    ((galOf (g { wakePending := true }) 15).power = .off ∧ (galOf (g { wakePending := true }) 15).wakePending = true) ∧
    ((galOf (g { power := .on }) 15).memReady = false ∧ (tabGet ({} : GalleryCfg) prog.gal 0).sector.isSome = true) ∧
    (galOf (g { power := .on }) 15).power = .on ∧ galNeeded { running with fab := { gal := [(15, { power := .on })] } } 15 = false ∧
    ((galOf running 0).power ≠ .off ∧ (galOf running 0).powerFault = false ∧ HostApart running (galOf running 0).sector ∧
      (galOf running 0).sstate = .run ∧ sectorState running (galOf running 0).sector ≠ .safe) ∧
    (let s := { onLamp (lampOn 1 2) with watch := { isOpen := true, snapReq := [(0, 0, 0, 1)] } }
     s.watch.snapReq = (0, 0, 0, 1) :: [] ∧ isShadowLamp s 0 = false ∧ (lampOf s 0).mode ≠ .idle ∧ s.watch.isOpen = true) ∧
    running.fab.icxFail = false ∧ (galOf running 0).memReady = true := by
  refine ⟨⟨?_, ?_⟩, ⟨?_, ?_⟩, ?_, ?_, ⟨?_, ?_, apart_of _ ?_, ?_, ?_⟩, ⟨?_, ?_, ?_, ?_⟩, ?_, ?_⟩ <;> decide

/-- The running module with its three buoys in service. -/
def field : State := { running with buoy := { socks := [(0, { st := .inService }), (1, { st := .inService }), (2, { st := .inService })] } }

/-- The same with a digital block, which is configured. -/
def withDio (d : Dio) : State := { field with dio := { d with configured := true } }

/-- Channel 31 is commanded 1 by its ON term. -/
def driven (d : Dio) : State := { withDio d with rfx := { latOn := 0x80000000 } }

theorem witness_ReflexHoldsDisagreement :
    let s := { field with rfx := { path := [⟨1100, 1, 2⟩, ⟨1200, 0, 0⟩], act := some {} } }
    s.rfx.path = ⟨1100, 1, 2⟩ :: [⟨1200, 0, 0⟩] ∧ (∀ q ∈ [(⟨1200, 0, 0⟩ : RfxPath)], max 1100 (now s) < q.due) ∧
    s.rfx.act = some {} ∧ (s.rfx.off ^^^ 1) &&& ~~~s.rfx.termDiff ≠ 0 ∧ (maskW (doLatch s true) ^^^ 1) &&& ~~~s.rfx.laneDiff ≠ 0 := by
  refine ⟨?_, ?_, ?_, ?_, ?_⟩ <;> decide

theorem witness_InputDecisionsFollowTerminals :
    let s := withDio { cfg := { pairs := [(31, { en := true, tDisc := 1000 })] }, di := [(63, { term := true, byp := true, due := some 5 })]
                       groups := [(2, { low := true })], pairs := [(31, { since := some 7, disc := true })] }
    ((diOf s 63).due = some 5 ∧ (diOf s 63).inWin = false ∧ s.rfx.proof = false ∧ fieldOn s 0 = true) ∧
    ((tabGet ({} : DiGroup) s.dio.groups 3).missing = false ∧ (tabGet ({} : DiGroup) s.dio.groups 3).low = false ∧
      (tabGet ({} : DiGroup) s.dio.groups 2).low = true ∧ 14999 < 15000 ∧ 15000 < 19200 ∧ 15500 ≤ 19699) ∧
    (pairOf s 31).since = some 7 ∧ (pairCfg s 31).en = true ∧ (pairOf s 31).fault = false ∧ (pairOf s 31).disc = true := by
  refine ⟨⟨?_, ?_, ?_, ?_⟩, ⟨?_, ?_, ?_, ?_, ?_, ?_⟩, ?_, ?_, ?_, ?_⟩ <;> decide

theorem witness_InputTestPulsesJudge :
    let c : DioCfg := { tp := [(7, { en := true, width := 300, period := 500 })], di := [(63, { tpEn := true, tpSrc := 7 })] }
    let s := withDio { cfg := c, di := [(63, { winByp := true, tpFault := true })] }
    let p := withDio { cfg := c, di := [(63, { winByp := true, tpFault := true })], srcs := [(7, { start := some 9, pulsing := true })] }
    let w := withDio { cfg := c, srcs := [(7, { start := some 9 })] }
    ((tpCfg s 7).en = true ∧ (tpCfg s 7).period ≠ 0 ∧ fieldOn s 0 = true ∧ (srcOf s 7).start = none ∧ diOn s 7 63 = true ∧ diOn s 7 0 = false) ∧
    ((srcOf p 7).start = some 9 ∧ (srcOf p 7).pulsing = true ∧ s.rfx.proof = false) ∧
    (srcOf w 7).start = some 9 ∧ (srcOf w 7).pulsing = false := by
  refine ⟨⟨?_, ?_, ?_, ?_, ?_, ?_⟩, ⟨?_, ?_, ?_⟩, ?_, ?_⟩ <;> decide

theorem witness_OutputFaultsLatchAndCut :
    let s := driven { drv := 0x80000000 }
    let t := { s with twin := { cfg := { en := true }, masked := [(31, 12)] }, mode := { exec := .run, role := .principal } }
    (twinOn s = false ∧ fieldOn s 1 = true ∧ doCmd s 0 = false ∧ (dchOf s 0).stuckOn = false) ∧ stuckOffOk s 31 = true ∧
    doDrive s 31 = true ∧ (withdrawn t 0 = false ∧ doCmd t 0 = false ∧ t.twin.cfg.xcutFilter ≤ 100) ∧
    t.twin.masked.find? (fun m => m.1 == 31) = some (31, 12) ∧ (dgrpOf s 3).overload = false := by
  refine ⟨⟨?_, ?_, ?_, ?_⟩, ?_, ?_, ⟨?_, ?_, ?_⟩, ?_, ?_⟩ <;> decide

theorem witness_OutputTestsJudge :
    let s := driven { cfg := { dout := [(31, { darkEn := true, pulseUs := 500 }), (0, { olEn := true, pulseUs := 500 })] }
                      dch := [(31, { reqDue := some 3 })], dgrp := [(0, { latched := 2 })] }
    let t := { s with twin := { cfg := { en := true }, locked := true }, mode := { exec := .run, role := .principal } }
    let p (b : Bool) := withDio { dch := [(31, { test := some ⟨b, false, 4⟩ })] }
    let c (b : Bool) := withDio { cutTest := some { group := 3, elemB := b, endTs := 8, rest := [], forCmd := false }, dgrp := [(0, { aFail := true })] }
    (doCmd s 31 = true ∧ (dchOf s 31).reqDue.isSome = true ∧ (doCfg s 31).darkEn = true ∧ (dchOf s 31).test = none ∧
      s.dio.configured = true ∧ buoyServes s 1 = true ∧ testBar s 31 true = none) ∧
    (doCmd t 0 = false ∧ (doCfg t 0).olEn = true ∧ (dchOf t 0).test = none ∧ buoyServes t 1 = true ∧ testBar t 0 false = none ∧ twinOn t = true) ∧
    (dchOf (p true) 31).test = some ⟨true, false, 4⟩ ∧ (dchOf (p false) 31).test = some ⟨false, false, 4⟩ ∧ doDrive s 31 = true ∧
    (s.mode.exec = .run ∧ s.dio.cfg.cutPeriod ≠ 0 ∧ s.dio.cutTest = none ∧ (∀ h, h < 1 → cutIsOpen s h = true) ∧ cutIsOpen s 1 = false) ∧
    (∃ x, (c false).dio.cutTest = some x ∧ x.group < 4 ∧ x.elemB = false) ∧
    ∃ x, (c true).dio.cutTest = some x ∧ x.group < 4 ∧ x.elemB = true ∧ (dgrpOf (c true) 0).aFail = true ∧
      0 ∈ groupSectors (c true) 0 ∧ sectorState (c true) 0 ≠ .safe ∧ HostApart (c true) 0 := by
  refine ⟨⟨?_, ?_, ?_, ?_, ?_, ?_, ?_⟩, ⟨?_, ?_, ?_, ?_, ?_, ?_⟩, ?_, ?_, ?_, ⟨?_, ?_, ?_, ?_, ?_⟩, ⟨_, rfl, ?_, ?_⟩,
    ⟨_, rfl, ?_, ?_, ?_, ?_, ?_, apart_of 0 ?_⟩⟩ <;> decide

theorem witness_LoopWindowsMeasure :
    let s := { field with loop := { cfg := { ins := [(15, { namurEn := true, supplyEn := true })], outs := [(7, { failOnComp := true })] }
                                    outs := [(7, { delivered := 100000 }), (6, { comp := true })] } }
    ((liCfg s 15).namurEn = true ∧ max 1 (liCfg s 15).namurFilter ≤ (liOf s 15).lowN + 1 ∧ max 1 (liCfg s 15).namurFilter ≤ (liOf s 15).highN + 1 ∧
      liValue (liCfg s 15) ((min 3599999 25000000 :: (liOf s 15).wins).take 5) < 3600000 ∧
      21000000 < liValue (liCfg s 15) ((min 21000001 25000000 :: (liOf s 15).wins).take 5) ∧ (liCfg s 0).namurEn = false) ∧
    ((liCfg s 15).supplyEn = true ∧ (liOf s 15).supLimit = false) ∧ (100000 ≤ (loOf s 7).delivered ∧ (loOf s 7).comp = false) ∧
    (loOf s 6).comp = true := by
  refine ⟨⟨?_, ?_, ?_, ?_, ?_, ?_⟩, ⟨?_, ?_⟩, ⟨?_, ?_⟩, ?_⟩ <;> decide

theorem witness_HartMastersPoll :
    let at_ (h : Hart) : State := { field with loop := { cfg := { ins := [(15, { hartEn := true })] }, hart := [(15, h)] } }
    let pass : HartPass := ⟨req 1, 6, [], false⟩
    (hartRuns (at_ { st := .identify }) 15 = true ∧ (hartOf (at_ { st := .identify }) 15).tx = .none ∧
      (hartOf (at_ { st := .identify }) 15).st = .identify ∧ (hartOf (at_ { st := .noResponse }) 15).st = .noResponse) ∧
    (hartRuns (at_ { st := .cyclic }) 15 = true ∧ (hartOf (at_ { st := .cyclic }) 15).st = .cyclic) ∧
    ((liCfg (at_ {}) 15).hartEn = true ∧ buoyServes (at_ {}) 2 = true ∧ hartMaster (at_ {}) = true ∧
      hartMaster { at_ {} with mode := { role := .assistant } } = false) ∧
    (hartOf (at_ { tx := .cmd0 }) 15).tx = .cmd0 ∧ (hartOf (at_ { tx := .cmd3, retries := 2 }) 15).tx = .cmd3 ∧
    2 ≤ (hartOf (at_ { tx := .cmd3, retries := 2 }) 15).retries ∧
    (hartOf (at_ { tx := .pass, pass := some pass, retries := 2 }) 15).pass ≠ none := by
  refine ⟨⟨?_, ?_, ?_, ?_⟩, ⟨?_, ?_⟩, ⟨?_, ?_, ?_, ?_⟩, ?_, ?_, ?_, ?_⟩ <;> decide

theorem witness_BuoysEnterAndLeaveService :
    let at_ (k : Sock) : State := { running with buoy := { socks := [(2, k)] } }
    (sockOf (at_ {}) 2).st = .empty ∧ (sockOf (at_ { st := .authenticating, attempts := 2 }) 2).st = .authenticating ∧
    ((sockOf (at_ { st := .authFailed, retryAt := some 5 }) 2).st = .authFailed ∧
      (sockOf (at_ { st := .authFailed, retryAt := some 5 }) 2).retryAt = some 5) ∧
    (sockOf (at_ { st := .configuring, cfgTries := 1 }) 2).st = .configuring ∧ (sockOf (at_ { st := .configuring, cfgTries := 1 }) 2).cfgTries < 2 ∧
    2 ≤ (sockOf (at_ { st := .configuring, cfgTries := 2 }) 2).cfgTries ∧
    ((sockOf field 1).st ≠ .empty ∧ (sockOf field 1).exch = false ∧ assistHost field = false ∧ (∀ sec ∈ buoySectors field 1, HostApart field sec) ∧
      0 ∈ buoySectors field 1 ∧ sectorState field 0 ≠ .safe) ∧
    (let s := at_ { st := .inService, exch := true, mated := true }
     (sockOf s 2).exch = true ∧ (sockOf s 2).st = .inService ∧ (sockOf s 2).mated = true ∧ s.rfx.proof = false) := by
  refine ⟨?_, ?_, ⟨?_, ?_⟩, ?_, ?_, ?_, ⟨?_, ?_, ?_, fun sec _ => apart_of sec ?_, ?_, ?_⟩, ⟨?_, ?_, ?_, ?_⟩⟩ <;> decide

theorem witness_BuoysCountTheirLife :
    let s := { running with buoy := { socks := [(2, { st := .inService, serial := 77, feedAOk := true, feedBOk := true, surge := 5000000000 })] } }
    buoyAuth s 2 = true ∧ (∀ c, c < 3 → c ≠ 2 → buoyAuth s c = false) ∧ (sockOf s 2).feedAOk = true ∧ (sockOf s 2).feedBOk = true := by
  refine ⟨?_, ?_, ?_, ?_⟩ <;> decide

theorem witness_CanPortsExchangeFrames :
    let f : CanFrame := { id := 7, ide := false, fdf := false, brs := false, data := [] }
    let flts : Tab CanFlt := [(62, { en := true, id := 7, mask := 0x7FF, action := 1 }), (63, { en := true, id := 8, mask := 0x7FF, action := 2, timeout := 5 })]
    let at_ (p : CanPort) : State := { running with can := [(3, { p with configured := true })] }
    let s := at_ { cfg := { flts := flts, txbs := [(63, { en := true })] }, tx := [(63, { st := .pending, frame := some f })]
                   slots := [(63, { cur := some ⟨f, 63, 0, 3⟩, stale := false })] }
    let b := at_ { cfg := { flts := flts, boAuto := true }, st := .busOff, recovering := true }
    let c := at_ { cfg := { flts := flts, boAuto := true }, st := .busOff }
    let l := at_ { tx := [(63, { st := .onBus, frame := some f, waiting := some f })] }
    (portOf s 3).configured = true ∧ (portOf s 3).st ≠ .busOff ∧ fltWinner s 3 f = some 62 ∧ (fltOf s 3 62).action = 1 ∧
    fltWinner s 3 { f with id := 8 } = some 63 ∧ (fltOf s 3 63).action = 2 ∧ (portOf s 3).fifo.length < 32 ∧
    32 ≤ (portOf (at_ { fifo := List.replicate 32 ⟨f, 0, 0, 0⟩ }) 3).fifo.length ∧ fltWinner s 3 { f with id := 9 } = none ∧
    ((txOf s 3 63).frame = some f ∧ canMayBe s 3 63 = true ∧ (txOf s 3 63).waiting = none ∧ (txOf s 3 63).noRetry = false) ∧
    ((txOf l 3 63).frame ≠ none ∧ canMayBe l 3 63 = true ∧ (txOf l 3 63).waiting = some f) ∧
    ((portOf c 3).st = .busOff ∧ (portOf c 3).cfg.boAuto = true ∧ (portOf c 3).recovering = false) ∧
    ((portOf b 3).st = .busOff ∧ (portOf b 3).recovering = true) ∧
    (tabGet ({} : CanSlot) (portOf s 3).slots 63).cur = some ⟨f, 63, 0, 3⟩ ∧ (tabGet ({} : CanSlot) (portOf s 3).slots 63).stale = false ∧
    (fltOf s 3 63).timeout ≠ 0 := by
  refine ⟨?_, ?_, ?_, ?_, ?_, ?_, ?_, ?_, ?_, ⟨?_, ?_, ?_, ?_⟩, ⟨?_, ?_, ?_⟩, ⟨?_, ?_, ?_⟩, ⟨?_, ?_⟩, ?_, ?_, ?_⟩ <;> decide

/-- The running module with ECN A and the service port up. -/
def wired : State :=
  { running with id := { node := 3 }, net := { cur := some { diagNode := 9 }, ports := [(0, { link := true }), (2, { link := true })] }
                 sec := { trng := .running } }

theorem witness_EthernetPortsFilterFrames :
    let s := { wired with net := { wired.net with prp := [⟨5, 7, 0, 1, false⟩] } }
    let f : EthFrame := { proto := 6, dport := 7410, open_ := some 2 }
    ((netPort running 2).link = false ∧ (netPort s 2).link = true ∧ ethHeld s = false) ∧
    (∃ e ∈ s.net.prp, e.src = 5 ∧ e.seq = 7 ∧ now s < e.ts + 400000000) ∧ isPtp { src := 5, rct := some (7, 1) } = false ∧
    (fwWinner s.net.fw 2 { proto := 17 } = none ∧ (fwWinner s.net.fw 2 f).map (fun x => (x.1, x.2.action % 2)) = some (0, 1)) ∧
    (s.kp.handshakes.any (fun h => h.id == 2) = false ∧ sessionOf s 2 = none ∧ s.kp.ready = true ∧ isBarred s f.sip.toNat = false ∧
      s.sec.trng = .running) ∧
    (ecnUp s = true ∧ ecnUp running = false) ∧ (∃ q qs, ({ s with beam := { queued := [⟨1, 2, [], []⟩] } } : State).beam.queued = q :: qs) ∧
    s.net.cur = some { diagNode := 9 } ∧ s.id.node ≠ 0 ∧ s.sec.nodeEpochOut = false := by
  refine ⟨⟨?_, ?_, ?_⟩, ⟨_, .head _, ?_, ?_, ?_⟩, ?_, ⟨?_, ?_⟩, ⟨?_, ?_, ?_, ?_, ?_⟩, ⟨?_, ?_⟩, ⟨_, _, rfl⟩, ?_, ?_, ?_⟩ <;> decide +kernel

/-- A receive connection 255 of node 4, and a frame for it. -/
def rxCfg : BeamRxCfg := { en := true, node := 4, conn := 8, len := 1, timeout := 100, ageLimit := 1000, safety := 5 }
def listening (x : BeamRx) : State := { wired with img := some { prog with beamRx := [(255, rxCfg)] }, beam := { rx := [(255, x)] } }
def aFrame : BeamFrame := { src := 4, conn := 8, len := 1, data := [9], ts := 5 }
def goodFrame : BeamFrame := { aFrame with scrc := scrcOf 5 (beamBody aFrame) }

theorem witness_BeamFramesAreJudged :
    let s := listening {}
    (beamForUs s goodFrame = true ∧ ethHeld s = false ∧ brxFind s goodFrame = some (255, rxCfg) ∧ goodFrame.version = 1) ∧
    (beamKey 255 goodFrame.epoch s).isOk = true ∧ goodFrame.tagOk = true ∧ goodFrame.same = true ∧
    goodFrame.scrc = scrcOf rxCfg.safety (beamBody goodFrame) ∧
    (goodFrame.len = rxCfg.len ∧ goodFrame.data.length = goodFrame.len ∧ goodFrame.typ = 1) ∧
    (goodFrame.ts ≤ now s + 1000000 ∧ now s ≤ goodFrame.ts + rxCfg.ageLimit * 1000) ∧ (brxOf s 255).synced = false ∧
    (beamKey 255 0 (listening { epoch := 1 })).isOk = false ∧
    ((brxCfg (listening { stale := false }) 255).en = true ∧ (brxOf (listening { stale := false }) 255).stale = false) ∧
    (let t := { s with twin := { cfg := { en := true }, epochTs := 2 }, mode := { role := .principal } }
     twinOn t = true ∧ t.id.node ≠ 0 ∧ t.sec.nodeEpochOut = false ∧ ecnUp t = true ∧ t.mode.role = .principal ∧ t.twin.double = false ∧
      1 < t.twin.epochTs) := by
  refine ⟨⟨?_, ?_, ?_, ?_⟩, ?_, ?_, ?_, ?_, ⟨?_, ?_, ?_⟩, ⟨?_, ?_⟩, ?_, ?_, ⟨?_, ?_⟩, ⟨?_, ?_, ?_, ?_, ?_, ?_, ?_⟩⟩ <;> decide +kernel

/-- Session 1 of an engineer, and a state in which it holds mailbox `m`. -/
def aSession (m : Option Nat) : Session := { identity := 5, role := .engineer, port := 2, peer := 77, mailbox := m, openedTs := 0, lastTs := 0, keyTs := 0 }
def keeper (k : Keeper) : State := { running with kp := { k with ready := true } }
def inSession (m : Option Nat) (b : Mbx) : State := keeper { sessions := [(1, some (aSession m))], mbx := [(7, b)] }

theorem witness_KapSessionsOpenAndClose :
    let s := keeper { handshakes := [⟨1, 77, 2, 0⟩], mbx := (List.range 7).map fun i => (i, { session := some 9 }) }
    (s.kp.handshakes.find? (fun h => h.id == 1) = some ⟨1, 77, 2, 0⟩ ∧ s.sec.owned = false ∧ s.kp.sessions.length < 8 ∧
      (List.range 8).find? (mbxFree s) = some 7) ∧
    (let u := { s with sec := { bars := [(77, { fails := [1, 2, 3, 4, 5, 6, 7, 8, 9] })] } }
     9 ≤ ((barOf u 77).fails.filter fun x => decide (now u < x + 60000000000)).length) ∧
    sessionOf (inSession (some 7) {}) 1 = some (aSession (some 7)) ∧
    (mbxOf (inSession none { retainUntil := some 5 }) 7).retainUntil = some 5 ∧
    (∀ x ∈ s.kp.sessions, ∀ y, x.2 = some y → y.mailbox ≠ none) ∧
    (barOf { s with sec := { bars := [(77, { barred := some 6 })] } } 77).barred = some 6 := by
  refine ⟨⟨?_, ?_, ?_, ?_⟩, ?_, ?_, ?_, nofun, ?_⟩ <;> decide

theorem witness_KapRecordsAnswer :
    let s := inSession (some 7) { fk := { full := true, words := [0x01010502#32] }, session := some 1, identity := 5 }
    let p := inSession none { retainUntil := some 5, identity := 5, role := .viewer }
    sessionOf s 1 = some (aSession (some 7)) ∧ ((mbxOf s 7).fk.full = true ∧ (mbxOf s 7).fkEpoch = s.kp.epoch ∧
      hdrTag (0x500#32) = dirTag (mbxOf s 7).fk ∧ (mbxOf s 7).replyQ = []) ∧ (mbxOf p 7).fk.full = false ∧
    sessionOf p 1 = some (aSession none) ∧
    ((aSession (some 7)).claim = false ∧ regAddrOk 0x1FFFC = true ∧ regGated s 0x1FFFC = false ∧ wordOwner 0x1FFFC = none) ∧
    (mbxOf p 7).session = none ∧ (mbxOf p 7).retainUntil ≠ none ∧ (mbxOf p 7).identity = (aSession none).identity ∧
      roleGe (aSession none).role (mbxOf p 7).role = true ∧ (aSession none).mailbox ≠ some 7 := by
  refine ⟨?_, ⟨?_, ?_, ?_, ?_⟩, ?_, ?_, ⟨?_, ?_, ?_, ?_⟩, ?_, ?_, ?_, ?_, ?_⟩ <;> decide

theorem witness_MailboxesCarryMessages :
    let held (m : Nat) (w : Word) (q : List Req) : State :=
      keeper { mbx := [(m, { tk := { full := true, words := [w] }, fk := { full := true, words := [w] }, session := some 1, identity := 5, role := .engineer })]
               queue := q, sessions := [(1, some (aSession (some 7)))] }
    let s := held 7 0x01010501#32 []
    (mbxOf s 7).fk.full = true ∧ (mbxOf s 6).fk.full = false ∧ (galOf s 15).powerFault = false ∧
    ((mbxOf (held 23 0x01010501#32 []) (8 + 15)).fk.full = true ∧ hdrTag (0x500#32) = dirTag (mbxOf (held 23 0x01010501#32 []) (8 + 15)).fk) ∧
    (s.kp.ready = true ∧ (mbxOf s 7).tk.full = true ∧ hdrLen ((mbxOf s 7).tk.words.getD 0 0) = 1 ∧ headCheck (reqOf s 7) = none ∧
      s.kp.queue.length < 64 ∧ headCheck (reqOf (held 7 0x01010502#32 []) 7) = some 0x0303 ∧
      64 ≤ (held 7 0x01010501#32 (List.replicate 64 (req 1))).kp.queue.length ∧
      hdrLen ((mbxOf (held 7 0x01010511#32 []) 7).tk.words.getD 0 0) = 17) ∧
    (mbxOf (held 25 1 []) 25).fk.full = true ∧ (mbxOf (held 24 1 []) 24).fk.full = true ∧
    (let c := { s with can := [(3, { configured := true, cfg := { cmdEn := true } })], sec := { canKey := true, canRole := 2 } }
     (portOf c 3).configured = true ∧ (portOf c 3).cfg.cmdEn = true ∧ ethHeld c = false ∧ c.sec.canLast < 1 ∧ c.sec.canKey = true ∧
      c.sec.canRole ≠ 0 ∧ c.kp.canBusy = none ∧ canOps.contains (hdrOp 0x01010501) = true ∧
      headCheck { origin := .can 3, opcode := hdrOp 0x01010501, tag := 5, len := 1, args := [], role := .operator } = none) ∧
    ∃ l rest, takeFirst (fun l : LongRun => l.req.opcode == 0x0122 && l.done) [⟨req 0x0122, true, 0, []⟩] = some (l, rest) := by
  refine ⟨?_, ?_, ?_, ⟨?_, ?_⟩, ⟨?_, ?_, ?_, ?_, ?_, ?_, ?_, ?_⟩, ?_, ?_, ⟨?_, ?_, ?_, ?_, ?_, ?_, ?_, ?_, ?_⟩, ⟨_, _, rfl⟩⟩ <;> decide

theorem witness_RepliesReachTheirSender :
    let s := inSession (some 7) { session := some 1, identity := 5 }
    ((mbxOf s 7).session ≠ none ∧ (mbxOf s 7).identity = (req 1).ident ∧ (mbxOf s 7).fk.full = false ∧ (mbxOf s 7).replyQ = []) ∧
    ((mbxOf (inSession none {}) 7).session = none ∧ (mbxOf (inSession none {}) 7).retainUntil = none) ∧
    (mbxOf (inSession (some 7) { session := some 1, fk := { full := true } }) 7).fk.full = true := by
  refine ⟨⟨?_, ?_, ?_, ?_⟩, ⟨?_, ?_⟩, ?_⟩ <;> decide

theorem witness_KeeperRestartsAndResumes :
    let s := keeper { queue := [req 1], transfer := some ⟨1, 4, 0, [], none, false, 0, 5, 0⟩ }
    s.kp.ready = true ∧ ({ s with kp := { s.kp with restart := some (.fault, 3) } } : State).kp.restart = some (.fault, 3) ∧
    (∃ u ∈ unitNames, unitState s u ≠ (viewOf s u).view) ∧ ∃ tr, s.kp.transfer = some tr := by
  refine ⟨?_, ?_, ?_, _, rfl⟩ <;> decide

theorem witness_KeeperServesTheFront :
    cmdOpOf .safe = some 0x0110 ∧ (asked (req 2) running).kp.queue = req 2 :: [] ∧ (req 2).opcode ≠ 0x0110 ∧
    cmdOpOf .serviceEnter = some 0x0112 ∧ modeRefused (req 0x0112) (taken [] (asked (req 0x0112) { running with mode := { power := .saving } })) = true := by
  refine ⟨?_, ?_, ?_, ?_, ?_⟩ <;> decide

/-- The keeper has only the request of `op` with `args`. -/
def on (op : Nat) (args : List Word) (s : State) : State := asked (req op args) s

theorem served (op : Nat) (args : List Word) (s : State) (h : modeRefused (req op args) (taken [] (on op args s)) = false) :
    Served op (req op args) [] (on op args s) := ⟨rfl, rfl, rfl, h⟩

/-- The running module as a variant V. -/
def twinned : State := { running with id := { variantV := true } }

/-- The module in STOP. -/
def stopped : State := { running with mode := {} }

theorem witness_ReadsReport :
    Served 0x0101 (req 0x0101) [] (on 0x0101 [] running) ∧ Served 0x0102 (req 0x0102) [] (on 0x0102 [] running) ∧
    Served 0x0103 (req 0x0103) [] (on 0x0103 [] running) ∧ Served 0x0104 (req 0x0104 [0, 1]) [] (on 0x0104 [0, 1] running) ∧
    (Served 0x0124 (req 0x0124 [4092]) [] (on 0x0124 [4092] running) ∧ arg (req 0x0124 [4092]) 0 % 4 = 0 ∧ arg (req 0x0124 [4092]) 0 < 4096) ∧
    Served 0x0202 (req 0x0202) [] (on 0x0202 [] running) ∧ Served 0x0212 (req 0x0212 [15]) [] (on 0x0212 [15] running) ∧
    (let s := { running with fab := { running.fab with tasks := [(15, { strobed := true })] } }
     let q := req 0x0216 [15, 0x1FFFC, 1]
     Served 0x0216 q [] (on 0x0216 [15, 0x1FFFC, 1] s) ∧ arg q 1 % 4 = 0 ∧ 0x10000 ≤ arg q 1 ∧ arg q 1 + 4 * arg q 2 ≤ 0x20000 ∧
      (taskOf s (arg q 0)).strobed = true) ∧
    Served 0x0302 (req 0x0302) [] (on 0x0302 [] running) ∧ Served 0x0501 (req 0x0501) [] (on 0x0501 [] twinned) ∧
    Served 0x0601 (req 0x0601) [] (on 0x0601 [] running) ∧ Served 0x0606 (req 0x0606) [] (on 0x0606 [] running) ∧
    Served 0x0801 (req 0x0801 [9]) [] (on 0x0801 [9] running) ∧ Served 0x0901 (req 0x0901) [] (on 0x0901 [] running) ∧
    Served 0x0906 (req 0x0906) [] (on 0x0906 [] running) ∧ Served 0x0A03 (req 0x0A03) [] (on 0x0A03 [] running) ∧
    (let s := { running with can := [(3, { configured := true })] }
     Served 0x0C01 (req 0x0C01 [3]) [] (on 0x0C01 [3] s) ∧ (portOf s (arg (req 0x0C01 [3]) 0 % 4)).configured = true) ∧
    Served 0x0D03 (req 0x0D03 [255]) [] (on 0x0D03 [255] running) ∧
    (Served 0x0E01 (req 0x0E01 [2]) [] (on 0x0E01 [2] running) ∧ aimConflict (req 0x0E01 [2]) (on 0x0E01 [2] running) = false) ∧
    Served 0x0403 (req 0x0403) [] (on 0x0403 [] running) ∧ Served 0x0803 (req 0x0803) [] (on 0x0803 [] running) ∧
    (Served 0x0E03 (req 0x0E03 [4]) [] (on 0x0E03 [4] running) ∧ running.tag.rf = false ∧ ({ running with tag := { rf := true } } : State).tag.rf = true ∧
      tagNewB { okB := true } = true ∧ tagNewB { okA := true } = false) := by
  refine ⟨served _ _ _ ?_, served _ _ _ ?_, served _ _ _ ?_, served _ _ _ ?_, ⟨served _ _ _ ?_, ?_, ?_⟩, served _ _ _ ?_, served _ _ _ ?_,
    ⟨served _ _ _ ?_, ?_, ?_, ?_, ?_⟩, served _ _ _ ?_, served _ _ _ ?_, served _ _ _ ?_, served _ _ _ ?_, served _ _ _ ?_, served _ _ _ ?_,
    served _ _ _ ?_, served _ _ _ ?_, ⟨served _ _ _ ?_, ?_⟩, served _ _ _ ?_, ⟨served _ _ _ ?_, ?_⟩, served _ _ _ ?_, served _ _ _ ?_,
    ⟨served _ _ _ ?_, ?_, ?_, ?_, ?_⟩⟩ <;> decide

/-- A state with an open transfer of kind `k` that session 7 owns, of the words `ws`. -/
def carrying (k : Nat) (ws : List Word) (closed : Bool) (s : State) : State :=
  { s with kp := { s.kp with transfer := some ⟨k, 4 * ws.length, crc32 (wordsBytes ws), ws, none, closed, 0, 5, 0⟩ } }

theorem witness_ModuleCommands :
    let m (x : ModeBlk) : State := { running with mode := x }
    (Served 0x0110 (req 0x0110) [] (on 0x0110 [] running) ∧ running.mode.exec ≠ .safe ∧ assistHost (on 0x0110 [] running) = false ∧ twinOn running = false) ∧
    (Served 0x0111 (req 0x0111) [] (on 0x0111 [] (m { exec := .safe })) ∧ (m { exec := .safe }).mode.causeOpen = false) ∧
    (Served 0x0112 (req 0x0112) [] (on 0x0112 [] stopped) ∧ stopped.mode.maint = false ∧ scanning stopped = false ∧
      transitionPending (on 0x0112 [] stopped) = false) ∧
    Served 0x0113 (req 0x0113) [] (on 0x0113 [] (m { maint := true })) ∧ Served 0x0114 (req 0x0114) [] (on 0x0114 [] running) ∧
    (Served 0x0120 (req 0x0120 [2, 8, 3]) [] (on 0x0120 [2, 8, 3] running) ∧ kindLen 2 8 = true ∧ kindRole 2 (req 0x0120) = true) ∧
    (let s := carrying 2 [] false running
     let t : Transfer := ⟨2, 8, 0, [5], some (0, [5]), false, 0, 5, 0⟩
     let u := on 0x0121 [4, 6] { s with kp := { s.kp with transfer := some t } }
     Served 0x0121 (req 0x0121 [4, 6]) [] u ∧ ownTransfer (req 0x0121 [4, 6]) u = some t ∧ t.last ≠ some (4, [6]) ∧
      arg (req 0x0121 [4, 6]) 0 = 4 * t.data.length ∧ arg (req 0x0121 [4, 6]) 0 + 4 * 1 ≤ t.len) ∧
    (let s := on 0x0122 [] (carrying 2 [5] false running)
     Served 0x0122 (req 0x0122) [] s ∧ longBusy s 0x0122 = false ∧ ∃ x, ownTransfer (req 0x0122) s = some x ∧ x.len = 4 * x.data.length ∧
      crc32 (wordsBytes x.data) = x.crc) ∧
    (let s := { stopped with clk := { stopped.clk with rc := true } }
     Served 0x0115 (req 0x0115 [0, 1]) [] (on 0x0115 [0, 1] s) ∧ srcReady s 1 = true ∧ Served 0x0117 (req 0x0117 [100, 1]) [] (on 0x0117 [100, 1] s)) ∧
    (Served 0x0116 (req 0x0116 [10, 0, 100000]) [] (on 0x0116 [10, 0, 100000] running) ∧ 16000000 ≤ clockHz.getD 0 0 * 100000 ∧
      running.clk.measSel ≠ some (10, 0, 100000)) := by
  refine ⟨⟨served _ _ _ ?_, ?_, ?_, ?_⟩, ⟨served _ _ _ ?_, ?_⟩, ⟨served _ _ _ ?_, ?_, ?_, ?_⟩, served _ _ _ ?_, served _ _ _ ?_,
    ⟨served _ _ _ ?_, ?_, ?_⟩, ⟨served _ _ _ ?_, ?_, ?_, ?_, ?_⟩, ⟨served _ _ _ ?_, ?_, _, rfl, ?_, rfl⟩, ⟨served _ _ _ ?_, ?_, served _ _ _ ?_⟩,
    ⟨served _ _ _ ?_, ?_, ?_⟩⟩ <;> decide

/-- A range and an empty-fabric state for RANGE_RETEST. -/
def inMaint : State :=
  { stopped with mode := { maint := true }, fab := { gal := [(15, { power := .on, ranges := [(15, { st := .retired })] })] } }

theorem carried {k : Nat} {q : Req} {ws : List Word} {s : State} (h : (ownTransfer q s).map (fun t => (t.kind, t.closed, t.data)) = some (k, true, ws)) :
    Transferred k q ws s := by
  match e : ownTransfer q s with
  | none => rw [e] at h; exact nomatch h
  | some t =>
    rw [e] at h
    injection h with h
    injection h with a b
    injection b with b c
    exact ⟨t, e, a, b, c⟩

/-- Gallery 0 in STOP, for a sector that is safe. -/
def safeSector : State := { running with fab := { running.fab with gal := [(0, { power := .on, memReady := true, sstate := .safe, ranges := [(0, { st := .inService }), (1, { st := .inService })] })] } }

theorem witness_ProgramCommands :
    (let s := on 0x0201 [] (carrying 1 [5] true stopped)
     Served 0x0201 (req 0x0201) [] s ∧ s.mode.exec = .stop ∧ transitionPending s = false ∧ longBusy s 0x0201 = false ∧
      Transferred 1 (req 0x0201) [5] s ∧ partnerThere s = false ∧ loadCheck s { id := 2 } = none) ∧
    (let s := on 0x0210 [0x102] stopped
     Served 0x0210 (req 0x0210 [0x102]) [] s ∧ runMode s = true ∧ transitionPending s = false ∧ imageOk s = true ∧ s.sec.margHold = false ∧
      runWarm 2 s = true ∧ retainSource s = none ∧ (argW (req 0x0210 [0x102]) 0).getLsbD 8 = true ∧ Alone (req 0x0210 [0x102]) s) ∧
    (let s := on 0x0211 [1] running
     Served 0x0211 (req 0x0211 [1]) [] s ∧ scanning s = true ∧ transitionPending s = false ∧ Alone (req 0x0211 [1]) s ∧ proving s = false ∧
      s.twin.rejoin.phase = 0) ∧
    (let s := on 0x0213 [1] (withTask 1 { mode := .stopped } running)
     Served 0x0213 (req 0x0213 [1]) [] s ∧ scanning s = true ∧ (taskCfg s 1).used = true ∧ (taskOf s 1).mode = .stopped ∧ Alone (req 0x0213 [1]) s) ∧
    (let s := on 0x0214 [0] safeSector
     Served 0x0214 (req 0x0214 [0]) [] s ∧ scanning s = true ∧ twinOn s = false ∧ sectorState s 0 = .safe ∧ sectorFits s 0 = true) ∧
    (let s := on 0x0215 [255] inMaint
     Served 0x0215 (req 0x0215 [255]) [] s ∧ arg (req 0x0215 [255]) 0 = 16 * 15 + 15 ∧ s.mode.maint = true ∧ longBusy s 0x0215 = false ∧
      (galOf s 15).sstate = .unassigned ∧ (galOf s 15).power = .on ∧ (rangeOf s 15 15).st = .retired) ∧
    (let s := { stopped with mode := { declared := [⟨.runStart false false, 9⟩] } }
     nextDeclared s = some ⟨.runStart false false, 9⟩ ∧ s.dio.cutTest = none ∧ runMode s = true ∧ s.img.isSome = true ∧ s.edit.toSwitch = []) ∧
    (let s := { running with mode := { exec := .run, declared := [⟨.stop true, 9⟩] } }
     stopDecl s = some (true, 9) ∧ s.mode.stopStage = 0 ∧ scanning s = true ∧ 0 ∈ tasksUsed s ∧ (taskOf s 0).mode = .running) ∧
    ({ running with mode := { exec := .run, stopStage := 3 } } : State).mode.stopStage = 3 ∧
    (let f : ForcePoint := ⟨2, 0, 1, 0, true⟩
     let s := withTask 0 { mode := .running, nextAt := some forceHold } { running with fab := { running.fab with forces := [f] } }
     (taskOf s 0).nextAt = some forceHold ∧ (taskOf s 0).lateNext = false ∧ mayStart s 0 = true ∧ f ∈ s.fab.forces ∧ f.ts + forceHold ≤ forceHold ∧
      forceIn s 0 f.kind f.index = true) := by
  refine ⟨⟨served _ _ _ ?_, ?_, ?_, ?_, carried rfl, ?_, ?_⟩, ⟨served _ _ _ ?_, ?_, ?_, ?_, ?_, ?_, ?_, ?_, rfl⟩,
    ⟨served _ _ _ ?_, ?_, ?_, rfl, ?_, ?_⟩, ⟨served _ _ _ ?_, ?_, ?_, ?_, rfl⟩, ⟨served _ _ _ ?_, ?_, ?_, ?_, ?_⟩,
    ⟨served _ _ _ ?_, ?_, ?_, ?_, ?_, ?_, ?_⟩, ⟨?_, ?_, ?_, ?_, ?_⟩, ⟨?_, ?_, ?_, ?_, ?_⟩, ?_, ⟨?_, ?_, ?_, ?_, ?_, ?_⟩⟩ <;> decide

/-- A delta to an empty program, with a spare placement. -/
def aDelta : Delta := { base := 1, serial := 3, stopEdit := false, cutAuto := false, n := 1000, affected := [], image := { id := 2 }, spare := some {} }
def editing (e : Edit) (x : ExecMode) (d : List Declared := []) : State :=
  { running with img := some { id := 1 }, mode := { exec := x, declared := d }, edit := e, fab := {} }

theorem witness_EditCommands :
    (let s := on 0x0301 [] (carrying 2 [5] true (editing {} .run))
     Served 0x0301 (req 0x0301) [] s ∧ editRefusal (.good aDelta 0) s = none ∧ Transferred 2 (req 0x0301) [5] s ∧ partnerThere s = false ∧
      aDelta.stopEdit = false ∧ s.edit.toSwitch = [] ∧ editRefusal (.good { aDelta with base := 9 } 0) s = some (0x0304, 15)) ∧
    (let s := on 0x0303 [] (editing { st := .held } .proof)
     transitionPending s = false ∧ Alone (req 0x0303) s ∧ Served 0x0303 (req 0x0303) [] s ∧ s.mode.exec = .proof ∧ s.edit.st = .held) ∧
    (let s := on 0x0304 [] (editing { st := .proving } .proof)
     transitionPending s = false ∧ Alone (req 0x0304) s ∧ Served 0x0304 (req 0x0304) [] s ∧ proving s = true ∧ assistHost s = false) ∧
    (let s := on 0x0305 [] (editing { st := .cutOver, until_ := some 5 } .run)
     transitionPending s = false ∧ Alone (req 0x0305) s ∧ Served 0x0305 (req 0x0305) [] s ∧ rollbackOpen s = true) ∧
    (let s := on 0x0306 [] (editing { st := .cutOver, until_ := some 5 } .run)
     transitionPending s = false ∧ Alone (req 0x0306) s ∧ Served 0x0306 (req 0x0306) [] s ∧ rollbackOpen s = true) ∧
    (let s := editing { st := .loaded, delta := some aDelta } .run [⟨.proofStart, 9⟩]
     s.mode.declared.find? (fun d => d.kind == .proofStart) = some ⟨.proofStart, 9⟩ ∧ s.edit.delta = some aDelta ∧ aDelta.rfxChange = false) ∧
    (let s := editing { st := .held, until_ := some 5 } .proof
     s.edit.until_ = some 5 ∧ cutPending s = false ∧ (editing { st := .cutOver, until_ := some 5 } .run).edit.st = .cutOver) ∧
    (let s := editing { st := .held, delta := some aDelta } .proof [⟨.cutOver, 9⟩]
     cutDecl s = some (false, 9) ∧ assistHost s = false ∧ scanning s = true) ∧
    (let s := editing { st := .cutOver, delta := some aDelta, old := some { id := 4 } } .run [⟨.rollback, 9⟩]
     cutDecl s = some (true, 9) ∧ s.edit.old = some { id := 4 }) := by
  refine ⟨⟨served _ _ _ ?_, ?_, carried rfl, ?_, ?_, ?_, ?_⟩, ⟨?_, rfl, served _ _ _ ?_, ?_, ?_⟩, ⟨?_, rfl, served _ _ _ ?_, ?_, ?_⟩,
    ⟨?_, rfl, served _ _ _ ?_, ?_⟩, ⟨?_, rfl, served _ _ _ ?_, ?_⟩, ⟨?_, ?_, ?_⟩, ⟨?_, ?_, ?_⟩, ⟨?_, ?_, ?_⟩, ⟨?_, ?_⟩⟩ <;> decide +kernel

/-- A state with one force, of DO channel 0, which is vital. -/
def forced : State := { running with fab := { running.fab with forces := [⟨2, 0, 1, 4, true⟩] } }

theorem witness_IoCommands :
    (let s := on 0x0401 [0x20000000, 1] forced
     let q := req 0x0401 [0x20000000, 1]
     Served 0x0401 q [] s ∧ Alone q s ∧ ptKind (arg q 0) = 2 ∧ ptIndex (arg q 0) = 0 ∧ pointOk s 2 0 = true ∧ arg q 1 ≤ 1 ∧ q.role = .engineer ∧
      (∃ f, forceAt s 2 0 = some f) ∧ pointOk s 2 31 = true ∧ forceAt s 2 31 = none ∧ (s.fab.forces.filter ForcePoint.vital).length < 64) ∧
    (let s := on 0x0402 [0x20000000] forced
     let q := req 0x0402 [0x20000000]
     Served 0x0402 q [] s ∧ Alone q s ∧ arg q 0 ≠ fullW ∧ ∃ f, forceAt s (ptKind (arg q 0)) (ptIndex (arg q 0)) = some f ∧ mayRelease q f = true) ∧
    (let s := on 0x0404 [0x80000000] (withDio { pairs := [(31, { fault := true })] })
     Served 0x0404 (req 0x0404 [0x80000000]) [] s ∧ Alone (req 0x0404 [0x80000000]) s ∧ pairsNamed (req 0x0404 [0x80000000]) s ≠ [] ∧ s.rfx.proof = false) ∧
    (let s := on 0x0405 [3] (withDio { dgrp := [(3, { latched := 2 })] })
     Served 0x0405 (req 0x0405 [3]) [] s ∧ Alone (req 0x0405 [3]) s ∧ (dgrpOf s 3).safe = false ∧ (dgrpOf s 3).latched ≠ 0 ∧
      ∀ i, i < 8 → s.dio.line.getLsbD (8 * 3 + i) = false ∧ doCmd s (8 * 3 + i) = false) ∧
    (let s := on 0x0407 [7] { field with loop := { outs := [(7, { rbFault := true })] } }
     Served 0x0407 (req 0x0407 [7]) [] s ∧ (loOf s 7).comp = false ∧ (loOf s 7).rbFault = true) ∧
    (let s := on 0x0408 [0x0000010F] { field with loop := { cfg := { ins := [(15, { hartEn := true })] }, hart := [(15, { st := .cyclic })] } }
     let q := req 0x0408 [0x0000010F]
     Served 0x0408 q [] s ∧ arg q 0 % 16 = 15 ∧ hartRuns s 15 = true ∧ hartRead (arg q 0 / 256 % 256) = true ∧ longBusy s 0x0408 = false ∧ (hartOf s 15).pass = none) ∧
    Served 0x0409 (req 0x0409) [] (on 0x0409 [] { running with rfx := { held := 3, termDiff := 1 } }) ∧
    (let p : CanPort := { configured := true, st := .busOff, tx := [(63, { st := .pending })] }
     let s := on 0x0C02 [0x3F03] { running with can := [(3, p)] }
     Served 0x0C02 (req 0x0C02 [0x3F03]) [] s ∧ arg (req 0x0C02 [0x3F03]) 0 % 4 = 3 ∧ arg (req 0x0C02 [0x3F03]) 0 / 256 = 63 ∧
      (portOf s 3).configured = true ∧ (txOf s 3 63).st = .pending ∧ Served 0x0C03 (req 0x0C03 [3]) [] (on 0x0C03 [3] { running with can := [(3, p)] }) ∧
      (portOf s 3).st = .busOff) ∧
    (Served 0x0D01 (req 0x0D01 [1, 0xFFFFFF00, 0]) [] (on 0x0D01 [1, 0xFFFFFF00, 0] running) ∧ maskOk 0xFFFFFF00 = true) ∧
    (let ws : List Word := List.replicate 512 0
     let s := on 0x0D02 [] (carrying 4 ws true running)
     Served 0x0D02 (req 0x0D02) [] s ∧ Transferred 4 (req 0x0D02) ws s ∧ (fwTable ws).isSome = true) ∧
    (let s := on 0x0E02 [2] { field with mode := { maint := true } }
     Served 0x0E02 (req 0x0E02 [2]) [] s ∧ s.mode.maint = true ∧ aimConflict (req 0x0E02 [2]) s = false ∧ (sockOf s 2).exch = false) := by
  refine ⟨⟨served _ _ _ ?_, rfl, ?_, ?_, ?_, ?_, ?_, ⟨_, rfl⟩, ?_, ?_, ?_⟩, ⟨served _ _ _ ?_, rfl, ?_, _, rfl, ?_⟩, ⟨served _ _ _ ?_, rfl, ?_, ?_⟩,
    ⟨served _ _ _ ?_, rfl, ?_, ?_, ?_⟩, ⟨served _ _ _ ?_, ?_, ?_⟩, ⟨served _ _ _ ?_, ?_, ?_, ?_, ?_, ?_⟩, served _ _ _ ?_,
    ⟨served _ _ _ ?_, ?_, ?_, ?_, ?_, served _ _ _ ?_, ?_⟩, ⟨served _ _ _ ?_, ?_⟩, ⟨served _ _ _ ?_, carried rfl, ?_⟩,
    ⟨served _ _ _ ?_, ?_, ?_, ?_⟩⟩ <;> decide +kernel

theorem witness_TimeCommands :
    Served 0x0602 (req 0x0602 [1, 2, 3, 4]) [] (on 0x0602 [1, 2, 3, 4] running) ∧
    (Served 0x0603 (req 0x0603 [9, 1]) [] (on 0x0603 [9, 1] stopped) ∧ stepAllowed (on 0x0603 [9, 1] stopped) = true) ∧
    (let s := on 0x0604 [0x801, 9, 0] running
     let q := req 0x0604 [0x801, 9, 0]
     Served 0x0604 q [] s ∧ Alone q s ∧ schFree s = some 0 ∧ now s ≤ schTime q ∧ arg q 0 % 4 = 1 ∧ twinOn s = false ∧ isOperator q = true) ∧
    (let s := on 0x0604 [2, 9, 0, 0x01100501] running
     let q := req 0x0604 [2, 9, 0, 0x01100501]
     let c := storedReq q 0
     Served 0x0604 q [] s ∧ arg q 0 % 4 = 2 ∧ notStored c.opcode = false ∧ c.len = q.len - 4 ∧ headerOk c = true ∧ roleOk c = true) ∧
    (let s := on 0x0605 [63] { running with time := { sch := [(63, { st := 1, ident := 5 })] } }
     Served 0x0605 (req 0x0605 [63]) [] s ∧ Alone (req 0x0605 [63]) s ∧ (schOf s 63).st = 1 ∧ (schOf s 63).ident = (req 0x0605).ident) ∧
    (let q := req 0x0607 [0x00180B1E, 0x00173B3B]
     Served 0x0607 q [] (on 0x0607 [0x00180B1E, 0x00173B3B] running) ∧ calOk (calWords (arg q 0) (arg q 1)) = true ∧ timeQualified running = false) ∧
    Served 0x0608 (req 0x0608 [6]) [] (on 0x0608 [6] running) ∧
    (Served 0x0609 (req 0x0609 [0xC000]) [] (on 0x0609 [0xC000] running) ∧ (signed16 (arg (req 0x0609 [0xC000]) 0)).natAbs ≤ 16384 ∧ running.rtc.shift = none) ∧
    (Served 0x060A (req 0x060A [1, 0, 0, 0x80000038]) [] (on 0x060A [1, 0, 0, 0x80000038] running) ∧ alarmPossible (alarmOf (req 0x060A [1, 0, 0, 0x80000038])) = true) ∧
    Served 0x060B (req 0x060B [1]) [] (on 0x060B [1] running) ∧ Served 0x060C (req 0x060C) [] (on 0x060C [] running) := by
  refine ⟨served _ _ _ ?_, ⟨served _ _ _ ?_, ?_⟩, ⟨served _ _ _ ?_, rfl, ?_, ?_, ?_, ?_, ?_⟩, ⟨served _ _ _ ?_, ?_, ?_, ?_, ?_, ?_⟩,
    ⟨served _ _ _ ?_, rfl, ?_, ?_⟩, ⟨served _ _ _ ?_, ?_, ?_⟩, served _ _ _ ?_, ⟨served _ _ _ ?_, ?_, ?_⟩, ⟨served _ _ _ ?_, ?_⟩,
    served _ _ _ ?_, served _ _ _ ?_⟩ <;> decide

theorem witness_TimeReferencesAndRtcEvents :
    let c (x : Cand) : State := { running with time := { cands := [(1, x)] }, net := { ports := [(1, { link := true })] } }
    ((c {}).time.ptpCfg.toNat % 4 ≠ 0 ∧ ethHeld (c {}) = false ∧ (netPort (c {}) 1).link = true ∧ (candOf (c { present := true }) 1).present = true ∧
      ptpMaster { c {} with time := { ptpCfg := 2 } } 1 = true) ∧
    ((candOf (c { stable := true }) 1).stable = true ∧ (candOf (c { stable := true }) 1).qual = false ∧ (candOf (c { stable := true, qual := true }) 1).qual = true) ∧
    (({ running with time := { switching := true, target := 2 } } : State).time.switching = true ∧ (999 : Int).natAbs < 1000) ∧
    (({ running with twin := { offHigh := some 5 } } : State).twin.offHigh = some 5 ∧ running.twin.offTold = false) ∧
    (let s := { running with time := { ts := 2000000, sch := [(63, { st := 1, ts := 999999 }), (5, { st := 1, kind := 1, ts := 1000001 })] } }
     let u := { s with time := { s.time with sch := [(5, { st := 1, kind := 1, ts := 1000001 })] } }
     schNext { s with kp := { s.kp with ready := true } } = some 63 ∧ s.time.lateWin * 1000 < now s - (schOf s 63).ts ∧
      schNext u = some 5 ∧ now u - (schOf u 5).ts ≤ u.time.lateWin * 1000 ∧ (schOf u 5).kind = 1) ∧
    (let a : Alarm := { en := true, mask := 63 }
     let s := { running with rtc := { alms := [(1, a)], shift := some (-1) }, time := { selected := 2 } }
     s.rtc.stopped = false ∧ alarmMatch a s.rtc.cal s.rtc.wday = true ∧ a.notIn ≠ some s.rtc.cal ∧ s.rtc.shift = some (-1) ∧ timeQualified s = true ∧
      s.rtc.supply ≠ 2 ∧ s.rtc.firstValid = false) := by
  refine ⟨⟨?_, ?_, ?_, ?_, ?_⟩, ⟨?_, ?_, ?_⟩, ⟨?_, ?_⟩, ⟨?_, ?_⟩, ⟨?_, ?_, ?_, ?_, ?_⟩, ⟨?_, ?_, ?_, ?_, ?_, ?_, ?_⟩⟩ <;> decide

/-- The module with its random source running, and a mailbox bound to session 1. -/
def securing : State := { stopped with sec := { trng := .running }, kp := { mbx := [(0, { session := some 1, identity := 5 })] } }

/-- A task of the program that retains, in RUN. -/
def retaining : State := { running with img := some { prog with tasks := [(0, { used := true, retain := true })] } }

/-- A keeper image (type 2) of one payload word, as FW_WRITE takes it. -/
def fwWords : List Word := [0x5A465701, 1, 2, 0x512456] ++ List.replicate 28 0 ++ [256, 4] ++ List.replicate 31 0

theorem witness_RecorderSecurityAndFirmwareCommands :
    (let s := on 0x0701 [0, 16] { securing with rcd := { staged := [{ code := 1, source := 0 }] } }
     Served 0x0701 (req 0x0701 [0, 16]) [] s ∧ longBusy s 0x0701 = false ∧ ∀ x ∈ recHeld s, x.1 = none) ∧
    (Served 0x0702 (req 0x0702) [] (on 0x0702 [] securing) ∧ (on 0x0702 [] securing).sec.trng = .running) ∧
    (let s := on 0x0703 [7] { securing with kp := { securing.kp with token := some (7, 0, 30000000000) } }
     Served 0x0703 (req 0x0703 [7]) [] s ∧ tokenOk (req 0x0703 [7]) s = true ∧ s.rcd.degraded = false ∧
      Served 0x0703 (req 0x0703 [8]) [] (on 0x0703 [8] s) ∧ tokenOk (req 0x0703 [8]) (on 0x0703 [8] s) = false) ∧
    (Served 0x0802 (req 0x0802) [] (on 0x0802 [] retaining) ∧ scanning retaining = true ∧ anyRetain (on 0x0802 [] retaining) = true) ∧
    (Served 0x0902 (req 0x0902 [5]) [] (on 0x0902 [5] securing) ∧ scanning securing = false ∧ longBusy (on 0x0902 [5] securing) 0x0902 = false) ∧
    (let s := on 0x0903 [] (carrying 5 [1] true { securing with sec := { trng := .running, pendNode := some 5, pendKey := 77 } })
     Served 0x0903 (req 0x0903) [] s ∧ Transferred 5 (req 0x0903) [1] s ∧ s.sec.pendNode = some 5 ∧ s.sec.pendKey = 77) ∧
    (let s := on 0x0904 [] (carrying 6 [1] true { securing with sec := { owned := true } })
     Served 0x0904 (req 0x0904) [] s ∧ s.mode.exec = .stop ∧ s.sec.claimFails < 5 ∧ Transferred 6 (req 0x0904) [1] s ∧ s.sec.owned = true) ∧
    (let s := on 0x0905 [1] securing
     Served 0x0905 (req 0x0905 [1]) [] s ∧ Alone (req 0x0905 [1]) s ∧ (req 0x0905 [1]).origin ≠ .partner ∧ counterGet s 7 < 0xFFFF ∧ counterGet s 8 < 0xFFFF ∧
      Served 0x0905 (req 0x0905 [2]) [] (on 0x0905 [2] securing) ∧ s.sec.canEpoch < 0xFFFF) ∧
    (let s := on 0x0A01 [] (carrying 3 fwWords true securing)
     Served 0x0A01 (req 0x0A01) [] s ∧ longBusy s 0x0A01 = false ∧ Transferred 3 (req 0x0A01) fwWords s ∧ fwCheck (req 0x0A01) fwWords true .good s = none) ∧
    (let s := on 0x0A02 [] { securing with fw := { inactiveValid := true } }
     Served 0x0A02 (req 0x0A02) [] s ∧ activateMode s = true ∧ (req 0x0A02).role ≠ .vendorService ∧ longBusy s 0x0A02 = false ∧ s.fw.inactiveValid = true ∧
      twinOn s = false) := by
  refine ⟨⟨served _ _ _ ?_, ?_, ?_⟩, ⟨served _ _ _ ?_, ?_⟩, ⟨served _ _ _ ?_, ?_, ?_, served _ _ _ ?_, ?_⟩, ⟨served _ _ _ ?_, ?_, ?_⟩,
    ⟨served _ _ _ ?_, ?_, ?_⟩, ⟨served _ _ _ ?_, carried rfl, ?_, ?_⟩, ⟨served _ _ _ ?_, ?_, ?_, carried rfl, ?_⟩,
    ⟨served _ _ _ ?_, rfl, ?_, ?_, ?_, served _ _ _ ?_, ?_⟩, ⟨served _ _ _ ?_, ?_, carried rfl, ?_⟩, ⟨served _ _ _ ?_, ?_, ?_, ?_, ?_, ?_⟩⟩ <;> decide

theorem witness_NvmAndLampRoomEvents :
    (let j : NvmJob := ⟨.append 1, 0, [(5, 1), (6, 0)], true⟩
     let s := { running with nvm := { jobs := [j] } }
     jobAt s 5 = some 0 ∧ s.nvm.jobs[0]? = some j ∧ j.pages.filter (fun x => x.1 != 5) ≠ [] ∧ ((j.pages.find? fun x => x.1 == 5).map Prod.snd).getD 0 < 2 ∧
      ([(5, 1)] : List (Nat × Nat)).filter (fun x => x.1 != 5) = []) ∧
    (let s := { running with rcd := { staged := [{ code := 1, source := 0 }], stagedTs := some 4 } }
     s.rcd.stagedTs = some 4 ∧ s.rcd.committing = 0 ∧ s.rcd.staged ≠ [] ∧ s.rcd.degraded = false) ∧
    (let s := { running with rcd := { buckets := [(3, { suppressed := 1 })] }, time := { ts := 60000000000 } }
     s.rcd.buckets = [(3, { suppressed := 1 })] ∧ s.watch.isOpen = false ∧ 0 + 60000000000 ≤ now s) ∧
    (({ running with nvm := { snapDue := some 5 } } : State).nvm.snapDue = some 5 ∧ scanning running = true ∧ scanning stopped = false ∧ running.img.isSome = true) ∧
    (running.clk.root = true ∧ ({ running with nvm := {} } : State).nvm.ready = false) ∧
    (let s := { running with sec := { trng := .failed, trngFails := [1, 2] } }
     s.sec.trng ≠ .stopped ∧ s.sec.trng = .failed ∧ 3 ≤ (s.sec.trngFails.filter (fun t => decide (now s < t + 3600000000000)) ++ [now s]).length) ∧
    (({ running with fw := { trial := some 3 } } : State).fw.trial = some 3 ∧ running.kp.ready = true) := by
  refine ⟨⟨?_, ?_, ?_, ?_, ?_⟩, ⟨?_, ?_, ?_, ?_⟩, ⟨?_, ?_, ?_⟩, ⟨?_, ?_, ?_, ?_⟩, ⟨?_, ?_⟩, ⟨?_, ?_, ?_⟩, ⟨?_, ?_⟩⟩ <;> decide

theorem witness_PowerResetsAndClocks :
    let p (x : Power) : State := { running with pwr := x }
    let a : Feed := { ok := true }
    (clocksMay stopped = true ∧ State.reset.clk.root = false ∧ clocksMay State.reset = true) ∧
    (let s := { running with kp := {}, wdg := { supA := true, supB := true } }
     s.clk.root = true ∧ s.nvm.ready = true ∧ s.kp.ready = false ∧ s.kp.restart = none ∧ clocksMay s = true ∧ s.wdg.supA = true ∧
      slotRefusal (fwActive s) none s = none ∧ slotRefusal (fwActive s) (some (2, 1)) s ≠ none) ∧
    (running.pwr.off = false ∧ running.mode.held = false) ∧ ({ running with mode := { safeResetAt := some 9 } } : State).mode.safeResetAt = some 9 ∧
    (let s := { running with clk := { running.clk with rc := true }, wdg := { clkRc := true } }
     s.clk.rc = true ∧ s.wdg.clkRc = true ∧ wdgRuns s = true ∧ s.wdg.expired = none) ∧
    ({ running with wdg := { expired := some 5 } } : State).wdg.expired = some 5 ∧
    ({ running with clk := { measSel := some (1, 2, 3) } } : State).clk.measSel = some (1, 2, 3) ∧
    (let s := p { a := a, b := a }
     (feedOf false s).ok = true ∧ (feedOf true s).ok = true ∧ (feedOf true s).disc = false) ∧
    (let s := p { a := a }
     (feedOf false s).ok = true ∧ (feedOf true s).ok = false ∧ s.mode.power = .normal ∧ s.pwr.rideTs = none ∧ s.pwr.off = false) ∧
    ((p { rideTs := some 3 }).pwr.rideTs = some 3 ∧ (p { off := true }).pwr.off = true) ∧
    (let s := { p { rideTs := some 3 } with nvm := { saveStage := 2 } }
     s.nvm.saveStage = 2 ∧ s.nvm.capture = none ∧ s.pwr.off = false ∧ s.pwr.a.ok = false ∧ s.pwr.b.ok = false) := by
  refine ⟨⟨?_, ?_, ?_⟩, ⟨?_, ?_, ?_, ?_, ?_, ?_, ?_, ?_⟩, ⟨?_, ?_⟩, ?_, ⟨?_, ?_, ?_, ?_⟩, ?_, ?_, ⟨?_, ?_, ?_⟩, ⟨?_, ?_, ?_, ?_, ?_⟩, ⟨?_, ?_⟩,
    ⟨?_, ?_, ?_, ?_, ?_⟩⟩ <;> decide

/-- A twin module of the program in RUN, with the link locked and the partner visible, in role `r`. -/
def twin (r : TwinRole) (x : Twin) : State :=
  { running with id := { variantV := true, node := 3 }, mode := { exec := .run, role := r }
                 twin := { x with cfg := { en := true, partnerNode := 4, autoRejoin := true }, locked := true, visible := true } }

/-- Task k of such a module as given, with its cycle's twin state. -/
def twinTask (r : TwinRole) (k : Nat) (t : Task) (x : TwinTask) : State :=
  withTask k { t with mode := .running } (twin r { tasks := [(k, x)], partnerRole := if r = .principal then .assistant else .principal })

def aDigest : Digest := ⟨0, 0, false, 5, 6, 7, 0, 0, [], 0⟩

theorem witness_TwinLinkLocksFramesAndWaits :
    (twinned.id.variantV = true ∧ twinned.twin.locked = false) ∧
    (let s := twin .rejoining { rejoin := { phase := 2 } }
     s.twin.locked = true ∧ s.mode.role = .rejoining ∧ s.twin.rejoin.phase ≠ 0) ∧
    (let s := twin .assistant { silence := true, decided := false }
     twinOn s = true ∧ s.twin.visible = true ∧ s.twin.silence = true ∧ s.twin.decided = false ∧ s.twin.pend = none ∧ (twin .isolated {}).mode.role = .isolated ∧
      (twin .principal {}).twin.silence = false) ∧
    (let s := twin .assistant {}
     s.mode.role = .assistant ∧ assistHost s = false ∧ proving s = false ∧ ∀ k ∈ tasksUsed s, (taskCfg s k).sector = 0 → (taskOf s k).phase ≠ .agree) ∧
    (let s := twin .principal { epochTs := 5 }
     s.mode.role = .principal ∧ s.twin.double = false ∧ 4 < s.twin.epochTs ∧ ¬ s.twin.cfg.partnerNode < s.id.node) ∧
    (let s := twin .assistant { partnerRole := .principal }
     s.twin.partnerRole = .principal ∧ s.twin.pend = none) ∧
    (let s := twinTask .principal 1 { phase := .agree } {}
     (taskOf s 1).phase = .agree ∧ partnerAbsent s 1 = false ∧ (twOf s 1).firstJoin = false ∧ snapCount s 1 = 1 ∧ follows s 1 = false ∧
      (∀ i, i < 1 → i ≠ 0 → ∃ f ∈ (twOf (twinTask .principal 1 { phase := .agree } { frames := [(0, [])] }) 1).frames, f.1 = i)) ∧
    (let s := twinTask .rejoining 1 { phase := .agree } {}
     (taskOf s 1).phase = .agree ∧ follows s 1 = true) ∧
    (let s := twinTask .assistant 0 { phase := .digest } { own := some aDigest }
     (taskOf s 0).phase = .digest ∧ (twOf s 0).own = some aDigest ∧ rejoinAt s (taskOf s 0).start = false ∧ aDigest.cycle = (taskOf s 0).cycle ∧
      (taskCfg s 0).vital = true ∧ HostApart s (taskCfg s 0).sector ∧ sectorState s (taskCfg s 0).sector ≠ .safe) ∧
    (let s := twinTask .assistant 1 { phase := .digest } { own := some { aDigest with incomplete := true } }
     (taskOf s 1).phase = .digest ∧ (taskCfg s 1).vital = false ∧ rejoinAt s (taskOf s 1).start = false ∧
      (twOf s 1).own = some { aDigest with incomplete := true }) ∧
    (let s := twin .principal { sinceStatus := 62, txQ := [{ cls := 1, typ := 9, tag := 0 }] }
     twinOn s = true ∧ s.id.variantV = true ∧ s.clk.root = true ∧ s.twin.sinceStatus < 63 ∧ s.twin.relinq = none ∧ s.twin.rejoin.todo = [] ∧
      63 ≤ (twin .principal { sinceStatus := 63 }).twin.sinceStatus) := by
  refine ⟨⟨?_, ?_⟩, ⟨?_, ?_, ?_⟩, ⟨?_, ?_, ?_, ?_, ?_, ?_, ?_⟩, ⟨?_, ?_, ?_, ?_⟩, ⟨?_, ?_, ?_, ?_⟩, ⟨?_, ?_⟩, ⟨?_, ?_, ?_, ?_, ?_, ?_⟩, ⟨?_, ?_⟩,
    ⟨?_, ?_, ?_, ?_, ?_, apart_of 0 ?_, ?_⟩, ⟨?_, ?_, ?_, ?_⟩, ⟨?_, ?_, ?_, ?_, ?_, ?_, ?_⟩⟩ <;> decide

/-- Role `r` in STOP with rejoin state `x`, the partner principal. -/
def rejoins (r : TwinRole) (x : Rejoin) (ts : Nat) : State :=
  let s := twin r { partnerRole := .principal, rejoin := x }
  { s with mode := { role := r }, time := { ts := ts } }

theorem witness_TwinRolesChangeAndModulesRejoin :
    (let s := on 0x0502 [] (twin .principal { partnerRole := .assistant })
     Served 0x0502 (req 0x0502) [] s ∧ transitionPending s = false ∧ aimConflict (req 0x0502) (taken [] s) = false ∧ s.twin.relinq = none) ∧
    (let s := on 0x0503 [] (rejoins .isolated {} 1000000000)
     Served 0x0503 (req 0x0503) [] s ∧ s.twin.rejoin.phase = 0 ∧ transitionPending s = false ∧ aimConflict (req 0x0503) (taken [] s) = false ∧
      rejoinOpen s = true ∧ s.mode.role = .isolated ∧ Served 0x0503 (req 0x0503) [] (on 0x0503 [] (rejoins .rejoining {} 1000000000)) ∧
      rejoinOpen (on 0x0503 [] (rejoins .rejoining {} 1000000000)) = true) ∧
    (let s := { (twin .noRole { searchEnd := some 0, search := true, partnerRole := .noRole }) with mode := { role := .noRole } }
     s.twin.searchEnd = some 0 ∧ s.twin.search = true ∧ s.mode.role = .noRole ∧ 0 ≤ now s ∧ s.twin.locked = true ∧ s.twin.partnerRole = .noRole ∧
      s.id.node < s.twin.cfg.partnerNode) ∧
    (let s := twin .assistant { pend := some ⟨.principal, 7, 6, 0⟩ }
     s.twin.pend = some ⟨.principal, 7, 6, 0⟩ ∧ TwinRole.principal ≠ s.mode.role ∧ (twin .principal { rotateAt := some 5 }).twin.rotateAt = some 5 ∧
      counterGet s 8 < 0xFFFF) ∧
    (let s := rejoins .rejoining {} 0
     rejoinMay s = true ∧ s.twin.rejoin.retryAt = none ∧ s.twin.rejoin.attempt < 3 ∧ (safeSectors s).all (sectorReady s) = true ∧
      loadVerdict (.good { id := 2 } 0 0) s = none ∧ loadVerdict (.bad 1 2 3 4) s = some (1, 2)) ∧
    (let t : TaskCfg := { used := true, period := 1000, watchdog := 1000, autoRestart := true }
     let s := { rejoins .assistant {} 0 with img := some { prog with tasks := [(0, t)] }, fab := safeSector.fab }
     rejoinMay s = true ∧ assistHost s = false ∧ sectorWaits s = true ∧ (∀ sec ∈ safeSectors s, sectorReady s sec = true ∧
      ∀ k ∈ sectorTasks s sec, (taskCfg s k).autoRestart = true) ∧ restartLimit s = [] ∧
      restartLimit { s with fab := { s.fab with autoRestarts := [(0, [1, 2, 3])] } } ≠ []) ∧
    (let s := rejoins .isolated {} 0
     s.mode.role = .isolated ∧ s.twin.cfg.autoRejoin = true ∧ s.twin.pend = none) ∧
    (let s := twin .principal { rejoin := { phase := 3, sender := true } }
     s.img = some prog ∧ s.twin.rejoin.sender = true ∧ s.twin.rejoin.phase = 3 ∧ s.twin.rejoin.todo = [] ∧ s.twin.rejoin.tJoin = none ∧
      scanning s = true ∧ proving s = false) ∧
    (let s := { rejoins .rejoining { phase := 4, tJoin := some 9, tAssist := some 8, retryAt := some 7 } 0 with fab := {} }
     s.twin.rejoin.tJoin = some 9 ∧ s.mode.role = .rejoining ∧ (∀ k ∈ tasksUsed s, (taskOf s k).mode ≠ .running) ∧ s.twin.rejoin.retryAt = some 7 ∧
      s.twin.rejoin.tAssist = some 8 ∧ s.twin.rejoin.phase ≠ 0 ∧ s.twin.locked = true) ∧
    (let s := { running with kp := { twinWait := [(req 0x0601, 5)] } }
     s.kp.twinWait = (req 0x0601, 5) :: [] ∧ ∀ l ∈ s.kp.long, l.req ≠ req 0x0601 ∨ l.done = true) := by
  refine ⟨⟨served _ _ _ ?_, ?_, ?_, ?_⟩, ⟨served _ _ _ ?_, ?_, ?_, ?_, ?_, ?_, served _ _ _ ?_, ?_⟩, ⟨?_, ?_, ?_, ?_, ?_, ?_, ?_⟩, ⟨?_, ?_, ?_, ?_⟩,
    ⟨?_, ?_, ?_, ?_, ?_, ?_⟩, ⟨?_, ?_, ?_, ?_, ?_, ?_⟩, ⟨?_, ?_, ?_⟩, ⟨?_, ?_, ?_, ?_, ?_, ?_, ?_⟩, ⟨?_, ?_, ?_, ?_, ?_, ?_, ?_⟩, ⟨?_, nofun⟩⟩ <;> decide +kernel

/-- The trace stream of mailbox 0 is open on the service port. -/
def tracing (w : Watch) : State := { running with watch := w, kp := { mbx := [(0, { session := some 1, identity := 5, port := 2 })] } }

theorem witness_WatchPortTagAndRegisters :
    (let s := on 0x0B01 [1, 0, 0] (tracing {})
     let c := on 0x0B01 [] (tracing { isOpen := true })
     let o := on 0x0B01 [1, 0, 0] (tracing { isOpen := true, mailbox := 5 })
     Served 0x0B01 (req 0x0B01 [1, 0, 0]) [] s ∧ serviceBox (req 0x0B01) (taken [] s) = some 0 ∧ s.watch.isOpen = false ∧
      Served 0x0B01 (req 0x0B01) [] c ∧ c.watch.isOpen = true ∧ c.watch.mailbox = 0 ∧ o.watch.mailbox ≠ 0 ∧
      serviceBox (req 0x0B01) (taken [] (on 0x0B01 [] running)) = none ∧ Served 0x0B01 (req 0x0B01) [] (on 0x0B01 [] running)) ∧
    (Served 0x0B02 (req 0x0B02 [255, 22]) [] (on 0x0B02 [255, 22] running) ∧ ctrSelOk (argW (req 0x0B02 [255, 22]) 1) = true ∧ traceOn running 4 = false ∧
      Served 0x0B02 (req 0x0B02 [255, 23]) [] (on 0x0B02 [255, 23] running) ∧ ctrSelOk (argW (req 0x0B02 [255, 23]) 1) = false) ∧
    (let s := on 0x0B03 [0xFF0] (tracing { isOpen := true })
     Served 0x0B03 (req 0x0B03 [0xFF0]) [] s ∧ snapCheck 15 15 0 (taken [] s) = none ∧ rangeVital s 15 15 = false ∧
      Served 0x0B03 (req 0x0B03 [0xFF0]) [] (on 0x0B03 [0xFF0] running) ∧ snapCheck 15 15 0 (taken [] (on 0x0B03 [0xFF0] running)) = some 0x0304) ∧
    (let s := tracing { isOpen := true, lossPending := 1, capTs := 0, capN := 1 }
     s.watch.isOpen = true ∧ 0 < s.watch.lossPending ∧ s.watch.capN < 2 ∧ traceFill s + 32 ≤ 262112) ∧
    (let t (x : Tag) : State := { running with tag := { x with present := true } }
     let r : TagRegion := { isPending := true, deferTs := some 5 }
     (t {}).kp.ready = true ∧ (t {}).tag.present = true ∧ (t {}).tag.rf = false ∧ (t {}).tag.writing = none ∧
      (t { writing := some (4, true) }).tag.writing = some (4, true) ∧ (∀ j, j < 5 → (tagReg (t { writing := some (4, true) }) j).isPending = false) ∧
      (t { rf := true }).tag.rf = true ∧ (tagReg (t { regions := [(4, r)] }) 4).deferTs = some 5 ∧ (tagReg (t { regions := [(4, r)] }) 4).isPending = true) ∧
    (let a := 0x000C0004
     let g := { running with clk := {} }
     a % 4 = 0 ∧ a < 0x120000 ∧ regGated running a = false ∧ (regHigh running a).isSome = true ∧ regHigh running 0x100000 = none ∧ regGated g 0x000A0000 = true) ∧
    (let s := onLamp (lampOn 0 0)
     let u := withTask 1 {} (onLamp { lampOn 0 0 with task := 1 })
     (lampOf s 0).mode = .exec ∧ OutReady theLamp 4 0xFFFFFFFF s ∧ BlockReady theLamp 15 s ∧ (lampOf u 0).spec = false ∧
      rctlDenied { u with fab := { u.fab with lamps := [(0, { lampOn 0 0 with task := 1 })] } } 0 0x7044C = true ∧
      rctlDenied { u with img := some { prog with frt := [(1, some 1)] }, fab := { u.fab with lamps := [(0, { lampOn 0 0 with task := 1 })] } } 0 0x7040C = false) := by
  refine ⟨⟨served _ _ _ ?_, ?_, ?_, served _ _ _ ?_, ?_, ?_, ?_, ?_, served _ _ _ ?_⟩, ⟨served _ _ _ ?_, ?_, ?_, served _ _ _ ?_, ?_⟩,
    ⟨served _ _ _ ?_, ?_, ?_, served _ _ _ ?_, ?_⟩, ⟨?_, ?_, ?_, ?_⟩, ⟨?_, ?_, ?_, ?_, ?_, ?_, ?_, ?_, ?_⟩, ⟨?_, ?_, ?_, ?_, ?_, ?_⟩,
    ⟨?_, out_of (plain_of ?_) ?_, block_of (plain_of ?_) ?_, ?_, ?_, ?_⟩⟩ <;> decide

theorem witness_StepRunsFrontCommand : State.reset.pending = [] ∧ State.reset.watch.isOpen = false := by decide

theorem witness_QueueAndIdentityKept : ∃ t, step { running with pending := [.tagRfFieldLeaves] } = .next t := ⟨_, rfl⟩

theorem witness_SecurityFieldsOnlyTighten :
    let s := { running with sec := { vsLock := true, margHold := true }, pending := [.tagRfFieldLeaves] }
    (∃ t, step s = .next t) ∧ s.sec.debugLock = true ∧ s.sec.vsLock = true ∧ s.sec.margHold = true := ⟨⟨_, rfl⟩, rfl, rfl, rfl⟩

theorem witness_ServiceNeverMeetsScanning :
    let s := { stopped with mode := { maint := true }, pending := [.tagRfFieldLeaves] }
    (∃ t, step s = .next t) ∧ ¬ (s.mode.maint = true ∧ scanning s = true) := ⟨⟨_, rfl⟩, by decide⟩

/-! ### Ill-formed commands are refused, and the last well-formed value of each field is not -/

def frame (id : Nat) (ide fdf : Bool) (n : Nat) : CanFrame := { id := id, ide := ide, fdf := fdf, brs := false, data := List.replicate n 0 }

theorem test_wf_lamp_instruction : (Instr.ret { lamp := 512 }).wf = false ∧ (Instr.ret { lamp := 0, wait := 17 }).wf = false ∧
    (Instr.ret { lamp := 511, wait := 16 }).wf = true := by decide

theorem test_wf_fabric : (Instr.fenceComplete 512).wf = false ∧ (Instr.eventTrigger 16).wf = false ∧ (Instr.eventTrigger 7).wf = false ∧
    (Instr.eventTrigger 15).wf = true ∧ (Instr.scheduledInstant 8).wf = false ∧ (Instr.scheduledInstant 7).wf = true ∧
    (Instr.memReady 16).wf = false ∧ (Instr.memReady 15).wf = true ∧ (Instr.rangeSplit 0 16 0).wf = false ∧ (Instr.rangeSplit 15 15 0).wf = true ∧
    (Instr.frtClear 64).wf = false ∧ (Instr.frtClear 63).wf = true := by decide

theorem test_wf_field : (Instr.bypassDecisionChange 64 true).wf = false ∧ (Instr.bypassDecisionChange 63 true).wf = true ∧
    (Instr.diSupplyMissing 4 0).wf = false ∧ (Instr.diSupplyMissing 3 0).wf = true ∧ (Instr.testPulseStart 8).wf = false ∧ (Instr.testPulseStart 7).wf = true ∧
    (Instr.diPairFault 32).wf = false ∧ (Instr.diPairFault 31).wf = true ∧ (Instr.doStuckOn 32).wf = false ∧ (Instr.doStuckOn 31).wf = true ∧
    (Instr.aoCompliance 8 0).wf = false ∧ (Instr.aoCompliance 7 0).wf = true ∧ (Instr.loopSupplyLimit 16 0).wf = false ∧ (Instr.loopSupplyLimit 15 0).wf = true ∧
    (Instr.buoyInserted 3).wf = false ∧ (Instr.buoyInserted 2).wf = true := by decide

theorem test_wf_can : (Instr.canRxStale 4 0).wf = false ∧ (Instr.canRxStale 0 64).wf = false ∧ (Instr.canRxStale 3 63).wf = true ∧
    (Instr.canFrameReceived 0 (frame 2048 false false 0) false).wf = false ∧ (Instr.canFrameReceived 0 (frame 0 false false 9) false).wf = false ∧
    (Instr.canFrameReceived 0 (frame 0 true true 65) false).wf = false ∧ (Instr.canFrameReceived 3 (frame 0x1FFFFFFF true true 64) false).wf = true := by decide

theorem test_wf_management : (Instr.mbxWord0Write 26 true (List.replicate 16 0)).wf = false ∧ (Instr.mbxWord0Write 25 true (List.replicate 15 0)).wf = false ∧
    (Instr.mbxWord0Write 25 true (List.replicate 16 0)).wf = true ∧ (Instr.mailboxRetentionExpiry 8).wf = false ∧ (Instr.netLinkUp 3).wf = false ∧
    (Instr.netLinkUp 2).wf = true ∧ (Instr.beamReceive 2 {}).wf = false ∧ (Instr.timeRefQualified 3).wf = false ∧ (Instr.timeRefQualified 2).wf = true ∧
    (Instr.rtcAlarm 2).wf = false ∧ (Instr.rtcAlarm 1).wf = true ∧ (Instr.tagRegionWrite 5).wf = false ∧ (Instr.tagRegionWrite 4).wf = true := by decide

/-! ### Single steps against worked examples of the manual -/

/-- `c` answers a next state of which `p` holds. -/
def goes (c : Instr) (s : State) (p : State → Bool) : Bool := match exec c s with
  | .next t => p t
  | _ => false

/-- Lamp 0 with g1 = `a` and g2 = `b`, after `c`: its g3. -/
def g3 (c : Instr) (a b r : Word) : Bool := goes c (onLamp (lampOn a b)) fun t => regGet (lampOf t 0) 3 == r

/-- Chapter 5, A bit-field repack: PERM by 0x0123, EXTR 11, 5 and EXTRS 0, 11. -/
theorem test_repack_extracts : g3 (.perm theLamp 3 1 0x0123) 0xC3A50012 0 0x1200A5C3 = true ∧ g3 (.extr theLamp 3 1 11 4) 0x1200A5C3 0 0x14 = true ∧
    g3 (.extrs theLamp 3 1 0 10) 0x1200A5C3 0 0xFFFFFDC3 = true := by decide

/-- Chapter 5, A bit-field repack: the two INSR. -/
theorem test_repack_inserts : g3 (.insr theLamp 3 1 24 4) 0x14 0 0x14000000 = true ∧
    goes (.insr theLamp 1 2 0 15) (onLamp (lampOn 0x14000000 0xFFFFFDC3)) (fun t => regGet (lampOf t 0) 1 == 0x1400FDC3) = true := by decide

/-- R132 and the text below the repack example: ADDI extends its sign, ORI does not. -/
theorem test_immediates_extend : g3 (.addi theLamp 3 1 0xFFFF) 0 0 0xFFFFFFFF = true ∧ g3 (.ori theLamp 3 1 0x8000) 0x10000 0 0x18000 = true ∧
    g3 (.lui theLamp 3 1) 0 0 0x10000 = true := by decide

/-- R128: g0 reads 0 and discards what is written to it. -/
theorem test_g0_stays_zero : goes (.add theLamp 0 1 2) (onLamp (lampOn 1 2)) (fun t => regGet (lampOf t 0) 0 == 0) = true := by decide

/-- Chapter 4, legacy timers: a preset of 2,500,000 us reads 0x0250, an elapsed time of 1,234,567 us 0x0123. -/
theorem test_legacy_bcd : toBcd (2500000 / 10000) = 0x0250 ∧ toBcd (1234567 / 10000) = 0x0123 := by decide

/-- Chapter 3, A cross-range slot handshake: version (41 mod 256, 1) is VER 0x2901. -/
theorem test_version_number : verNum 41 1 = 0x2901 := by decide

/-- R206, R375: the published check values of CRC-32 and CRC-32C over the nine digits, with 0xFFFFFFFF as initial value. -/
theorem test_crc_check_values :
    crc32 [0x31, 0x32, 0x33, 0x34, 0x35, 0x36, 0x37, 0x38, 0x39] = 0xCBF43926 ∧
    scrcOf 0xFFFFFFFF [0x31, 0x32, 0x33, 0x34, 0x35, 0x36, 0x37, 0x38, 0x39] = 0xE3069283 := by decide +kernel

/-- Pair 3 of chapter 11, channels DI 6 and DI 7 with no debounce count. -/
def pair3 (a b v : Bool) (p : Pair) : State :=
  withDio { cfg := { pairs := [(3, { en := true, autoClear := true, tDisc := 50000 })] }
            di := [(6, { term := a, byp := a, deb := a }), (7, { term := b, byp := b, deb := b })], pairs := [(3, { p with value := v })] }

/-- Chapter 11, pair 3, steps 1 and 2: VALUE stays 1 while the channels disagree, and follows when they agree on 0. -/
theorem test_pair_disagrees_then_agrees :
    goes (.bypassDecisionChange 6 false) (pair3 true true true {}) (fun t => (pairOf t 3).value && (pairOf t 3).disc) = true ∧
    goes (.bypassDecisionChange 7 false) (pair3 false true true { disc := true, since := some 0 })
      (fun t => !(pairOf t 3).value && !(pairOf t 3).disc) = true := by decide +kernel

/-- Chapter 11, pair 3, steps 4, 5 and 7: the fault after 50 ms holds VALUE at 0 until both channels read 0. -/
theorem test_pair_faults_and_clears :
    goes (.diPairFault 3) (pair3 false true false { disc := true, since := some 0 }) (fun t => (pairOf t 3).fault && now t == 50000000) = true ∧
    goes (.bypassDecisionChange 6 true) (pair3 false true false { fault := true, disc := true }) (fun t => (pairOf t 3).fault && !(pairOf t 3).value) = true ∧
    goes (.bypassDecisionChange 7 false) (pair3 false true false { fault := true, disc := true }) (fun t => !(pairOf t 3).fault && !(pairOf t 3).value) = true := by decide +kernel

/-- Chapter 14, arbitration on CAN_2: of identifiers 0x0A0 and 0x120 the lower is offered first (R353). -/
theorem test_can_offers_lowest :
    canOffered { running with can := [(2, { tx := [(5, { st := .pending, frame := some (frame 0x120 false false 8) }),
      (9, { st := .pending, frame := some (frame 0x0A0 false false 8) })] })] } 2 = some 9 := by decide

/-- Chapter 18, FORCE of DI 30: the request words as the keeper takes them, and the words of its reply. -/
theorem test_force_words :
    hdrOp 0x04012103 = 0x0401 ∧ hdrTag 0x04012103 = 0x21 ∧ hdrLen 0x04012103 = 3 ∧ ackWord { valid := true, tag := 0x21, rc := 0 } = 0x00002101 ∧
    hdrWord 0x0401 0x21 5 = 0x04012105 := by decide

/-- FORCE of DI 30 to 1 with TAG 0x21, from session 1 in role `r`. -/
def forceDi (r : Role) : State :=
  let s := inSession (some 7) { session := some 1, identity := 5, role := r }
  asked { req 0x0401 [0x1E, 1] r with origin := .host 7, tag := 0x21 } s

/-- Chapter 18: FORCE of a point of a vital task answers the count 0x0001_0001; from an OPERATOR it is DENIED_ROLE. -/
theorem test_force_replies :
    goes .force (forceDi .engineer) (fun t => ((mbxOf t 7).fk.words.take 3) == [0x04012105, 0, 0x00010001]) = true ∧
    goes .force (forceDi .operator) (fun t => ((mbxOf t 7).fk.words.take 2) == [0x04012102, 0x03010000] && t.fab.forces == []) = true := by decide +kernel

/-- R534, R535: the kick words alternate, and a wrong word expires the watchdog. -/
theorem test_watchdog_words : goes (.wdgKick 0x5A5A) running (fun t => t.wdg.second && t.wdg.expired.isNone) = true ∧
    goes (.wdgKick 0xA5A5) running (fun t => t.wdg.expired.isSome) = true := by decide

/-- Chapter 24, a reader at the front of a running module: copy A holds version 812, so region 2 is written into copy B. -/
theorem test_tag_writes_older_copy :
    goes (.tagRegionWrite 2) { running with tag := { present := true, regions := [(2, { verA := 812, okA := true })] } }
      (fun t => t.tag.writing == some (2, true) && (tagReg t 2).verA == 812) = true := by decide

/-- R390: a read of TIM_TS_LO latches the high word that the next read of TIM_TS_HI gives. -/
theorem test_latched_pair :
    goes (.latchedLowRead 0x000C0004) { running with time := { ts := 0x500000007 } } (fun t => regValue t 0x000C0008 == 5) = true := by decide

/-- R443: a step takes the front command; the rest of the queue stays. -/
theorem test_step_takes_front :
    (match step { State.reset with pending := [.tagRfFieldLeaves, .viewCheck] } with
     | .next t => t.pending == [.viewCheck]
     | _ => false) = true := by decide

end Sys2Proof.Tests
end

section
/-!
SUPPORT. Frames as the statements write them (`OnlyIn`), and what an event of the recorder leaves of the watch port.
-/
namespace Sys2Proof.Machine

/-! ### Frames -/

theorem OnlyIn.mono {bs cs : List Block} {s t : State} (h : OnlyIn bs s t) (sub : bs ⊆ cs) : OnlyIn cs s t :=
  fun b hb => h b fun m => hb (sub m)

theorem sameBlock_trans (b : Block) {s t u : State} (h : sameBlock b s t) (g : sameBlock b t u) : sameBlock b s u := by
  cases b <;> exact Eq.trans g h

theorem OnlyIn.trans {bs : List Block} {s t u : State} (h : OnlyIn bs s t) (g : OnlyIn bs t u) : OnlyIn bs s u :=
  fun b hb => sameBlock_trans b (h b hb) (g b hb)

theorem onlyIn_refl (bs : List Block) (s : State) : OnlyIn bs s s := fun b _ => by cases b <;> rfl

theorem onlyIn_watch (x : Watch) (s : State) : OnlyIn [.watch] s { s with watch := x } := fun b hb => by
  cases b with
  | watch => exact absurd (List.mem_singleton.2 rfl) hb
  | _ => rfl

theorem onlyIn_tag (x : Tag) (s : State) : OnlyIn [.tag] s { s with tag := x } := fun b hb => by
  cases b with
  | tag => exact absurd (List.mem_singleton.2 rfl) hb
  | _ => rfl

theorem onlyIn_watch_clk (x : Watch) (c : Clk) (s : State) : OnlyIn [.watch, .clk] s { s with watch := x, clk := c } :=
  fun b hb => by
    cases b with
    | watch | clk => exact absurd (by decide) hb
    | _ => rfl

theorem onlyIn_emit (e : Emit) (s : State) : OnlyIn [.out] s (emit e s) := fun b hb => by
  cases b with
  | out => exact absurd (List.mem_singleton.2 rfl) hb
  | _ => rfl

theorem onlyIn_reach (d : Nat) (s : State) : OnlyIn [.time, .rtc] s (reach d s) := fun b hb => by
  unfold reach
  split
  · exact onlyIn_refl _ s b hb
  · cases b with
    | time | rtc => exact absurd (by decide) hb
    | _ => rfl

/-- The blocks an event may touch, as a frame. -/
theorem onlyIn_of_onlyLog {s t : State} (h : onlyLog s t) : OnlyIn logBlocks s t := fun b hb => by
  obtain ⟨r, n, w, rfl⟩ : ∃ r n w, t = { s with rcd := r, nvm := n, watch := w } := ⟨_, _, _, h⟩
  cases b with
  | rcd | nvm | watch => exact absurd (by decide) hb
  | _ => rfl

theorem onlyIn_record (code src : Nat) (pl : List Byte) (s : State) : OnlyIn logBlocks s (record code src pl s) :=
  onlyIn_of_onlyLog (onlyLog_record code src pl s)

/-- An event after what stays within blocks that hold its own stays within them. -/
theorem OnlyIn.then_record {bs : List Block} {s t : State} (h : OnlyIn bs s t) (sub : logBlocks ⊆ bs) (code src : Nat)
    (pl : List Byte) : OnlyIn bs s (record code src pl t) :=
  h.trans (OnlyIn.mono (onlyIn_record code src pl t) sub)

/-! ### The watch port while an event is recorded (R564, R567, R569) -/

/-- The watch ports of two states differ at most in the captured entries, the LOSS entry that is due and the counters. -/
def sameStream (s t : State) : Prop := t.watch = { s.watch with
  buf := t.watch.buf, lossPending := t.watch.lossPending, lossMask := t.watch.lossMask, lossTs := t.watch.lossTs
  dropCnt := t.watch.dropCnt, openDropped := t.watch.openDropped, lossCnt := t.watch.lossCnt, ctr := t.watch.ctr
  capTs := t.watch.capTs, capN := t.watch.capN }

theorem sameStream_of_eq {s t : State} (h : t.watch = s.watch) : sameStream s t := by unfold sameStream; rw [h]
theorem sameStream_trans {s t u : State} (h : sameStream s t) (g : sameStream t u) : sameStream s u := by
  unfold sameStream at *; rw [g, h]
theorem sameStream_ite {c : Prop} [Decidable c] {s a b : State} (ha : sameStream s a) (hb : sameStream s b) :
    sameStream s (if c then a else b) := by split <;> assumption
theorem sameStream_snd {c : Prop} [Decidable c] {s : State} {a b : Bool × State} (ha : sameStream s a.2)
    (hb : sameStream s b.2) : sameStream s (if c then a else b).2 := by split <;> assumption

theorem flushStaged_watch (n : Nat) (s : State) : (flushStaged n s).watch = s.watch := by
  unfold flushStaged; split <;> rfl

@[simp] theorem stageRec_watch (r : Rec) (s : State) : (stageRec r s).watch = s.watch := by
  simp only [stageRec, apply_ite State.watch, flushStaged_watch, ite_self]

theorem sameStream_ctrAdd (ev : Nat) (k g r : Option Nat) (n : Nat) (s : State) : sameStream s (ctrAdd ev k g r n s) := by
  unfold ctrAdd; exact sameStream_ite rfl rfl

theorem sameStream_tracePut (e : TraceEnt) (s : State) : sameStream s (tracePut e s).2 := by
  unfold tracePut
  exact sameStream_snd rfl (sameStream_trans (sameStream_ctrAdd 22 none none none 1 s) rfl)

theorem sameStream_traceEvent (r : Rec) (s : State) : sameStream s (traceEvent r s).2 := by
  unfold traceEvent
  exact sameStream_snd (sameStream_tracePut _ s) rfl

theorem sameStream_recordBy {put : Rec → State → State} (hp : ∀ r s, sameStream s (put r s)) (code src : Nat)
    (pl : List Byte) (s : State) : sameStream s (recordBy put code src pl s) := by
  unfold recordBy
  refine sameStream_ite (sameStream_ite ?_ rfl) (hp _ _)
  exact sameStream_trans (t := { s with rcd := _ }) rfl (hp _ _)

theorem sameStream_traceCap (e : TraceEnt) (s : State) : sameStream s (traceCap e s) := by
  unfold traceCap
  refine sameStream_ite (sameStream_trans (sameStream_tracePut e s) (sameStream_recordBy (fun r s => ?_) _ _ _ _))
    (sameStream_tracePut e s)
  exact sameStream_trans (sameStream_of_eq (stageRec_watch r s)) (sameStream_traceEvent r _)

theorem sameStream_stagePut (r : Rec) (s : State) : sameStream s (stagePut r s) :=
  sameStream_ite (sameStream_trans (sameStream_of_eq (stageRec_watch r s)) (sameStream_traceCap _ _))
    (sameStream_of_eq (stageRec_watch r s))

/-- An event keeps the stream's masks, owner and sequence numbers, the snapshots and the selections. -/
theorem sameStream_record (code src : Nat) (pl : List Byte) (s : State) : sameStream s (record code src pl s) :=
  sameStream_recordBy sameStream_stagePut _ _ _ _

theorem stagePut_watch_of_off (r : Rec) {s : State} (h : traceOn s 4 = false) : (stagePut r s).watch = s.watch := by
  have h' : traceOn (stageRec r s) 4 = false := by simpa [traceOn] using h
  simp [stagePut, h']

theorem recordBy_watch {put : Rec → State → State} {s : State}
    (hp : ∀ r t, t.watch = s.watch → (put r t).watch = s.watch) (code src : Nat) (pl : List Byte) : (recordBy put code src pl s).watch = s.watch := by
  simp only [recordBy, apply_ite State.watch, hp, ite_self]

/-- An event that the stream does not admit leaves the whole watch port alone. -/
theorem record_watch_of_off (code src : Nat) (pl : List Byte) {s : State} (h : traceOn s 4 = false) :
    (record code src pl s).watch = s.watch :=
  recordBy_watch (fun r t e => by
    have h' : traceOn t 4 = false := by rw [traceOn, e]; exact h
    rw [stagePut_watch_of_off r h', e]) _ _ _

end Sys2Proof.Machine
end

section
/-!
SUPPORT. The commands of the watch port (chapter 23) as they answer, and the LOSS entry.
-/
namespace Sys2Proof.Machine

variable {q : Req} {rest : List Req} {s : State} {m : Nat}

theorem ansTrim_rcAns (rc : Nat) : ansTrim (rcAns rc) = { rc := rc } := by unfold ansTrim; split <;> rfl

/-! ### TRACE_SET (R562) -/

/-- The state in which TRACE_SET has opened a stream of mailbox `m`. -/
def watchOpened (m : Nat) (q : Req) (s : State) : State := { s with
  watch := { s.watch with
    isOpen := true, mailbox := m, srcMask := argW q 0, galMask := argW q 1, taskMask := argW q 2, eseq := 0
    openSent := 0, openDropped := 0, lossPending := 0, lossMask := 0, buf := [], snapBuf := [] }
  clk := { s.clk with en := s.clk.en ||| 0x20#15 } }

/-- The state in which a stream has closed. -/
def watchClosed (s : State) : State := { s with
  watch := { s.watch with
    isOpen := false, srcMask := 0, galMask := 0, taskMask := 0, buf := [], snapBuf := [], lossPending := 0, lossMask := 0 }
  clk := { s.clk with en := s.clk.en &&& ~~~0x20#15 } }

theorem watchSet_of_closed (hw : s.watch.isOpen = false) (hs : argW q 0 ≠ 0) : watchSet m q s =
    record 0x1101 0 (items [m, (argW q 0).toNat, (argW q 1).toNat, (argW q 2).toNat] ++ item128 q.ident)
      (watchOpened m q s) := by
  simp only [watchSet, hw, Bool.false_eq_true, if_false, if_neg hs, watchOpened]

theorem watchClose_of_open (cause : Nat) (hw : s.watch.isOpen = true) : watchClose cause s =
    record 0x1102 0 (items [cause, s.watch.openSent, s.watch.openDropped]) (watchClosed s) := by
  simp only [watchClose, hw, if_true, watchClosed]

/-- A stream opens, with its masks, and the trace engine's clock is enabled. -/
theorem watchSet_opens (hw : s.watch.isOpen = false) (hs : argW q 0 ≠ 0) :
    let t := watchSet m q s
    t.watch.isOpen = true ∧ t.watch.mailbox = m ∧ t.watch.srcMask = argW q 0 ∧ t.watch.galMask = argW q 1 ∧
      t.watch.taskMask = argW q 2 ∧ t.watch.eseq = 0 ∧ t.clk = { s.clk with en := s.clk.en ||| 0x20#15 } ∧
      OnlyIn (logBlocks ++ [.clk]) s t := by
  rw [watchSet_of_closed hw hs]
  intro t
  have w : sameStream (watchOpened m q s) t := sameStream_record ..
  exact ⟨congrArg Watch.isOpen w, congrArg Watch.mailbox w, congrArg Watch.srcMask w, congrArg Watch.galMask w,
    congrArg Watch.taskMask w, congrArg Watch.eseq w, record_clk ..,
    OnlyIn.then_record ((onlyIn_watch_clk _ _ s).mono (by decide)) (by decide) _ _ _⟩

/-- An open stream closes: it captures nothing more, and the trace engine's clock stops. -/
theorem watchClose_closes (cause : Nat) (hw : s.watch.isOpen = true) :
    let t := watchClose cause s
    t.watch.isOpen = false ∧ t.watch.srcMask = 0 ∧ t.watch.buf = [] ∧ t.watch.snapBuf = [] ∧
      t.clk = { s.clk with en := s.clk.en &&& ~~~0x20#15 } ∧ OnlyIn (logBlocks ++ [.clk]) s t := by
  rw [watchClose_of_open cause hw]
  intro t
  have w : t.watch = (watchClosed s).watch := record_watch_of_off _ _ _ rfl
  exact ⟨congrArg Watch.isOpen w, congrArg Watch.srcMask w, congrArg Watch.buf w, congrArg Watch.snapBuf w,
    record_clk .., OnlyIn.then_record ((onlyIn_watch_clk _ _ s).mono (by decide)) (by decide) _ _ _⟩

/-- What TRACE_SET checks before its effect. -/
def traceSetCheck (q : Req) (s : State) : Option Nat := match serviceBox q s with
  | none => some 0x0304
  | some m => if s.watch.isOpen ∧ s.watch.mailbox ≠ m then some 0x0202 else none

/-- TRACE_SET of a session on the service port, with `s` as the state its request is taken from. -/
def traceSetEffect (q : Req) (s : State) : Ans × State := (rcAns 0, match serviceBox q s with
  | some m => watchSet m q s
  | none => s)

theorem exec_traceSet (s : State) : exec .traceSet s = .next (simple 0x0B01 traceSetCheck traceSetEffect s) := rfl

theorem traceSetEffect_of_box (hm : serviceBox q s = some m) : traceSetEffect q s = (rcAns 0, watchSet m q s) := by
  simp only [traceSetEffect, hm]

theorem traceSetCheck_of_box (hm : serviceBox q s = some m) (h : s.watch.isOpen = true → s.watch.mailbox = m) :
    traceSetCheck q s = none := by
  simp only [traceSetCheck, hm]
  exact if_neg fun ⟨o, n⟩ => n (h o)

theorem traceSet_refused {rc : Nat} (h : Served 0x0B01 q rest s) (hk : traceSetCheck q (taken rest s) = some rc) :
    exec .traceSet s = .next (finish q { rc := rc } (taken rest s)) := by
  rw [exec_traceSet, simple_refused _ h hk, ansTrim_rcAns]

theorem watchSet_refilters (hw : s.watch.isOpen = true) (hz : ¬(argW q 0 = 0 ∧ argW q 1 = 0 ∧ argW q 2 = 0)) :
    watchSet m q s =
      { s with watch := { s.watch with srcMask := argW q 0, galMask := argW q 1, taskMask := argW q 2 } } := by
  simp only [watchSet, hw, if_true, if_neg hz]

theorem watchSet_closes (hw : s.watch.isOpen = true) (h0 : argW q 0 = 0) (h1 : argW q 1 = 0) (h2 : argW q 2 = 0) :
    watchSet m q s = watchClose 1 s := by
  simp only [watchSet, hw, h0, h1, h2, and_self, if_true]

theorem traceSet_served (h : Served 0x0B01 q rest s) (hm : serviceBox q (taken rest s) = some m)
    (ho : s.watch.isOpen = true → s.watch.mailbox = m) :
    exec .traceSet s = .next (finish q { rc := 0 } (watchSet m q (taken rest s))) := by
  rw [exec_traceSet, simple_served _ h (traceSetCheck_of_box hm ho), traceSetEffect_of_box hm]
  rfl

/-! ### COUNTER_SELECT (R569) -/

/-- The state in which COUNTER_SELECT has made its selection. -/
def counterSelected (q : Req) (s : State) : State := { s with watch := { s.watch with
  sel := tabPut 0 s.watch.sel (arg q 0) (argW q 1)
  ctr := tabPut 0 s.watch.ctr (arg q 0) (if selEvent (argW q 1) = 1 then s.time.mono else 0) } }

/-- The effect of COUNTER_SELECT: the selection, the counter's start and the event. -/
def counterSelectEffect (q : Req) (s : State) : Ans × State :=
  (rcAns 0, record 0x1105 0 (items [arg q 0, (argW q 1).toNat] ++ item128 q.ident) (counterSelected q s))

theorem exec_counterSelect (s : State) : exec .counterSelect s =
    .next (simple 0x0B02 (fun q _ => if ctrSelOk (argW q 1) then none else some 0x0303) counterSelectEffect s) := rfl

theorem counterSelect_served (h : Served 0x0B02 q rest s) (hk : ctrSelOk (argW q 1) = true) :
    exec .counterSelect s = .next (finish q { rc := 0 } (counterSelectEffect q (taken rest s)).2) := by
  rw [exec_counterSelect, simple_served _ h (if_pos hk)]
  rfl

theorem counterSelect_refused (h : Served 0x0B02 q rest s) (hk : ctrSelOk (argW q 1) = false) :
    exec .counterSelect s = .next (finish q { rc := 0x0303 } (taken rest s)) := by
  rw [exec_counterSelect, simple_refused _ h (if_neg (Bool.eq_false_iff.1 hk)), ansTrim_rcAns]

theorem counterSelectEffect_sel (q : Req) (s : State) :
    (counterSelectEffect q s).2.watch.sel = tabPut 0 s.watch.sel (arg q 0) (argW q 1) :=
  congrArg Watch.sel (sameStream_record 0x1105 0 _ (counterSelected q s))

theorem counterSelectEffect_ctr (q : Req) (h : traceOn s 4 = false) : (counterSelectEffect q s).2.watch.ctr =
    tabPut 0 s.watch.ctr (arg q 0) (if selEvent (argW q 1) = 1 then s.time.mono else 0) :=
  congrArg Watch.ctr (record_watch_of_off 0x1105 0 _ (s := counterSelected q s) h)

/-- A counter that nothing has counted since its selection reads 0. -/
theorem ctrValue_counterSelectEffect (q : Req) (h : traceOn s 4 = false) :
    ctrValue (counterSelectEffect q s).2 (arg q 0) = 0 := by
  have ht : (counterSelectEffect q s).2.time = s.time := record_time ..
  simp only [ctrValue, counterSelectEffect_sel, counterSelectEffect_ctr q h, tabGet_tabPut_self, ht]
  split
  · rw [Nat.sub_self]
  · rfl

theorem counterSelectEffect_only (q : Req) (s : State) : OnlyIn logBlocks s (counterSelectEffect q s).2 :=
  OnlyIn.then_record (t := counterSelected q s) ((onlyIn_watch _ s).mono (by decide)) (by decide) _ _ _

/-! ### SNAPSHOT (R196, R462, R568) -/

theorem snapshot_taken (h : Served 0x0B03 q rest s)
    (hk : snapCheck (arg q 0 / 256) (arg q 0 / 16 % 16) (arg q 0 % 2) (taken rest s) = none) :
    exec .snapshot s = .next (finish q { rc := 0, data := [w32 (s.watch.snapNum + 1)] }
      { taken rest s with watch := { s.watch with
        snapNum := s.watch.snapNum + 1
        snapReq := s.watch.snapReq ++ [(arg q 0 / 256, arg q 0 / 16 % 16, arg q 0 % 2, s.watch.snapNum + 1)] } }) := by
  refine congrArg Host.Outcome.next ((command_served _ h).trans ?_)
  simp only [hk]
  rfl

theorem snapshot_refused {c : Nat} (h : Served 0x0B03 q rest s)
    (hk : snapCheck (arg q 0 / 256) (arg q 0 / 16 % 16) (arg q 0 % 2) (taken rest s) = some c) :
    exec .snapshot s = .next (finish q { rc := c }
      { taken rest s with watch := { s.watch with snapRefused := satInc s.watch.snapRefused } }) := by
  refine congrArg Host.Outcome.next ((command_served _ h).trans ?_)
  simp only [hk, ansTrim_rcAns]
  rfl

theorem snapCheck_of_closed (g r l : Nat) (h : s.watch.isOpen = false) : snapCheck g r l s = some 0x0304 :=
  if_pos (.inl (by rw [h]; rfl))

theorem snapCheck_of_full (g r l : Nat) (ho : s.watch.isOpen = true) (hv : rangeVital s g r = false)
    (hs : l = 1 → (rangeOf s g r).split = true) (hf : 4 ≤ s.watch.snapBuf.length) :
    snapCheck g r l s = some 0x0202 := by
  have hn : ¬(!s.watch.isOpen ∨ (l = 1 ∧ !(rangeOf s g r).split) ∨
      (rangeVital s g r ∧ !((s.img.map ProgImage.snapVital).getD false))) := by
    rintro (h | ⟨h1, h⟩ | ⟨h, -⟩)
    · simp [ho] at h
    · simp [hs h1] at h
    · simp [hv] at h
  have hb : snapBusy s g r = true := by
    have : 4 ≤ s.watch.snapBuf.length + s.watch.snapReq.length := by omega
    simp [snapBusy, this]
  exact (if_neg hn).trans (if_pos hb)

/-! ### WATCH_LOSS_ENTRY (R567) -/

theorem opLossEntry_captures (ho : s.watch.isOpen = true) (hp : 0 < s.watch.lossPending)
    (hc : s.watch.capTs ≠ s.time.mono / 2 ∨ s.watch.capN < 2) (hf : traceFill s + 32 ≤ traceRoom) :
    opLossEntry s = { s with watch := { s.watch with
      buf := s.watch.buf ++ [lossEnt s], lossPending := 0, lossMask := 0, capTs := s.time.mono / 2
      capN := (if s.watch.capTs = s.time.mono / 2 then s.watch.capN else 0) + 1 } } := by
  have hn : (if s.watch.capTs = s.time.mono / 2 then s.watch.capN else 0) < 2 := by split <;> omega
  exact if_pos ⟨ho, hp, hn, hf⟩

end Sys2Proof.Machine
end

section
/-!
SUPPORT. The service tag (R589 to R591): what each write of a region does, and what it leaves of the other regions.
-/
namespace Sys2Proof.Machine

variable {r : Nat} {b : Bool} {x : TagRegion} {s s' t : State}

/-! ### Regions -/

@[simp] theorem tagReg_tagMod_self (r : Nat) (f : TagRegion → TagRegion) (s : State) :
    tagReg (tagMod r f s) r = f (tagReg s r) := tabGet_tabMod_self ..

theorem tagReg_tagMod_ne {j : Nat} (f : TagRegion → TagRegion) (s : State) (h : j ≠ r) :
    tagReg (tagMod r f s) j = tagReg s j := tabGet_tabMod_ne _ _ _ h

theorem tagMod_tag (r : Nat) (f : TagRegion → TagRegion) (s : State) :
    (tagMod r f s).tag = { s.tag with regions := tabMod {} s.tag.regions r f } := rfl

@[simp] theorem now_tagMod (r : Nat) (f : TagRegion → TagRegion) (s : State) : now (tagMod r f s) = now s := rfl

theorem tagReg_congr (h : t.tag = s.tag) (j : Nat) : tagReg t j = tagReg s j := by unfold tagReg; rw [h]

theorem onlyIn_tagMod (r : Nat) (f : TagRegion → TagRegion) (s : State) : OnlyIn [.tag] s (tagMod r f s) := onlyIn_tag _ s

/-! ### A write begins (R590) -/

/-- A write of copy `b` of a region that was `x` has begun: the copy is no longer valid, the other one and the other regions
of `s` stand. -/
def TagBegun (r : Nat) (b : Bool) (x : TagRegion) (s t : State) : Prop :=
  t.tag.writing = some (r, b) ∧ t.tag.writeTs = now t ∧ (tagReg t r).isPending = false ∧
    (if b then (tagReg t r).verB = 0 ∧ (tagReg t r).okB = false ∧ (tagReg t r).verA = x.verA ∧ (tagReg t r).okA = x.okA
      else (tagReg t r).verA = 0 ∧ (tagReg t r).okA = false ∧ (tagReg t r).verB = x.verB ∧ (tagReg t r).okB = x.okB) ∧
    ∀ j, j ≠ r → tagReg t j = tagReg s j

/-- What a region is after a write of copy `b` with content `d` has begun. -/
def TagRegion.blanked (x : TagRegion) (b : Bool) (d : List Byte) : TagRegion :=
  if b then { x with verB := 0, dataB := d, okB := false, tsB := 0, isPending := false }
  else { x with verA := 0, dataA := d, okA := false, tsA := 0, isPending := false }

theorem tagReg_tagCopy_self (r : Nat) (b : Bool) (v : Nat) (d : List Byte) (ok : Bool) (ts : Nat) (s : State) :
    tagReg (tagCopy r b v d ok ts s) r =
      if b then { tagReg s r with verB := v, dataB := d, okB := ok, tsB := ts }
      else { tagReg s r with verA := v, dataA := d, okA := ok, tsA := ts } := tagReg_tagMod_self ..

theorem tagReg_tagCopy_ne {j : Nat} (b : Bool) (v : Nat) (d : List Byte) (ok : Bool) (ts : Nat) (s : State) (h : j ≠ r) :
    tagReg (tagCopy r b v d ok ts s) j = tagReg s j := tagReg_tagMod_ne _ s h

theorem tagReg_tagBegin (r j : Nat) (s : State) : tagReg (tagBegin r s) j =
    tagReg (tagMod r (fun x => { x with isPending := false })
      (tagCopy r (tagTarget (tagReg s r)) 0 (tagContent s r) false 0 s)) j := rfl

theorem tagReg_tagBegin_self (r : Nat) (s : State) :
    tagReg (tagBegin r s) r = (tagReg s r).blanked (tagTarget (tagReg s r)) (tagContent s r) := by
  rw [tagReg_tagBegin, tagReg_tagMod_self, tagReg_tagCopy_self, TagRegion.blanked]
  split <;> rfl

theorem tagReg_tagBegin_ne {j : Nat} (s : State) (h : j ≠ r) : tagReg (tagBegin r s) j = tagReg s j := by
  rw [tagReg_tagBegin, tagReg_tagMod_ne _ _ h, tagReg_tagCopy_ne _ _ _ _ _ s h]

theorem onlyIn_tagBegin (r : Nat) (s : State) : OnlyIn [.tag] s (tagBegin r s) := onlyIn_tag _ s

@[simp] theorem now_tagBegin (r : Nat) (s : State) : now (tagBegin r s) = now s := rfl

/-- A write begins in the copy that is not the newer valid one. -/
theorem tagBegin_begun (r : Nat) (s : State) : TagBegun r (tagTarget (tagReg s r)) (tagReg s r) s (tagBegin r s) := by
  refine ⟨rfl, rfl, ?_, ?_, fun _ h => tagReg_tagBegin_ne s h⟩ <;> rw [tagReg_tagBegin_self, TagRegion.blanked]
  · split <;> rfl
  · split <;> exact ⟨rfl, rfl, rfl, rfl⟩

theorem tagBegin_content (r : Nat) (s : State) : (if tagTarget (tagReg s r) then (tagReg (tagBegin r s) r).dataB
    else (tagReg (tagBegin r s) r).dataA) = tagContent s r := by
  rw [tagReg_tagBegin_self, TagRegion.blanked]
  split <;> rfl

theorem blanked_fails (x : TagRegion) (b : Bool) (d : List Byte) : (x.blanked b d).fails = x.fails := by
  unfold TagRegion.blanked; split <;> rfl

theorem blanked_retries (x : TagRegion) (b : Bool) (d : List Byte) : (x.blanked b d).retries = x.retries := by
  unfold TagRegion.blanked; split <;> rfl

/-! ### TAG_REGION_WRITE (R590, R591) -/

theorem tagWorks_of (hk : s.kp.ready = true) (hp : s.tag.present = true) : tagWorks s = true := by
  unfold tagWorks; rw [hk, hp]; rfl

theorem opTagWrite_begins (hw : tagWorks s = true) (hr : r ≤ 4) (hf : s.tag.rf = false) (hn : s.tag.writing = none) :
    opTagWrite r s = tagBegin r s := by
  have h4 : ¬4 < r := by omega
  simp [opTagWrite, hw, h4, hf, hn]

theorem opTagWrite_waits (hw : tagWorks s = true) (hr : r ≤ 4) (hf : s.tag.rf = false) (hn : s.tag.writing ≠ none) :
    opTagWrite r s = tagMod r (fun x => { x with isPending := true }) s := by
  have h4 : ¬4 < r := by omega
  simp [opTagWrite, hw, h4, hf, Option.isSome_iff_ne_none, hn]

theorem opTagWrite_defers (hw : tagWorks s = true) (hr : r ≤ 4) (hf : s.tag.rf = true) :
    opTagWrite r s = tagDefer r (now s) s := by
  have h4 : ¬4 < r := by omega
  simp [opTagWrite, hw, h4, hf]

/-! ### Deferral (R591) -/

theorem tagDefer_eq (r n : Nat) (s : State) : tagDefer r n s = { s with tag := { s.tag with
    deferCnt := if (tagReg s r).deferTs.isSome then s.tag.deferCnt else satInc s.tag.deferCnt
    regions := tabMod {} s.tag.regions r fun y =>
      { y with isPending := true, deferTs := some (y.deferTs.getD n) } } } := by
  by_cases h : (tagReg s r).deferTs.isSome
  · simp only [tagDefer, tagMod, if_pos h]
  · simp only [tagDefer, tagMod, if_neg h]

theorem tagReg_tagDefer_self (r n : Nat) (s : State) : tagReg (tagDefer r n s) r =
    { tagReg s r with isPending := true, deferTs := some ((tagReg s r).deferTs.getD n) } := by
  simp only [tagReg, tagDefer_eq, tabGet_tabMod_self]

theorem tagReg_tagDefer_ne {j : Nat} (n : Nat) (s : State) (h : j ≠ r) : tagReg (tagDefer r n s) j = tagReg s j := by
  simp only [tagReg, tagDefer_eq, tabGet_tabMod_ne _ _ _ h]

theorem onlyIn_tagDefer (r n : Nat) (s : State) : OnlyIn [.tag] s (tagDefer r n s) := by
  rw [tagDefer_eq]; exact onlyIn_tag _ s

@[simp] theorem tagDefer_rf (r n : Nat) (s : State) : (tagDefer r n s).tag.rf = s.tag.rf := by rw [tagDefer_eq]
@[simp] theorem tagDefer_rfCnt (r n : Nat) (s : State) : (tagDefer r n s).tag.rfCnt = s.tag.rfCnt := by rw [tagDefer_eq]
@[simp] theorem tagDefer_writing (r n : Nat) (s : State) : (tagDefer r n s).tag.writing = s.tag.writing := by
  rw [tagDefer_eq]
@[simp] theorem tagDefer_deferCnt (r n : Nat) (s : State) : (tagDefer r n s).tag.deferCnt =
    if (tagReg s r).deferTs.isSome then s.tag.deferCnt else satInc s.tag.deferCnt := by rw [tagDefer_eq]
@[simp] theorem now_tagDefer (r n : Nat) (s : State) : now (tagDefer r n s) = now s := by rw [tagDefer_eq]; rfl

/-! ### TAG_WRITE_RETRY (R591) -/

/-- Region r as a retry finds it: counted, at the instant of the retry. -/
def tagRetried (r t0 : Nat) (s : State) : State :=
  tagMod r (fun x => { x with retries := x.retries + 1 }) (reach (t0 + 250000000 * ((tagReg s r).retries + 1)) s)

theorem opTagRetry_eq {t0 : Nat} (hw : tagWorks s = true) (hd : (tagReg s r).deferTs = some t0)
    (hp : (tagReg s r).isPending = true) : opTagRetry r s =
      if s.tag.rf ∨ s.tag.writing.isSome then tagRetried r t0 s else tagBegin r (tagRetried r t0 s) := by
  have ht (f : TagRegion → TagRegion) (d : Nat) : (tagMod r f (reach d s)).tag.rf = s.tag.rf ∧
      (tagMod r f (reach d s)).tag.writing = s.tag.writing := by simp [tagMod]
  simp only [opTagRetry, hd, hw, hp, Bool.not_true, Bool.false_eq_true, or_self, if_false, ht]
  rfl

theorem tagReg_tagRetried_self (r t0 : Nat) (s : State) :
    tagReg (tagRetried r t0 s) r = { tagReg s r with retries := (tagReg s r).retries + 1 } := by
  rw [tagRetried, tagReg_tagMod_self, tagReg_congr (reach_tag _ s)]

theorem tagReg_tagRetried_ne {j : Nat} (t0 : Nat) (s : State) (h : j ≠ r) :
    tagReg (tagRetried r t0 s) j = tagReg s j :=
  (tagReg_tagMod_ne _ _ h).trans (tagReg_congr (reach_tag _ s) j)

theorem now_tagRetried (r t0 : Nat) (s : State) :
    now (tagRetried r t0 s) = max (t0 + 250000000 * ((tagReg s r).retries + 1)) (now s) := by
  rw [tagRetried, now_tagMod, now_reach]

theorem onlyIn_tagRetried (r t0 : Nat) (s : State) : OnlyIn [.tag, .time, .rtc] s (tagRetried r t0 s) :=
  ((onlyIn_reach _ s).mono (by decide)).trans ((onlyIn_tagMod r _ _).mono (by decide))

theorem tagRetried_writing (r t0 : Nat) (s : State) : (tagRetried r t0 s).tag.writing = s.tag.writing := by
  rw [tagRetried, tagMod_tag, reach_tag]

/-- A retry that finds the tag free begins the write it was for. -/
theorem tagBegin_tagRetried_begun (r t0 : Nat) (s : State) :
    TagBegun r (tagTarget (tagReg s r)) (tagReg s r) s (tagBegin r (tagRetried r t0 s)) := by
  have h := tagBegin_begun r (tagRetried r t0 s)
  rw [tagReg_tagRetried_self] at h
  obtain ⟨hw, ht, hp, hv, hj⟩ := h
  exact ⟨hw, ht, hp, hv, fun j n => (hj j n).trans (tagReg_tagRetried_ne t0 s n)⟩

/-! ### TAG_RF_FIELD (R591) -/

/-- Every region whose write waits is deferred. -/
def tagDeferAll (s : State) : State := (List.range 5).foldl (fun s r =>
  if (tagReg s r).isPending ∧ (tagReg s r).deferTs = none then tagDefer r (now s) s else s) s

/-- What is true of a state and kept by each deferral is true after all of them. -/
theorem tagDeferAll_induct {p : State → Prop} (h : p s) (step : ∀ j u, p u → p (tagDefer j (now u) u)) :
    p (tagDeferAll s) := by
  unfold tagDeferAll
  generalize List.range 5 = l
  induction l generalizing s with
  | nil => exact h
  | cons j l ih =>
    refine ih ?_
    dsimp only
    split
    · exact step j s h
    · exact h

theorem onlyIn_tagDeferAll (s : State) : OnlyIn [.tag] s (tagDeferAll s) :=
  tagDeferAll_induct (onlyIn_refl _ s) fun j u h => h.trans (onlyIn_tagDefer j _ u)

theorem tagDeferAll_rf (s : State) : (tagDeferAll s).tag.rf = s.tag.rf :=
  tagDeferAll_induct (p := fun u => u.tag.rf = s.tag.rf) rfl fun j u h => (tagDefer_rf j _ u).trans h
theorem tagDeferAll_rfCnt (s : State) : (tagDeferAll s).tag.rfCnt = s.tag.rfCnt :=
  tagDeferAll_induct (p := fun u => u.tag.rfCnt = s.tag.rfCnt) rfl fun j u h => (tagDefer_rfCnt j _ u).trans h
theorem tagDeferAll_writing (s : State) : (tagDeferAll s).tag.writing = s.tag.writing :=
  tagDeferAll_induct (p := fun u => u.tag.writing = s.tag.writing) rfl fun j u h => (tagDefer_writing j _ u).trans h
theorem now_tagDeferAll (s : State) : now (tagDeferAll s) = now s :=
  tagDeferAll_induct (p := fun u => now u = now s) rfl fun j u h => (now_tagDefer j _ u).trans h

/-- The write of a region is deferred and waits. -/
def TagDeferred (r : Nat) (s : State) : Prop := (tagReg s r).isPending = true ∧ (tagReg s r).deferTs.isSome = true

theorem tagDeferred_tagDefer (r n : Nat) (s : State) : TagDeferred r (tagDefer r n s) := by
  unfold TagDeferred; rw [tagReg_tagDefer_self]; exact ⟨rfl, rfl⟩

theorem tagDeferred_tagDeferAll (h : TagDeferred r s) : TagDeferred r (tagDeferAll s) := by
  refine tagDeferAll_induct (p := TagDeferred r) h fun j u hu => ?_
  by_cases e : r = j
  · subst e; exact tagDeferred_tagDefer r _ u
  · unfold TagDeferred; rw [tagReg_tagDefer_ne _ u e]; exact hu

/-- The RF side takes the tag. -/
def tagRfOn (s : State) : State := { s with tag := { s.tag with rf := true, rfCnt := satInc s.tag.rfCnt } }

/-- The keeper's write stops. -/
def tagStopped (s : State) : State := { s with tag := { s.tag with writing := none } }

/-- The write in progress of region r stops behind its block, 40 µs long, and is deferred. -/
def tagRfStops (r : Nat) (s : State) : State :=
  let u := reach (s.tag.writeTs + 40000 * ((now s - s.tag.writeTs) / 40000 + 1)) s
  tagDefer r (now u) (tagStopped u)

theorem opTagRf_eq (s : State) : opTagRf s = if s.tag.rf then s else tagDeferAll (match s.tag.writing with
    | none => tagRfOn s
    | some (r, _) => tagRfStops r (tagRfOn s)) := rfl

theorem opTagRf_idle (hf : s.tag.rf = false) (hn : s.tag.writing = none) : opTagRf s = tagDeferAll (tagRfOn s) := by
  rw [opTagRf_eq, hf, hn]
  rfl

theorem opTagRf_writing (hf : s.tag.rf = false) (hw : s.tag.writing = some (r, b)) :
    opTagRf s = tagDeferAll (tagRfStops r (tagRfOn s)) := by
  rw [opTagRf_eq, hf, hw]
  rfl

theorem onlyIn_tagRfStops (r : Nat) (s : State) : OnlyIn [.tag, .time, .rtc] s (tagRfStops r s) :=
  ((onlyIn_reach _ s).mono (by decide)).trans
    (((onlyIn_tag _ _).trans (onlyIn_tagDefer r _ _)).mono (by decide))

theorem tagStopped_tag (s : State) : (tagStopped s).tag = { s.tag with writing := none } := rfl
theorem now_tagStopped (s : State) : now (tagStopped s) = now s := rfl

theorem now_tagRfStops (r : Nat) (s : State) : now (tagRfStops r s) =
    max (s.tag.writeTs + 40000 * ((now s - s.tag.writeTs) / 40000 + 1)) (now s) := by
  rw [tagRfStops, now_tagDefer, now_tagStopped, now_reach]

theorem tagRfStops_rf (r : Nat) (s : State) : (tagRfStops r s).tag.rf = s.tag.rf := by
  rw [tagRfStops, tagDefer_rf, tagStopped_tag, reach_tag]
theorem tagRfStops_rfCnt (r : Nat) (s : State) : (tagRfStops r s).tag.rfCnt = s.tag.rfCnt := by
  rw [tagRfStops, tagDefer_rfCnt, tagStopped_tag, reach_tag]
theorem tagRfStops_writing (r : Nat) (s : State) : (tagRfStops r s).tag.writing = none := tagDefer_writing r _ _

end Sys2Proof.Machine
end

section
/-!
SUPPORT. The end of a write of the service tag (R590): read back as it should be, or not.
-/
namespace Sys2Proof.Machine

variable {r : Nat} {b : Bool} {x : TagRegion} {s : State}

@[simp] theorem now_record (code src : Nat) (pl : List Byte) (s : State) : now (record code src pl s) = now s :=
  congrArg TimeUnit.ts (record_time code src pl s)

/-! ### The next write -/

theorem tagNext_of_quiet (h : ∀ j, j < 5 → (tagReg s j).isPending = false) : tagNext s = s := by
  have hn : (List.range 5).find? (fun r => (tagReg s r).isPending) = none :=
    List.find?_eq_none.2 fun j hj => Bool.eq_false_iff.1 (h j (List.mem_range.1 hj))
  unfold tagNext
  split
  · rfl
  · rw [hn]

/-! ### What a write has made of its region -/

/-- The content of a copy. -/
def TagRegion.copyData (x : TagRegion) (b : Bool) : List Byte := if b then x.dataB else x.dataA

/-- The version of the other copy, 0 where it is not valid. -/
def TagRegion.otherVer (x : TagRegion) (b : Bool) : Nat :=
  if b then (if x.okA then x.verA else 0) else (if x.okB then x.verB else 0)

/-- The write of copy `b` of region r is over, at the end of its last block. -/
def tagWritten (r : Nat) (b : Bool) (s : State) : State :=
  tagStopped (reach (s.tag.writeTs + 40000 * tagBlocks ((tagReg s r).copyData b)) s)

/-- Copy `b` holds the next version, with its time in seconds. -/
def tagCopied (r : Nat) (b : Bool) (s : State) : State :=
  tagCopy r b (((tagReg s r).otherVer b + 1) % 2 ^ 32) ((tagReg s r).copyData b) true
    (now (tagWritten r b s) / 1000000000 % 2 ^ 32) (tagWritten r b s)

/-- A good write is counted. -/
def tagCounted (s : State) : State := { s with tag := { s.tag with writeCnt := satInc s.tag.writeCnt } }

/-- The copy read back: it holds the next version, and is counted and shown. -/
def tagVerified (r : Nat) (b : Bool) (s : State) : State :=
  emit { kind := .tag, dest := r, args := [b2n b, ((tagReg s r).otherVer b + 1) % 2 ^ 32]
         data := (tagReg s r).copyData b } (tagCounted (tagCopied r b s))

/-- The event of a write that was deferred at `t`, none when it was not (R591). -/
def tagDelayed (r began : Nat) (t : Option Nat) (s : State) : State := match t with
  | some t => record 0x0820 0 (items [r, (began - t) / 1000000]) s
  | none => s

/-- The counts of a region after a good write; those of a write that waits again stay. -/
def TagRegion.settled (x : TagRegion) : TagRegion :=
  { x with deferTs := if x.isPending then x.deferTs else none, retries := if x.isPending then x.retries else 0, fails := 0 }

theorem opTagComplete_good (hw : s.tag.writing = some (r, b)) : opTagComplete true s =
    tagNext (tagMod r TagRegion.settled
      (tagDelayed r (tagWritten r b s).tag.writeTs (tagReg s r).deferTs (tagVerified r b s))) := by
  unfold opTagComplete
  rw [hw]
  rfl

/-- The copy read back wrong: the write is over, and counted. -/
def tagFailed (r : Nat) (b : Bool) (s : State) : State :=
  let u := tagWritten r b s
  { u with tag := { u.tag with failCnt := satInc u.tag.failCnt } }

/-- One failure more of a region. -/
def TagRegion.failed (x : TagRegion) : TagRegion := { x with fails := x.fails + 1 }

/-- The counts of a region whose write is given up. -/
def TagRegion.givenUp (x : TagRegion) : TagRegion := { x with fails := 0, deferTs := none, retries := 0 }

theorem opTagComplete_bad (hw : s.tag.writing = some (r, b)) : opTagComplete false s =
    if (tagReg s r).fails + 1 < 3 then tagBegin r (tagMod r TagRegion.failed (tagFailed r b s))
    else tagNext (record 0x0821 0 (items [r, b2n b]) (tagMod r TagRegion.givenUp (tagFailed r b s))) := by
  unfold opTagComplete
  rw [hw]
  rfl

/-! ### The parts of the end of a write -/

theorem tagWritten_tag (r : Nat) (b : Bool) (s : State) : (tagWritten r b s).tag = { s.tag with writing := none } := by
  rw [tagWritten, tagStopped_tag, reach_tag]

theorem tagReg_tagWritten (r : Nat) (b : Bool) (s : State) (j : Nat) : tagReg (tagWritten r b s) j = tagReg s j := by
  rw [tagReg, tagWritten_tag]; rfl

theorem now_tagWritten (r : Nat) (b : Bool) (s : State) : now (tagWritten r b s) =
    max (s.tag.writeTs + 40000 * tagBlocks ((tagReg s r).copyData b)) (now s) := by
  rw [tagWritten, now_tagStopped, now_reach]

theorem onlyIn_tagWritten (r : Nat) (b : Bool) (s : State) : OnlyIn [.tag, .time, .rtc] s (tagWritten r b s) :=
  ((onlyIn_reach _ s).mono (by decide)).trans ((onlyIn_tag _ _).mono (by decide))

theorem tagDelayed_tag (r n : Nat) (t : Option Nat) (s : State) : (tagDelayed r n t s).tag = s.tag := by
  cases t with
  | none => rfl
  | some t => exact record_tag ..

theorem now_tagDelayed (r n : Nat) (t : Option Nat) (s : State) : now (tagDelayed r n t s) = now s := by
  cases t with
  | none => rfl
  | some t => exact now_record ..

theorem onlyIn_tagDelayed (r n : Nat) (t : Option Nat) (s : State) : OnlyIn logBlocks s (tagDelayed r n t s) := by
  cases t with
  | none => exact onlyIn_refl _ s
  | some t => exact onlyIn_record _ _ _ s

theorem now_tagCopy (r : Nat) (b : Bool) (v : Nat) (d : List Byte) (ok : Bool) (ts : Nat) (s : State) :
    now (tagCopy r b v d ok ts s) = now s := rfl

theorem tagCopied_writing (r : Nat) (b : Bool) (s : State) : (tagCopied r b s).tag.writing = none := by
  rw [tagCopied, tagCopy, tagMod_tag, tagWritten_tag]

theorem tagCopied_writeCnt (r : Nat) (b : Bool) (s : State) : (tagCopied r b s).tag.writeCnt = s.tag.writeCnt := by
  rw [tagCopied, tagCopy, tagMod_tag, tagWritten_tag]

theorem onlyIn_tagCopied (r : Nat) (b : Bool) (s : State) : OnlyIn [.tag, .time, .rtc] s (tagCopied r b s) :=
  (onlyIn_tagWritten r b s).trans ((onlyIn_tagMod r _ _).mono (by decide))

theorem tagVerified_tag (r : Nat) (b : Bool) (s : State) : (tagVerified r b s).tag =
    { (tagCopied r b s).tag with writeCnt := satInc (tagCopied r b s).tag.writeCnt } := by
  rw [tagVerified, emit_tag, tagCounted]

theorem tagReg_tagVerified (r : Nat) (b : Bool) (s : State) (j : Nat) :
    tagReg (tagVerified r b s) j = tagReg (tagCopied r b s) j := by
  rw [tagReg, tagVerified_tag, tagReg]

theorem now_emit (e : Emit) (s : State) : now (emit e s) = now s := rfl
theorem now_tagCounted (s : State) : now (tagCounted s) = now s := rfl

theorem now_tagVerified (r : Nat) (b : Bool) (s : State) : now (tagVerified r b s) = now (tagWritten r b s) := by
  rw [tagVerified, now_emit, now_tagCounted, tagCopied, now_tagCopy]

theorem onlyIn_tagVerified (r : Nat) (b : Bool) (s : State) :
    OnlyIn [.tag, .time, .rtc, .out] s (tagVerified r b s) :=
  ((onlyIn_tagCopied r b s).mono (by decide)).trans
    (((onlyIn_tag _ _).mono (by decide)).trans ((onlyIn_emit _ _).mono (by decide)))

theorem tagReg_tagFailed (r : Nat) (b : Bool) (s : State) (j : Nat) : tagReg (tagFailed r b s) j = tagReg s j :=
  tagReg_tagWritten r b s j

theorem onlyIn_tagFailed (r : Nat) (b : Bool) (s : State) : OnlyIn [.tag, .time, .rtc] s (tagFailed r b s) :=
  (onlyIn_tagWritten r b s).trans ((onlyIn_tag _ _).mono (by decide))

/-! ### TAG_WRITE_COMPLETE while no other write waits -/

/-- The state after a good write, before the next one. -/
def tagGood (r : Nat) (b : Bool) (s : State) : State :=
  tagMod r TagRegion.settled
    (tagDelayed r (tagWritten r b s).tag.writeTs (tagReg s r).deferTs (tagVerified r b s))

theorem tagReg_tagGood_self (r : Nat) (b : Bool) (s : State) :
    tagReg (tagGood r b s) r = TagRegion.settled (if b then
      { tagReg s r with verB := ((tagReg s r).otherVer b + 1) % 2 ^ 32, dataB := (tagReg s r).copyData b, okB := true
                        tsB := now (tagWritten r b s) / 1000000000 % 2 ^ 32 }
    else
      { tagReg s r with verA := ((tagReg s r).otherVer b + 1) % 2 ^ 32, dataA := (tagReg s r).copyData b, okA := true
                        tsA := now (tagWritten r b s) / 1000000000 % 2 ^ 32 }) := by
  rw [tagGood, tagReg_tagMod_self, tagReg_congr (tagDelayed_tag ..), tagReg_tagVerified, tagCopied,
    tagReg_tagCopy_self, tagReg_tagWritten]

theorem tagReg_tagGood_ne {j : Nat} (b : Bool) (s : State) (h : j ≠ r) : tagReg (tagGood r b s) j = tagReg s j := by
  rw [tagGood, tagReg_tagMod_ne _ _ h, tagReg_congr (tagDelayed_tag ..), tagReg_tagVerified, tagCopied,
    tagReg_tagCopy_ne _ _ _ _ _ _ h, tagReg_tagWritten]

theorem tagReg_tagGood_isPending (r : Nat) (b : Bool) (s : State) (j : Nat) :
    (tagReg (tagGood r b s) j).isPending = (tagReg s j).isPending := by
  by_cases e : j = r
  · subst e; rw [tagReg_tagGood_self]; cases b <;> rfl
  · rw [tagReg_tagGood_ne b s e]

theorem tagGood_writing (r : Nat) (b : Bool) (s : State) : (tagGood r b s).tag.writing = none := by
  rw [tagGood, tagMod_tag, tagDelayed_tag, tagVerified_tag, tagCopied_writing]

theorem tagGood_writeCnt (r : Nat) (b : Bool) (s : State) :
    (tagGood r b s).tag.writeCnt = satInc s.tag.writeCnt := by
  rw [tagGood, tagMod_tag, tagDelayed_tag, tagVerified_tag, tagCopied_writeCnt]

theorem now_tagGood (r : Nat) (b : Bool) (s : State) : now (tagGood r b s) =
    max (s.tag.writeTs + 40000 * tagBlocks ((tagReg s r).copyData b)) (now s) := by
  rw [tagGood, now_tagMod, now_tagDelayed, now_tagVerified, now_tagWritten]

theorem onlyIn_tagGood (r : Nat) (b : Bool) (s : State) :
    OnlyIn (logBlocks ++ [.tag, .out, .time, .rtc]) s (tagGood r b s) :=
  ((onlyIn_tagVerified r b s).mono (by decide)).trans
    (((onlyIn_tagDelayed _ _ _ _).mono (by decide)).trans ((onlyIn_tagMod r _ _).mono (by decide)))

theorem opTagComplete_good_quiet (hw : s.tag.writing = some (r, b)) (hq : ∀ j, j < 5 → (tagReg s j).isPending = false) :
    opTagComplete true s = tagGood r b s :=
  (opTagComplete_good hw).trans (tagNext_of_quiet fun j h => (tagReg_tagGood_isPending r b s j).trans (hq j h))

/-- The state after a write that is given up, before the next one. -/
def tagGivenUp (r : Nat) (b : Bool) (s : State) : State :=
  record 0x0821 0 (items [r, b2n b]) (tagMod r TagRegion.givenUp (tagFailed r b s))

theorem tagReg_tagGivenUp_self (r : Nat) (b : Bool) (s : State) :
    tagReg (tagGivenUp r b s) r = (tagReg s r).givenUp := by
  rw [tagGivenUp, tagReg_congr (record_tag ..), tagReg_tagMod_self, tagReg_tagFailed]

theorem tagReg_tagGivenUp_ne {j : Nat} (b : Bool) (s : State) (h : j ≠ r) :
    tagReg (tagGivenUp r b s) j = tagReg s j := by
  rw [tagGivenUp, tagReg_congr (record_tag ..), tagReg_tagMod_ne _ _ h, tagReg_tagFailed]

theorem opTagComplete_bad_quiet (hw : s.tag.writing = some (r, b)) (hf : 3 ≤ (tagReg s r).fails + 1)
    (hq : ∀ j, j < 5 → (tagReg s j).isPending = false) : opTagComplete false s = tagGivenUp r b s := by
  rw [opTagComplete_bad hw, if_neg (by omega)]
  refine tagNext_of_quiet (s := tagGivenUp r b s) fun j h => ?_
  by_cases e : j = r
  · subst e; rw [tagReg_tagGivenUp_self]; exact hq j h
  · rw [tagReg_tagGivenUp_ne b s e, hq j h]

theorem tagFailed_writing (r : Nat) (b : Bool) (s : State) : (tagFailed r b s).tag.writing = none :=
  congrArg Tag.writing (tagWritten_tag r b s)

theorem tagFailed_failCnt (r : Nat) (b : Bool) (s : State) : (tagFailed r b s).tag.failCnt = satInc s.tag.failCnt := by
  change satInc (tagWritten r b s).tag.failCnt = _
  rw [tagWritten_tag]

theorem tagGivenUp_tag (r : Nat) (b : Bool) (s : State) :
    (tagGivenUp r b s).tag = (tagMod r TagRegion.givenUp (tagFailed r b s)).tag := record_tag ..

/-- A write that failed begins again. -/
def tagAgain (r : Nat) (b : Bool) (s : State) : State := tagBegin r (tagMod r TagRegion.failed (tagFailed r b s))

theorem tagReg_tagAgain_fails (r : Nat) (b : Bool) (s : State) :
    (tagReg (tagAgain r b s) r).fails = (tagReg s r).fails + 1 := by
  rw [tagAgain, tagReg_tagBegin_self, blanked_fails, tagReg_tagMod_self, tagReg_tagFailed]
  rfl

theorem onlyIn_tagAgain (r : Nat) (b : Bool) (s : State) : OnlyIn [.tag, .time, .rtc] s (tagAgain r b s) :=
  (onlyIn_tagFailed r b s).trans
    (((onlyIn_tagMod r _ _).mono (by decide)).trans ((onlyIn_tagBegin r _).mono (by decide)))

theorem onlyIn_tagGivenUp (r : Nat) (b : Bool) (s : State) :
    OnlyIn (logBlocks ++ [.tag, .time, .rtc]) s (tagGivenUp r b s) :=
  OnlyIn.then_record (((onlyIn_tagFailed r b s).mono (by decide)).trans ((onlyIn_tagMod r _ _).mono (by decide)))
    (by decide) _ _ _

end Sys2Proof.Machine
end

section
/-!
SUPPORT. Latched register pairs, and bus writes of IO-space registers (R7, R38, R110, R146, R390).
-/
namespace Sys2Proof.Machine

variable {a b i j k : Nat} {v : Word} {o : LampOp} {s t u : State}

/-! ### LATCHED_LOW_READ (R390, R528) -/

theorem regAddrOk_of (h4 : a % 4 = 0) (ha : a < 0x120000) : regAddrOk a = true := by
  simp [regAddrOk, h4, ha]

theorem opLatchedLow_open (h4 : a % 4 = 0) (ha : a < 0x120000) (hg : regGated s a = false) :
    opLatchedLow a s = regLatch a s := by
  simp [opLatchedLow, regRead, regAddrOk_of h4 ha, hg]

theorem opLatchedLow_gated (h4 : a % 4 = 0) (ha : a < 0x120000) (hg : regGated s a = true) :
    opLatchedLow a s = gatedAccess s := by
  simp [opLatchedLow, regRead, regAddrOk_of h4 ha, hg]

theorem regLatch_of_high {h : Word} (hh : regHigh s a = some h) :
    regLatch a s = { s with latch := tabPut 0 s.latch (a + 4) h } := by
  unfold regLatch; rw [hh]

theorem regLatch_of_none (hh : regHigh s a = none) : regLatch a s = s := by
  unfold regLatch; rw [hh]

/-- What a pair's high word is does not depend on what is latched. -/
theorem regHigh_latch (l : Tab Word) (a : Nat) (s : State) : regHigh { s with latch := l } a = regHigh s a := rfl

/-- The high word that a read of the low one latched is what a read of the high one gives. -/
theorem regValue_of_latched {h : Word} (hh : regHigh s a = some h) :
    regValue { s with latch := tabPut 0 s.latch (a + 4) h } (a + 4) = h := by
  have hs : (regHigh { s with latch := tabPut 0 s.latch (a + 4) h } (a + 4 - 4)).isSome = true := by
    rw [Nat.add_sub_cancel, regHigh_latch, hh]; rfl
  rw [regValue, if_pos ⟨Nat.le_add_left 4 a, hs⟩, tabGet_tabPut_self]

/-! ### Stores of one lamp -/

theorem lampStores_trans (h : LampStores i s t) (g : LampStores i t u) : LampStores i s u := by
  obtain ⟨hl, hg, hk, hs⟩ := h
  obtain ⟨gl, gg, gk, gs⟩ := g
  refine ⟨fun j e => (gl j e).trans (hl j e), fun n => ?_, fun n => ?_, ?_⟩
  · rw [gg n, hg n]
  · rw [gk n, hk n]
  · rw [hs] at gs; exact gs

theorem lampStores_of_lampOnly (h : LampOnly i s t) : LampStores i s t := by
  obtain ⟨hl, hs⟩ := h
  rw [hs]
  exact ⟨fun j e => by rw [← hl j e, hs], fun _ => rfl, fun _ => rfl, rfl⟩

theorem lampStores_ecc (i : Nat) (x : Tab EccMark) (s : State) :
    LampStores i s { s with fab := { s.fab with ecc := x } } := ⟨fun _ _ => rfl, fun _ => rfl, fun _ => rfl, rfl⟩

theorem lampStores_blocks (i : Nat) (x : Tab TcBlock) (s : State) :
    LampStores i s { s with fab := { s.fab with blocks := x } } := ⟨fun _ _ => rfl, fun _ => rfl, fun _ => rfl, rfl⟩

theorem lampStores_outPut (i k off : Nat) (v m : Word) (s : State) : LampStores i s (outPut k off v m s) := by
  refine ⟨fun _ _ => rfl, fun _ => rfl, fun n => ?_, rfl⟩
  by_cases e : n = k
  · subst e; rw [outPut, taskOf_taskMod]
  · rw [outPut, taskOf_taskMod_ne _ _ e]

theorem lampStores_visible (i d : Nat) (s : State) : LampStores i s (visible i d s) :=
  lampStores_of_lampOnly (lampOnly_lampMod i _ s)

theorem lampOnly_ioTap (o : LampOp) (a : Nat) (s : State) : LampOnly o.lamp s (ioTap o a s) := by
  unfold ioTap
  dsimp only
  have h : LampOnly o.lamp s (if a < 0x20000 then lampCtr o.lamp 10 1 s
      else if 0x80000 ≤ a ∧ a < 0x82000 then lampCtr o.lamp 11 1 s else s) := by
    split
    · exact lampOnly_lampCtr ..
    · split
      · exact lampOnly_lampCtr ..
      · exact lampOnly_refl ..
  split
  · exact lampOnly_trans h (lampOnly_lampCtr ..)
  · exact h

theorem ioTap_fab (o : LampOp) (a : Nat) (s : State) : (ioTap o a s).fab = s.fab := by
  simp only [ioTap, lampCtr, apply_ite State.fab, ctrAdd_fab, ite_self]

/-- Memory reads the same where the galleries and the global memory are the same. -/
theorem dspaceKept_of_mem (hg : t.fab.gal = s.fab.gal) (hm : t.fab.gmem = s.fab.gmem) : DspaceKept s t := by
  intro j b q _
  simp only [dMem, galOf, hg, hm]

end Sys2Proof.Machine
end

section
/-!
SUPPORT. Words as bits: the bytes of a word in memory, the bytes of an output word a task owns, and the control word of a
timer/counter block (R34, R104, R146).
-/
namespace Sys2Proof.Machine

variable {b j k off x : Nat} {v m : Word} {s : State}

/-! ### Bytes of a word -/

/-- Bit b of byte j of a word in memory. -/
theorem getLsbD_wordAt (t : Tab Byte) (a : Nat) (hj : j < 4) (hb : b < 8) :
    (wordAt t a).getLsbD (8 * j + b) = (byteAt t (a + j)).getLsbD b := by
  change BitVec.getLsbD (w := 8 + 8 + 8 + 8)
    (byteAt t (a + 3) ++ byteAt t (a + 2) ++ byteAt t (a + 1) ++ byteAt t a) (8 * j + b) = _
  simp only [BitVec.getLsbD_append]
  obtain rfl | rfl | rfl | rfl : j = 0 ∨ j = 1 ∨ j = 2 ∨ j = 3 := by omega
  · rw [if_pos (by omega)]; simp
  · rw [if_neg (by omega), if_pos (by omega)]; congr 1; omega
  · rw [if_neg (by omega), if_neg (by omega), if_pos (by omega)]; congr 1; omega
  · rw [if_neg (by omega), if_neg (by omega), if_neg (by omega)]; congr 1; omega

/-- A word written reads back bit by bit. -/
theorem getLsbD_byteAt_wordPut (t : Tab Byte) (a : Nat) (w : Word) (hj : j < 4) (hb : b < 8) :
    (byteAt (wordPut t a w) (a + j)).getLsbD b = w.getLsbD (8 * j + b) := by
  rw [← getLsbD_wordAt _ _ hj hb, wordAt_wordPut]

/-- Byte lane i of a word holds bit b of byte j just when i is j. -/
theorem getLsbD_lane : ∀ i < 4, ∀ j < 4, ∀ b < 8, (w32 (255 * 2 ^ (8 * i))).getLsbD (8 * j + b) = decide (i = j) := by
  decide

theorem getLsbD_lane_if (c : Prop) [Decidable c] (i : Nat) (hi : i < 4) (hj : j < 4) (hb : b < 8) :
    (if c then w32 (255 * 2 ^ (8 * i)) else 0).getLsbD (8 * j + b) = (decide c && decide (i = j)) := by
  split
  · rw [getLsbD_lane i hi j hj b hb]; simp [*]
  · simp [*]

/-- The mask of a task's own bytes of a word. -/
theorem getLsbD_ownMask (s : State) (k off : Nat) (hj : j < 4) (hb : b < 8) :
    (ownMask s k off).getLsbD (8 * j + b) = decide (ownerOf s (off + j) = some k) := by
  simp only [ownMask, BitVec.getLsbD_or]
  rw [getLsbD_lane_if _ 0 (by omega) hj hb, getLsbD_lane_if _ 1 (by omega) hj hb, getLsbD_lane_if _ 2 (by omega) hj hb,
    getLsbD_lane_if _ 3 (by omega) hj hb]
  obtain rfl | rfl | rfl | rfl : j = 0 ∨ j = 1 ∨ j = 2 ∨ j = 3 := by omega
  all_goals simp

/-! ### A task's output bytes (R37, R38) -/

theorem outPut_eq (k off : Nat) (v m : Word) (s : State) : outPut k off v m s =
    let own := m &&& ownMask s k off
    taskMod k (fun t => { t with work := wordPut t.work off ((wordAt t.work off &&& ~~~own) ||| (v &&& own)) }) s := rfl

/-- The masked bits of the task's own bytes take the value; every other output bit stays. -/
theorem getLsbD_outPut (n : Nat) (v m : Word) (s : State) (h4 : off % 4 = 0) (hb : b < 8) :
    (byteAt (taskOf (outPut k off v m s) n).work x).getLsbD b =
      if n = k ∧ x / 4 * 4 = off ∧ ownerOf s x = some n ∧ m.getLsbD (8 * (x % 4) + b) then v.getLsbD (8 * (x % 4) + b)
      else (byteAt (taskOf s n).work x).getLsbD b := by
  rw [outPut_eq]
  by_cases hn : n = k
  · subst hn
    rw [taskOf_taskMod]
    by_cases hx : x / 4 * 4 = off
    · obtain ⟨y, rfl, hy⟩ : ∃ y, x = off + y ∧ y < 4 := ⟨x % 4, by omega, by omega⟩
      have hm : (off + y) % 4 = y := by omega
      rw [getLsbD_byteAt_wordPut _ _ _ hy hb, hm]
      simp only [BitVec.getLsbD_or, BitVec.getLsbD_and, BitVec.getLsbD_not, getLsbD_wordAt _ _ hy hb,
        getLsbD_ownMask s n off hy hb, hx, true_and]
      have hlt : 8 * y + b < 32 := by omega
      by_cases ho : ownerOf s (off + y) = some n
      · cases hv : m.getLsbD (8 * y + b) <;> simp [-BitVec.getLsbD_eq_getElem, ho, hlt]
      · simp [-BitVec.getLsbD_eq_getElem, ho, hlt]
    · rw [byteAt_wordPut_ne _ _ (by omega), if_neg (fun h => hx h.2.1)]
  · rw [taskOf_taskMod_ne _ _ hn, if_neg (fun h => hn h.1)]

/-! ### The words of a timer/counter block (R146) -/

/-- A field holds nothing below its place. -/
theorem getLsbD_fldF_below (n : Nat) {p i : Nat} (h : i < p) : (fldF n p).getLsbD i = false := by
  rw [fldF, w32, BitVec.getLsbD_ofNat, Nat.testBit_mul_two_pow, decide_eq_false (p := p ≤ i) (by omega), Bool.false_and,
    Bool.and_false]

/-- The high half of the control word is that of the last instant. -/
theorem tcWord_ctrl_high (c : TcBlock) : (tcWord c 3).toNat / 65536 = c.last.toNat / 2 ^ 32 := by
  have hk : (fldF (tcKindCode c.kind) 8).extractLsb' 16 16 = 0#16 := by cases c.kind <;> rfl
  have hb : ∀ (f : Bool) (n : Nat), n < 16 → (bitF f n).extractLsb' 16 16 = 0#16 := by decide
  have hh : (fldF (c.last.toNat / 2 ^ 32) 16).extractLsb' 16 16 = BitVec.ofNat 16 (c.last.toNat / 2 ^ 32) := by
    apply BitVec.eq_of_toNat_eq
    simp only [fldF, BitVec.extractLsb'_toNat, BitVec.toNat_ofNat, Nat.shiftRight_eq_div_pow]
    omega
  have hw : (tcWord c 3).extractLsb' 16 16 = BitVec.ofNat 16 (c.last.toNat / 2 ^ 32) := by
    simp only [tcWord, BitVec.extractLsb'_or, hh, hk, hb _ 4 (by decide), hb _ 3 (by decide), hb _ 2 (by decide),
      hb _ 1 (by decide), hb _ 0 (by decide), BitVec.or_zero]
  have hn := congrArg BitVec.toNat hw
  simp only [BitVec.extractLsb'_toNat, BitVec.toNat_ofNat, Nat.shiftRight_eq_div_pow] at hn
  have h1 := c.last.isLt
  have h2 := (tcWord c 3).isLt
  omega

/-- Bits 10 to 8 of the control word are the kind. -/
theorem tcWord_ctrl_kind (c : TcBlock) : tcKindOf ((tcWord c 3).toNat / 256 % 8) = c.kind := by
  have hh : (fldF (c.last.toNat / 2 ^ 32) 16).extractLsb' 8 3 = 0#3 := by
    apply BitVec.eq_of_toNat_eq
    simp only [fldF, BitVec.extractLsb'_toNat, BitVec.toNat_ofNat, Nat.shiftRight_eq_div_pow]
    omega
  have hb : ∀ (f : Bool) (n : Nat), n < 8 → (bitF f n).extractLsb' 8 3 = 0#3 := by decide
  have hw : (tcWord c 3).extractLsb' 8 3 = (fldF (tcKindCode c.kind) 8).extractLsb' 8 3 := by
    simp only [tcWord, BitVec.extractLsb'_or, hh, hb _ 4 (by decide), hb _ 3 (by decide), hb _ 2 (by decide),
      hb _ 1 (by decide), hb _ 0 (by decide), BitVec.or_zero, BitVec.zero_or]
  have hn := congrArg BitVec.toNat hw
  rw [BitVec.extractLsb'_toNat, Nat.shiftRight_eq_div_pow] at hn
  change (tcWord c 3).toNat / 256 % 8 = _ at hn
  rw [hn]
  cases c.kind <;> rfl

/-- Bit i of the control word, of its five flags. -/
theorem tcWord_ctrl_flag (c : TcBlock) {i : Nat} (hi : i < 5) : (tcWord c 3).getLsbD i =
    if i = 4 then c.retain else if i = 3 then c.new else if i = 2 then c.pulse else if i = 1 then c.inp else c.q := by
  have hh : (fldF (c.last.toNat / 2 ^ 32) 16).getLsbD i = false := getLsbD_fldF_below _ (by omega)
  have hk : (fldF (tcKindCode c.kind) 8).getLsbD i = false := getLsbD_fldF_below _ (by omega)
  have hb : ∀ (f : Bool) (n : Nat), n < 5 → ∀ i < 5, (bitF f n).getLsbD i = (f && decide (i = n)) := by decide
  rw [tcWord]
  simp only [BitVec.getLsbD_or, hh, hk, hb _ 4 (by decide) i hi, hb _ 3 (by decide) i hi,
    hb _ 2 (by decide) i hi, hb _ 1 (by decide) i hi, hb _ 0 (by decide) i hi]
  obtain rfl | rfl | rfl | rfl | rfl : i = 0 ∨ i = 1 ∨ i = 2 ∨ i = 3 ∨ i = 4 := by omega
  all_goals simp

/-- A block is made of its four words. -/
theorem tcOfWords_tcWord (c : TcBlock) (p e : Word) :
    tcOfWords p e (tcWord c 2) (tcWord c 3) = { c with preset := p, elapsed := e } := by
  have hl : BitVec.ofNat 48 (c.last.toNat / 2 ^ 32 * 2 ^ 32 + (tcWord c 2).toNat) = c.last := by
    apply BitVec.eq_of_toNat_eq
    simp only [tcWord, BitVec.extractLsb'_toNat, BitVec.toNat_ofNat, Nat.shiftRight_zero]
    omega
  simp only [tcOfWords, tcWord_ctrl_high, hl, tcWord_ctrl_kind, tcWord_ctrl_flag c (i := 0) (by decide),
    tcWord_ctrl_flag c (i := 1) (by decide), tcWord_ctrl_flag c (i := 2) (by decide),
    tcWord_ctrl_flag c (i := 3) (by decide), tcWord_ctrl_flag c (i := 4) (by decide)]
  simp

end Sys2Proof.Machine
end

section
/-!
SUPPORT. What a bus write of IO-space does on a lamp without speculative or buffered work (R38, R110, R146).
-/
namespace Sys2Proof.Machine

variable {a b i j k off : Nat} {v m : Word} {o : LampOp} {s t u : State}

/-! ### The output image (R37, R38) -/

/-- The same state with the error marks `x`. -/
def eccMarked (x : Tab EccMark) (s : State) : State := { s with fab := { s.fab with ecc := x } }

/-- A store to a word without error changes at most the error marks. -/
theorem eccStore_ok (i : Nat) {mem unit off : Nat} (whole : Bool) {met : EccMark}
    (h : eccSeen s (eccKey mem unit off) met = .ok) : ∃ x, eccStore i mem unit off whole met s = .ok (eccMarked x s) := by
  unfold eccStore
  split
  · exact ⟨_, rfl⟩
  · refine ⟨s.fab.ecc, ?_⟩
    rw [eccRead, h]
    rfl

theorem dspaceKept_trans (h : DspaceKept s t) (hg : u.fab.gal = t.fab.gal) (hm : u.fab.gmem = t.fab.gmem) :
    DspaceKept s u := fun j b q e => by
  rw [← h j b q e]
  simp only [dMem, galOf, hg, hm]

/-- What is counted behind a write of the output image changes nothing of it. -/
theorem outputWritten_ioTap (h : OutputWritten o.lamp off v m s t) : OutputWritten o.lamp off v m s (ioTap o a t) := by
  obtain ⟨hb, hd, hc, hs⟩ := h
  have hf := ioTap_fab o a t
  refine ⟨fun k x b e => ?_, dspaceKept_trans hd (by rw [hf]) (by rw [hf]), fun b => ?_,
    lampStores_trans hs (lampStores_of_lampOnly (lampOnly_ioTap o a t))⟩
  · rw [← hb k x b e, taskOf, hf, ← taskOf]
  · rw [← hc b, tcOf, hf, ← tcOf]

/-- What the output image becomes in a write of masked bits: those of the task's own bytes take the value. -/
def outStored (o : LampOp) (k off : Nat) (v m : Word) (s : State) : State :=
  if m = 0 then s else visible o.lamp (3 + waitOf o) (outPut k off v m s)

theorem outWrite_of_store (a : Nat) (v : Word) (hp : LampPlain o s)
    (hf : foreignMask s (lampOf s o.lamp).task off &&& m = 0)
    (hu : eccStore o.lamp 5 0 (eccOut off) (m == 0xFFFFFFFF) o.dataErr s = .ok u) : outWrite o a off v m s =
      .ok (outStored o (lampOf s o.lamp).task off v (m &&& ownMask u (lampOf s o.lamp).task off) u) := by
  obtain ⟨hspec, hdrain, -⟩ := hp
  simp only [outWrite, hf, ne_eq, not_true_eq_false, if_false, hu, hspec, hdrain, bind, Except.bind, outStored,
    Bool.false_eq_true]
  split <;> rfl

theorem lampStores_outStored (o : LampOp) (k off : Nat) (v m : Word) (s : State) :
    LampStores o.lamp s (outStored o k off v m s) := by
  unfold outStored
  split
  · exact lampStores_of_lampOnly (lampOnly_refl _ s)
  · exact lampStores_trans (lampStores_outPut _ k off v m s) (lampStores_visible _ _ _)

theorem getLsbD_and_ownMask {x : Nat} (k : Nat) (m : Word) (s : State) (hx : x / 4 * 4 = off) (hb : b < 8) :
    (m &&& ownMask s k off).getLsbD (8 * (x % 4) + b) =
      (m.getLsbD (8 * (x % 4) + b) && decide (ownerOf s x = some k)) := by
  have e : off + x % 4 = x := by omega
  rw [BitVec.getLsbD_and, getLsbD_ownMask s k off (Nat.mod_lt x (by decide)) hb, e]

/-- The masked bits of the task's own bytes take the value, whether or not there is one. -/
theorem getLsbD_outStored (o : LampOp) (k : Nat) (v m : Word) (s : State) (n x : Nat) (h4 : off % 4 = 0) (hb : b < 8) :
    (byteAt (taskOf (outStored o k off v (m &&& ownMask s k off) s) n).work x).getLsbD b =
      if n = k ∧ x / 4 * 4 = off ∧ ownerOf s x = some n ∧ m.getLsbD (8 * (x % 4) + b) then v.getLsbD (8 * (x % 4) + b)
      else (byteAt (taskOf s n).work x).getLsbD b := by
  unfold outStored
  split
  · next h0 =>
    refine (if_neg ?_).symm
    rintro ⟨rfl, hx, ho, hv⟩
    have h := getLsbD_and_ownMask n m s hx hb
    rw [h0, hv, ho] at h
    simp at h
  · refine (getLsbD_outPut n v _ s h4 hb).trans (ite_congr (propext ?_) (fun _ => rfl) fun _ => rfl)
    refine and_congr_right fun hn => and_congr_right fun hx => and_congr_right fun ho => ?_
    rw [getLsbD_and_ownMask k m s hx hb, ho, hn]
    simp

theorem outStored_mem (o : LampOp) (k off : Nat) (v m : Word) (s : State) :
    (outStored o k off v m s).fab.gal = s.fab.gal ∧ (outStored o k off v m s).fab.gmem = s.fab.gmem ∧
      (outStored o k off v m s).fab.blocks = s.fab.blocks := by
  unfold outStored
  split <;> exact ⟨rfl, rfl, rfl⟩

/-- A write of masked bits that a plain lamp may make enters its task's output bytes. -/
theorem outWrite_plain (a : Nat) (v : Word) (h : OutReady o off m s) :
    ∃ t, outWrite o a off v m s = .ok t ∧ OutputWritten o.lamp off v m s t := by
  obtain ⟨hp, h4, -, hf, he⟩ := h
  obtain ⟨x, hx⟩ := eccStore_ok o.lamp (m == 0xFFFFFFFF) he
  obtain ⟨hg, hm, hc⟩ := outStored_mem o (lampOf s o.lamp).task off v
    (m &&& ownMask (eccMarked x s) (lampOf s o.lamp).task off) (eccMarked x s)
  refine ⟨_, outWrite_of_store a v hp hf hx, fun n y c hb => getLsbD_outStored o _ v m (eccMarked x s) n y h4 hb,
    dspaceKept_of_mem hg hm, fun c => ?_, ?_⟩
  · rw [tcOf, hc]; rfl
  · exact lampStores_trans (lampStores_ecc _ x s) (lampStores_outStored ..)

/-! ### Bus writes of a word (R105) -/

theorem ioWrite_of_at {c : Nat} (h : ioWriteAt o a 4 v s = .ok (c, t)) : ioWrite o a 4 v s = .ok (c, ioTap o a t) := by
  simp only [ioWrite, h, bind, Except.bind]

/-- A bus write that the windows of REGISTER_WRITE hold is made as a store of the lamp. -/
theorem opRegWrite_of_at {c : Nat} (hm : (lampOf s o.lamp).mode = .exec)
    (hw : (0x10000 ≤ a ∧ a < 0x20000) ∨ (0x60000 ≤ a ∧ a < 0x70000) ∨ 0x70400 ≤ a ∧ a < 0x70600)
    (h : ioWriteAt o a 4 v s = .ok (c, t)) : opRegWrite o a v s = ioTap o a t := by
  have hp : ((decide (0x10000 ≤ a) && decide (a < 0x20000)) || (decide (0x60000 ≤ a) && decide (a < 0x70000)) ||
      (decide (0x70400 ≤ a) && decide (a < 0x70600))) = true := by
    simpa [or_assoc] using hw
  simp only [opRegWrite, hp, hm, ioWrite_of_at h, beq_self_eq_true, Bool.and_self, if_true]

theorem byteMask_word (h4 : a % 4 = 0) : byteMask a 4 = 0xFFFFFFFF := by rw [byteMask, h4]; rfl

theorem ioWriteAt_out (h4 : a % 4 = 0) (h1 : 0x10000 ≤ a) (h2 : a < 0x20000)
    (h : outWrite o a (a - 0x10000) v 0xFFFFFFFF s = .ok t) : ioWriteAt o a 4 v s = .ok (2 + waitOf o, t) := by
  have e : (a - 0x10000) / 4 * 4 = a - 0x10000 := by omega
  have hn : ¬a < 0x10000 := by omega
  simp only [ioWriteAt, alignCheck, h4, hn, h2, e, byteMask_word h4, if_true, if_false, Nat.mul_zero, BitVec.shiftLeft_zero,
    h, bind, Except.bind]

/-! ### Timer/counter blocks (R103, R146) -/

/-- PRESET or ELAPSED of a block as a write of the whole word leaves it. -/
def TcBlock.written (c : TcBlock) (j : Nat) (v : Word) : TcBlock :=
  if j = 0 then { c with preset := v } else { c with elapsed := v }

/-- A write of all bits of a word leaves nothing of what was there. -/
theorem word_written_whole (w v : Word) : (w &&& ~~~(0xFFFFFFFF : Word)) ||| (v &&& 0xFFFFFFFF) = v := by
  have h : (0xFFFFFFFF : Word) = BitVec.allOnes 32 := rfl
  rw [h, BitVec.and_allOnes, BitVec.not_allOnes, BitVec.and_zero, BitVec.zero_or]

theorem tcPut_whole (b : Nat) (v : Word) (s : State) (hj : j < 2) : tcPut b j v 0xFFFFFFFF s =
    { s with fab := { s.fab with blocks := tabPut {} s.fab.blocks b ((tcOf s b).written j v) } } := by
  obtain rfl | rfl : j = 0 ∨ j = 1 := by omega
  all_goals
    simp only [tcPut, word_written_whole, TcBlock.written, Nat.reduceEqDiff, reduceIte, Nat.one_ne_zero, Nat.zero_ne_one,
      tcOfWords_tcWord]
    rfl

theorem tcOf_tcPut_self (b : Nat) (v : Word) (s : State) (hj : j < 2) :
    tcOf (tcPut b j v 0xFFFFFFFF s) b = (tcOf s b).written j v := by
  rw [tcPut_whole b v s hj]; exact tabGet_tabPut_self ..

theorem tcOf_tcPut_ne {d : Nat} (v m : Word) (s : State) (h : d ≠ b) : tcOf (tcPut b j v m s) d = tcOf s d :=
  tabGet_tabPut_ne _ _ _ h

theorem lampStores_tcPut (i b j : Nat) (v m : Word) (s : State) : LampStores i s (tcPut b j v m s) :=
  lampStores_blocks i _ s

theorem tcWrite_plain (b j : Nat) (v : Word) (hp : LampPlain o s) : tcWrite o b j v s =
    .ok (visible o.lamp (3 + waitOf o) (tcPut b j v 0xFFFFFFFF s)) := by
  obtain ⟨hspec, hdrain, -⟩ := hp
  simp only [tcWrite, hspec, hdrain, ne_eq, not_true_eq_false, if_false, Bool.false_eq_true]

theorem ioWriteAt_tc (hb : b < 4096) (hj : j < 2) (hp : LampPlain o s)
    (hk : pageOk (pageUse s (131072 + b / 16)) (lampOf s o.lamp).task true = true) :
    ∃ x, ioWriteAt o (0x60000 + 16 * b + 4 * j) 4 v s = .ok (2 + waitOf o,
      visible o.lamp (3 + waitOf o) (tcPut b j v 0xFFFFFFFF (eccMarked x s))) := by
  have h4 : (0x60000 + 16 * b + 4 * j) % 4 = 0 := by omega
  have h1 : ¬0x60000 + 16 * b + 4 * j < 0x10000 := by omega
  have h2 : ¬0x60000 + 16 * b + 4 * j < 0x20000 := by omega
  have h3 : ¬0x60000 + 16 * b + 4 * j < 0x60000 := by omega
  have h5 : 0x60000 + 16 * b + 4 * j < 0x70000 := by omega
  have h6 : ¬8 ≤ (0x60000 + 16 * b + 4 * j) % 16 := by omega
  have eb : (0x60000 + 16 * b + 4 * j - 0x60000) / 16 = b := by omega
  have ej : (0x60000 + 16 * b + 4 * j) % 16 / 4 = j := by omega
  have hc : tcCheck s o.lamp b = .ok () := if_pos hk
  refine ⟨tabPut .ok s.fab.ecc (eccKey 7 0 (0x60000 + 16 * b + 4 * j - 0x60000)) .ok, ?_⟩
  have hw := tcWrite_plain (s := eccMarked (tabPut .ok s.fab.ecc (eccKey 7 0 (0x60000 + 16 * b + 4 * j - 0x60000)) .ok) s)
    b j v hp
  simp only [ioWriteAt, alignCheck, h4, h1, h2, h3, h5, h6, eb, ej, hc, if_true, if_false, ne_eq, not_true_eq_false,
    or_self, bind, Except.bind, eccStore]
  rw [eccMarked] at hw
  rw [hw]
  rfl

/-! ### Free-running timers (R110) -/

/-- Changes a free-running timer. -/
def frtMod (k : Nat) (f : Frt → Frt) (s : State) : State :=
  { s with fab := { s.fab with frt := tabMod {} s.fab.frt k f } }

theorem frtOf_frtMod_self (k : Nat) (f : Frt → Frt) (s : State) : frtOf (frtMod k f s) k = f (frtOf s k) :=
  tabGet_tabMod_self ..

theorem frtOf_frtMod_ne (f : Frt → Frt) (s : State) (h : j ≠ k) : frtOf (frtMod k f s) j = frtOf s j :=
  tabGet_tabMod_ne _ _ _ h

theorem frtClear_eq (k : Nat) (s : State) : frtClear k s = if k < 64 then
    frtMod k (fun f => { f with cnt := 0, since := if f.run then s.time.mono else 0 }) s else s := rfl

theorem frtRun_eq (k : Nat) (run : Bool) (s : State) : frtRun k run s = if k < 64 ∧ (frtOf s k).run ≠ run then
    frtMod k (fun f => { f with cnt := frtCount s k, run := run, since := if run then s.time.mono else 0 }) s else s := rfl

theorem frtOf_frtClear_self (hk : k < 64) (s : State) : frtOf (frtClear k s) k =
    { frtOf s k with cnt := 0, since := if (frtOf s k).run then s.time.mono else 0 } := by
  rw [frtClear_eq, if_pos hk, frtOf_frtMod_self]

theorem frtOf_frtClear_ne (h : j ≠ k) (s : State) : frtOf (frtClear k s) j = frtOf s j := by
  rw [frtClear_eq]
  split
  · exact frtOf_frtMod_ne _ s h
  · rfl

theorem frtClear_time (k : Nat) (s : State) : (frtClear k s).time = s.time := by
  unfold frtClear; split <;> rfl

theorem frtCount_frtClear (hk : k < 64) (s : State) : frtCount (frtClear k s) k = 0 := by
  rw [frtCount, frtOf_frtClear_self hk, frtClear_time]
  dsimp only
  split <;> simp [*]

theorem frtOf_frtRun_self (hk : k < 64) (run : Bool) (s : State) : frtOf (frtRun k run s) k =
    if (frtOf s k).run = run then frtOf s k
    else { cnt := frtCount s k, run := run, since := if run then s.time.mono else 0 } := by
  rw [frtRun_eq]
  by_cases h : (frtOf s k).run = run
  · rw [if_neg (fun x => x.2 h), if_pos h]
  · rw [if_pos ⟨hk, h⟩, if_neg h, frtOf_frtMod_self]

theorem frtOf_frtRun_ne (h : j ≠ k) (run : Bool) (s : State) : frtOf (frtRun k run s) j = frtOf s j := by
  rw [frtRun_eq]
  split
  · exact frtOf_frtMod_ne _ s h
  · rfl

theorem frtRun_time (k : Nat) (run : Bool) (s : State) : (frtRun k run s).time = s.time := by
  unfold frtRun; split <;> rfl

theorem frtRun_run (hk : k < 64) (run : Bool) (s : State) : (frtOf (frtRun k run s) k).run = run := by
  rw [frtOf_frtRun_self hk]
  split
  · assumption
  · rfl

/-- A timer that starts or stops shows the count it had. -/
theorem frtCount_frtRun (hk : k < 64) (run : Bool) (s : State) : frtCount (frtRun k run s) k = frtCount s k := by
  rw [frtCount, frtOf_frtRun_self hk, frtRun_time]
  split
  · rfl
  · cases run <;> simp

/-- A write of a timer's control register: CLEAR, then RUN. -/
def frtCtrl (k : Nat) (v : Word) (s : State) : State :=
  frtRun k (v.getLsbD 0) (if v.getLsbD 1 then frtClear k s else s)

theorem frtCount_frtCtrl (hk : k < 64) (v : Word) (s : State) :
    frtCount (frtCtrl k v s) k = if v.getLsbD 1 then 0 else frtCount s k := by
  rw [frtCtrl, frtCount_frtRun hk]
  split
  · exact frtCount_frtClear hk s
  · rfl

theorem frtOf_frtCtrl_ne (h : j ≠ k) (v : Word) (s : State) : frtOf (frtCtrl k v s) j = frtOf s j := by
  rw [frtCtrl, frtOf_frtRun_ne h]
  split
  · exact frtOf_frtClear_ne h s
  · rfl

theorem ioWriteAt_frt (hk : k < 64) (hs : (lampOf s o.lamp).spec = false)
    (hd : rctlDenied s o.lamp (0x70400 + 8 * k + 4) = false) :
    ioWriteAt o (0x70400 + 8 * k + 4) 4 v s = .ok (2, frtCtrl k v s) := by
  have h4 : (0x70400 + 8 * k + 4) % 4 = 0 := by omega
  have h1 : ¬0x70400 + 8 * k + 4 < 0x10000 := by omega
  have h2 : ¬0x70400 + 8 * k + 4 < 0x20000 := by omega
  have h3 : ¬0x70400 + 8 * k + 4 < 0x60000 := by omega
  have h5 : ¬0x70400 + 8 * k + 4 < 0x70000 := by omega
  have h6 : 0x70400 + 8 * k + 4 < 0x71000 := by omega
  have hr : 0x70400 ≤ 0x70400 + 8 * k + 4 ∧ 0x70400 + 8 * k + 4 < 0x70600 := by omega
  have hw : rctlWritable (0x70400 + 8 * k + 4) = true := by
    have h8 : (0x70400 + 8 * k + 4) % 8 = 4 := by omega
    simp [rctlWritable, hr.1, hr.2, h8]
  have ek : (0x70400 + 8 * k + 4 - 0x70400) / 8 = k := by omega
  have hc : rctlWrite o.lamp (0x70400 + 8 * k + 4) v s = frtCtrl k v s := by
    rw [rctlWrite, if_pos hr, ek, frtCtrl]
  simp only [ioWriteAt, alignCheck, h4, h1, h2, h3, h5, h6, hw, hs, hd, hc, if_true, if_false, ne_eq, not_true_eq_false,
    Bool.not_true, Bool.false_eq_true, or_self, bind, Except.bind]

/-! ### REGISTER_WRITE (R7) -/

/-- A write of an aligned word of the output image. -/
theorem registerWrite_out (hm : (lampOf s o.lamp).mode = .exec) (h4 : a % 4 = 0) (h1 : 0x10000 ≤ a) (h2 : a < 0x20000)
    (h : OutReady o (a - 0x10000) 0xFFFFFFFF s) :
    Completes (.registerWrite o a v) s (OutputWritten o.lamp (a - 0x10000) v 0xFFFFFFFF s) := by
  obtain ⟨t, ht, hw⟩ := outWrite_plain a v h
  exact ⟨ioTap o a t, congrArg Host.Outcome.next (opRegWrite_of_at hm (.inl ⟨h1, h2⟩) (ioWriteAt_out h4 h1 h2 ht)),
    outputWritten_ioTap hw⟩

/-- A write of PRESET or ELAPSED of a block. -/
theorem registerWrite_tc (hm : (lampOf s o.lamp).mode = .exec) (hj : j < 2) (h : BlockReady o b s) :
    Completes (.registerWrite o (0x60000 + 16 * b + 4 * j) v) s (fun t => tcOf t b = (tcOf s b).written j v ∧
      (∀ d, d ≠ b → tcOf t d = tcOf s d) ∧ LampStores o.lamp s t) := by
  obtain ⟨hp, hb, hk, -, -⟩ := h
  obtain ⟨x, hx⟩ := ioWriteAt_tc (v := v) hb hj hp hk
  refine ⟨_, congrArg Host.Outcome.next (opRegWrite_of_at hm (.inr (.inl (by omega))) hx), ?_, fun d hd => ?_, ?_⟩
  · rw [tcOf, ioTap_fab]
    exact tcOf_tcPut_self b v (eccMarked x s) hj
  · rw [tcOf, ioTap_fab]
    exact tcOf_tcPut_ne v _ (eccMarked x s) hd
  · exact lampStores_trans (lampStores_ecc _ x s) (lampStores_trans (lampStores_tcPut _ b j v _ _)
      (lampStores_trans (lampStores_visible _ _ _) (lampStores_of_lampOnly (lampOnly_ioTap o _ _))))

theorem frtOf_ioTap (o : LampOp) (a k : Nat) (s : State) : frtOf (ioTap o a s) k = frtOf s k := by
  rw [frtOf, ioTap_fab, frtOf]

theorem ioTap_time (o : LampOp) (a : Nat) (s : State) : (ioTap o a s).time = s.time := by
  simp only [ioTap, lampCtr, apply_ite State.time, ctrAdd_time, ite_self]

theorem frtCount_ioTap (o : LampOp) (a k : Nat) (s : State) : frtCount (ioTap o a s) k = frtCount s k := by
  rw [frtCount, frtOf_ioTap, ioTap_time, frtCount]

/-- A write of the control register of a free-running timer. -/
theorem registerWrite_frt (hm : (lampOf s o.lamp).mode = .exec) (hk : k < 64) (hs : (lampOf s o.lamp).spec = false)
    (hd : rctlDenied s o.lamp (0x70400 + 8 * k + 4) = false) :
    Completes (.registerWrite o (0x70400 + 8 * k + 4) v) s (fun t => (frtOf t k).run = v.getLsbD 0 ∧
      frtCount t k = (if v.getLsbD 1 then 0 else frtCount s k) ∧ ∀ j, j ≠ k → frtOf t j = frtOf s j) := by
  refine ⟨_, congrArg Host.Outcome.next (opRegWrite_of_at hm (.inr (.inr (by omega))) (ioWriteAt_frt hk hs hd)),
    ?_, ?_, fun j h => ?_⟩
  · rw [frtOf_ioTap, frtCtrl, frtRun_run hk]
  · rw [frtCount_ioTap, frtCount_frtCtrl hk]
  · rw [frtOf_ioTap, frtOf_frtCtrl_ne h]

end Sys2Proof.Machine
end

section
/-!
SUPPORT. The statement about the watch port, the service tag and the registers: one theorem per command, then all of them.
-/
namespace Sys2Proof.Machine

/-- TRACE_SET of a session on the service port (R562). -/
theorem traceSet_clauses {q : Req} {rest : List Req} {s : State} {m : Nat} (h : Served 0x0B01 q rest s)
    (hm : serviceBox q (taken rest s) = some m) :
    (s.watch.isOpen = false → argW q 0 ≠ 0 → Replies .traceSet q 0 s (fun d t => d = [] ∧ t.watch.isOpen = true ∧
      t.watch.mailbox = m ∧ t.watch.srcMask = argW q 0 ∧ t.watch.galMask = argW q 1 ∧ t.watch.taskMask = argW q 2 ∧
      t.watch.eseq = 0 ∧ t.clk = { s.clk with en := s.clk.en ||| 0x20#15 } ∧
      OnlyIn (logBlocks ++ [.clk]) (taken rest s) t)) ∧
    (s.watch.isOpen = true → s.watch.mailbox = m → ¬(argW q 0 = 0 ∧ argW q 1 = 0 ∧ argW q 2 = 0) →
      exec .traceSet s = .next (finish q { rc := 0 } { taken rest s with
        watch := { s.watch with srcMask := argW q 0, galMask := argW q 1, taskMask := argW q 2 } })) ∧
    (s.watch.isOpen = true → s.watch.mailbox = m → argW q 0 = 0 → argW q 1 = 0 → argW q 2 = 0 →
      Replies .traceSet q 0 s (fun d t => d = [] ∧ t.watch.isOpen = false ∧ t.watch.srcMask = 0 ∧ t.watch.buf = [] ∧
        t.watch.snapBuf = [] ∧ t.clk = { s.clk with en := s.clk.en &&& ~~~0x20#15 } ∧
        OnlyIn (logBlocks ++ [.clk]) (taken rest s) t)) ∧
    (s.watch.isOpen = true → s.watch.mailbox ≠ m →
      exec .traceSet s = .next (finish q { rc := 0x0202 } (taken rest s))) := by
  refine ⟨fun ho hs => ?_, fun ho e hz => ?_, fun ho e h0 h1 h2 => ?_, fun ho e => ?_⟩
  · exact ⟨[], _, traceSet_served h hm (fun x => absurd (ho.symm.trans x) (by decide)), rfl,
      watchSet_opens (s := taken rest s) ho hs⟩
  · rw [traceSet_served h hm fun _ => e, watchSet_refilters (s := taken rest s) ho hz]
    rfl
  · refine ⟨[], _, traceSet_served h hm (fun _ => e), rfl, ?_⟩
    rw [watchSet_closes (s := taken rest s) ho h0 h1 h2]
    exact watchClose_closes (s := taken rest s) 1 ho
  · refine traceSet_refused h ?_
    rw [traceSetCheck, hm]
    exact if_pos ⟨ho, e⟩

theorem traceSet_elsewhere {q : Req} {rest : List Req} {s : State} (h : Served 0x0B01 q rest s)
    (hm : serviceBox q (taken rest s) = none) :
    exec .traceSet s = .next (finish q { rc := 0x0304 } (taken rest s)) := by
  refine traceSet_refused h ?_
  rw [traceSetCheck, hm]

/-- COUNTER_SELECT (R569). -/
theorem counterSelect_replies {q : Req} {rest : List Req} {s : State} (h : Served 0x0B02 q rest s)
    (hk : ctrSelOk (argW q 1) = true) : Replies .counterSelect q 0 s (fun d t => d = [] ∧
      tabGet 0 t.watch.sel (arg q 0) = argW q 1 ∧
      (∀ j, j ≠ arg q 0 → tabGet 0 t.watch.sel j = tabGet 0 s.watch.sel j) ∧
      (traceOn s 4 = false → ctrValue t (arg q 0) = 0 ∧
        ∀ j, j ≠ arg q 0 → tabGet 0 t.watch.ctr j = tabGet 0 s.watch.ctr j) ∧
      OnlyIn logBlocks (taken rest s) t) := by
  refine ⟨[], _, counterSelect_served h hk, rfl, ?_, fun j hj => ?_, fun ht => ⟨?_, fun j hj => ?_⟩,
    counterSelectEffect_only q (taken rest s)⟩
  · rw [counterSelectEffect_sel, tabGet_tabPut_self]
  · rw [counterSelectEffect_sel, tabGet_tabPut_ne _ _ _ hj]; rfl
  · exact ctrValue_counterSelectEffect (s := taken rest s) q ht
  · rw [counterSelectEffect_ctr (s := taken rest s) q ht, tabGet_tabPut_ne _ _ _ hj]; rfl

/-- A trigger of a region and its retry (R590, R591). -/
theorem tagRegionWrite_clauses {r : Nat} {s : State} (hk : s.kp.ready = true) (hp : s.tag.present = true) (hr : r ≤ 4) :
    let x := tagReg s r
    let b := tagTarget x
    (s.tag.rf = false → s.tag.writing = none → Completes (.tagRegionWrite r) s (fun t => TagBegun r b x s t ∧
      now t = now s ∧ (if b then (tagReg t r).dataB else (tagReg t r).dataA) = tagContent s r ∧ OnlyIn [.tag] s t)) ∧
    (s.tag.rf = false → s.tag.writing ≠ none → Completes (.tagRegionWrite r) s (fun t =>
      tagReg t r = { x with isPending := true } ∧ (∀ j, j ≠ r → tagReg t j = tagReg s j) ∧ t.tag.writing = s.tag.writing ∧
      OnlyIn [.tag] s t)) ∧
    (s.tag.rf = true → Completes (.tagRegionWrite r) s (fun t =>
      tagReg t r = { x with isPending := true, deferTs := some (x.deferTs.getD (now s)) } ∧
      (∀ j, j ≠ r → tagReg t j = tagReg s j) ∧
      t.tag.deferCnt = (if x.deferTs.isSome then s.tag.deferCnt else satInc s.tag.deferCnt) ∧ OnlyIn [.tag] s t)) := by
  have hw := tagWorks_of hk hp
  refine ⟨fun hf hn => ?_, fun hf hn => ?_, fun hf => ?_⟩
  · exact ⟨_, congrArg Host.Outcome.next (opTagWrite_begins hw hr hf hn), tagBegin_begun r s, now_tagBegin r s,
      tagBegin_content r s, onlyIn_tagBegin r s⟩
  · exact ⟨_, congrArg Host.Outcome.next (opTagWrite_waits hw hr hf hn), tagReg_tagMod_self r _ s,
      fun j h => tagReg_tagMod_ne _ s h, rfl, onlyIn_tagMod r _ s⟩
  · exact ⟨_, congrArg Host.Outcome.next (opTagWrite_defers hw hr hf), tagReg_tagDefer_self r _ s,
      fun j h => tagReg_tagDefer_ne _ s h, tagDefer_deferCnt r _ s, onlyIn_tagDefer r _ s⟩

/-- A retry of a deferred write (R591). -/
theorem tagWriteRetry_clauses {r t0 : Nat} {s : State} (hk : s.kp.ready = true) (hp : s.tag.present = true)
    (hd : (tagReg s r).deferTs = some t0) (hpend : (tagReg s r).isPending = true) :
    Completes (.tagWriteRetry r) s (fun t =>
      now t = max (t0 + 250000000 * ((tagReg s r).retries + 1)) (now s) ∧
      (tagReg t r).retries = (tagReg s r).retries + 1 ∧
      (s.tag.rf = false → s.tag.writing = none → TagBegun r (tagTarget (tagReg s r)) (tagReg s r) s t) ∧
      (s.tag.rf = true ∨ s.tag.writing ≠ none → (tagReg t r).isPending = true ∧ t.tag.writing = s.tag.writing) ∧
      OnlyIn [.tag, .time, .rtc] s t) := by
  refine ⟨_, congrArg Host.Outcome.next (opTagRetry_eq (tagWorks_of hk hp) hd hpend), ?_⟩
  split
  · next hb =>
    refine ⟨now_tagRetried r t0 s, ?_, fun hf hn => ?_, fun _ => ⟨?_, tagRetried_writing r t0 s⟩, onlyIn_tagRetried r t0 s⟩
    · rw [tagReg_tagRetried_self]
    · rw [hf, hn] at hb; simp at hb
    · rw [tagReg_tagRetried_self]; exact hpend
  · next hb =>
    refine ⟨(now_tagBegin r _).trans (now_tagRetried r t0 s), ?_, fun _ _ => tagBegin_tagRetried_begun r t0 s,
      fun hb' => absurd ?_ hb, (onlyIn_tagRetried r t0 s).trans ((onlyIn_tagBegin r _).mono (by decide))⟩
    · rw [tagReg_tagBegin_self, blanked_retries, tagReg_tagRetried_self]
    · exact hb'.imp id Option.isSome_iff_ne_none.2

/-- The RF side takes the tag (R591). -/
theorem tagRfField_clauses {s : State} (hf : s.tag.rf = false) : Completes .tagRfField s (fun t => t.tag.rf = true ∧
    t.tag.rfCnt = satInc s.tag.rfCnt ∧ t.tag.writing = none ∧ (s.tag.writing = none → now t = now s) ∧
    (∀ r b, s.tag.writing = some (r, b) → r ≤ 4 →
      now t = max (s.tag.writeTs + 40000 * ((now s - s.tag.writeTs) / 40000 + 1)) (now s) ∧
      (tagReg t r).isPending = true ∧ (tagReg t r).deferTs.isSome = true) ∧ OnlyIn [.tag, .time, .rtc] s t) := by
  have ho : OnlyIn [.tag, .time, .rtc] s (tagRfOn s) := (onlyIn_tag _ s).mono (by decide)
  rcases hw : s.tag.writing with _ | ⟨r, b⟩
  · refine ⟨_, congrArg Host.Outcome.next (opTagRf_idle hf hw), tagDeferAll_rf _, tagDeferAll_rfCnt _,
      (tagDeferAll_writing _).trans hw, fun _ => now_tagDeferAll _, fun r b h => (Option.some_ne_none _ h.symm).elim,
      ho.trans ((onlyIn_tagDeferAll _).mono (by decide))⟩
  · refine ⟨_, congrArg Host.Outcome.next (opTagRf_writing hf hw), (tagDeferAll_rf _).trans (tagRfStops_rf r _),
      (tagDeferAll_rfCnt _).trans (tagRfStops_rfCnt r _), (tagDeferAll_writing _).trans (tagRfStops_writing r _),
      fun h => (Option.some_ne_none _ h).elim, fun r' b' h _ => ?_,
      ho.trans ((onlyIn_tagRfStops r _).trans ((onlyIn_tagDeferAll _).mono (by decide)))⟩
    obtain ⟨rfl, -⟩ := Prod.mk.inj (Option.some.inj h)
    exact ⟨(now_tagDeferAll _).trans (now_tagRfStops r _), tagDeferred_tagDeferAll (tagDeferred_tagDefer r _ _)⟩

/-- The end of a good write while none waits (R590). -/
theorem tagWriteComplete_good {r : Nat} {b : Bool} {s : State} (hw : s.tag.writing = some (r, b))
    (hq : ∀ j, j < 5 → (tagReg s j).isPending = false) :
    let x := tagReg s r
    let d := if b then x.dataB else x.dataA
    let other := if b then (if x.okA then x.verA else 0) else (if x.okB then x.verB else 0)
    Completes (.tagWriteComplete true) s (fun t => now t = max (s.tag.writeTs + 40000 * (4 + (d.length + 3) / 4)) (now s) ∧
      t.tag.writing = none ∧ t.tag.writeCnt = satInc s.tag.writeCnt ∧
      (if b then (tagReg t r).verB = (other + 1) % 2 ^ 32 ∧ (tagReg t r).okB = true ∧ (tagReg t r).dataB = d ∧
          (tagReg t r).verA = x.verA ∧ (tagReg t r).okA = x.okA
        else (tagReg t r).verA = (other + 1) % 2 ^ 32 ∧ (tagReg t r).okA = true ∧ (tagReg t r).dataA = d ∧
          (tagReg t r).verB = x.verB ∧ (tagReg t r).okB = x.okB) ∧
      (∀ j, j ≠ r → tagReg t j = tagReg s j) ∧ OnlyIn (logBlocks ++ [.tag, .out, .time, .rtc]) s t) := by
  refine ⟨_, congrArg Host.Outcome.next (opTagComplete_good_quiet hw hq), now_tagGood r b s, tagGood_writing r b s,
    tagGood_writeCnt r b s, ?_, fun j h => tagReg_tagGood_ne b s h, onlyIn_tagGood r b s⟩
  rw [tagReg_tagGood_self]
  cases b <;> exact ⟨rfl, rfl, rfl, rfl, rfl⟩

/-- The end of a write that read back wrong while no other waits (R590). -/
theorem tagWriteComplete_bad {r : Nat} {b : Bool} {s : State} (hw : s.tag.writing = some (r, b))
    (hq : ∀ j, j < 5 → (tagReg s j).isPending = false) :
    Completes (.tagWriteComplete false) s (fun t => t.tag.failCnt = satInc s.tag.failCnt ∧
      ((tagReg s r).fails + 1 < 3 →
        (t.tag.writing.map Prod.fst) = some r ∧ (tagReg t r).fails = (tagReg s r).fails + 1) ∧
      (3 ≤ (tagReg s r).fails + 1 → t.tag.writing = none ∧ (tagReg t r).fails = 0) ∧
      OnlyIn (logBlocks ++ [.tag, .time, .rtc]) s t) := by
  by_cases h3 : (tagReg s r).fails + 1 < 3
  · exact ⟨tagAgain r b s, congrArg Host.Outcome.next ((opTagComplete_bad hw).trans (if_pos h3)), tagFailed_failCnt r b s,
      fun _ => ⟨rfl, tagReg_tagAgain_fails r b s⟩, fun h => absurd h3 (by omega),
      (onlyIn_tagAgain r b s).mono (by decide)⟩
  · refine ⟨_, congrArg Host.Outcome.next (opTagComplete_bad_quiet hw (by omega) hq), ?_, fun h => absurd h h3,
      fun _ => ⟨?_, ?_⟩, onlyIn_tagGivenUp r b s⟩
    · rw [tagGivenUp_tag]; exact tagFailed_failCnt r b s
    · rw [tagGivenUp_tag]; exact tagFailed_writing r b s
    · rw [tagReg_tagGivenUp_self]; rfl

/-- SNAPSHOT (R196, R462, R568). -/
theorem snapshot_clauses {q : Req} {rest : List Req} {s : State} (h : Served 0x0B03 q rest s) :
    let u := taken rest s
    let g := arg q 0 / 256
    let r := arg q 0 / 16 % 16
    let l := arg q 0 % 2
    (snapCheck g r l u = none → exec .snapshot s = .next (finish q { rc := 0, data := [w32 (s.watch.snapNum + 1)] }
      { u with watch := { s.watch with
        snapNum := s.watch.snapNum + 1, snapReq := s.watch.snapReq ++ [(g, r, l, s.watch.snapNum + 1)] } })) ∧
    (∀ c, snapCheck g r l u = some c → exec .snapshot s = .next (finish q { rc := c }
      { u with watch := { s.watch with snapRefused := satInc s.watch.snapRefused } })) ∧
    (s.watch.isOpen = false → snapCheck g r l u = some 0x0304) ∧
    (s.watch.isOpen = true → rangeVital s g r = false → (l = 1 → (rangeOf s g r).split = true) →
      4 ≤ s.watch.snapBuf.length → snapCheck g r l u = some 0x0202) :=
  ⟨snapshot_taken h, fun _ => snapshot_refused h, snapCheck_of_closed _ _ _, snapCheck_of_full _ _ _⟩

/-- A keeper read of a register latches the high word of its pair, or is counted where the block is gated (R390, R528). -/
theorem latchedLowRead_clauses (a : Nat) (s : State) :
    (∀ h, a % 4 = 0 → a < 0x120000 → regGated s a = false → regHigh s a = some h → Completes (.latchedLowRead a) s (fun t =>
      t = { s with latch := tabPut 0 s.latch (a + 4) h } ∧ regValue t (a + 4) = h)) ∧
    (a % 4 = 0 → a < 0x120000 → regGated s a = false → regHigh s a = none → exec (.latchedLowRead a) s = .next s) ∧
    (a % 4 = 0 → a < 0x120000 → regGated s a = true →
      exec (.latchedLowRead a) s = .next { s with clk := { s.clk with gatedCnt := satInc s.clk.gatedCnt } }) := by
  refine ⟨fun h h4 ha hg hh => ?_, fun h4 ha hg hh => ?_, fun h4 ha hg => ?_⟩
  · exact ⟨_, congrArg Host.Outcome.next ((opLatchedLow_open h4 ha hg).trans (regLatch_of_high hh)), rfl,
      regValue_of_latched hh⟩
  · exact congrArg Host.Outcome.next ((opLatchedLow_open h4 ha hg).trans (regLatch_of_none hh))
  · exact congrArg Host.Outcome.next (opLatchedLow_gated h4 ha hg)

/-- Settles O60, command by command from the rules of the watch port, the tag and the registers. -/
theorem watchPortTagAndRegisters : Obligations.WatchPortTagAndRegisters := by
  refine ⟨fun q rest s => ⟨fun m h hm => traceSet_clauses h hm, traceSet_elsewhere, counterSelect_replies,
    counterSelect_refused, snapshot_clauses⟩, fun s ho hp hc hf => ?loss, fun r s hk hp hr => ?tag, fun s => rfl,
    fun s => tagRfField_clauses, fun r b s hw hq => ⟨tagWriteComplete_good hw hq, tagWriteComplete_bad hw hq⟩,
    latchedLowRead_clauses, fun o a v s hm h4 => ⟨fun h1 h2 h => ?image, fun b j hj ha h => ?block, fun k hk ha hs hd => ?timer⟩⟩
  case loss =>
    exact ⟨_, congrArg Host.Outcome.next (opLossEntry_captures ho hp hc hf), rfl, rfl, rfl, onlyIn_watch _ s⟩
  case tag =>
    obtain ⟨hbegin, hwait, hdefer⟩ := tagRegionWrite_clauses hk hp hr
    exact ⟨hbegin, hwait, hdefer, fun t0 hd hx => tagWriteRetry_clauses hk hp hd hx⟩
  case image => exact registerWrite_out hm h4 h1 h2 h
  case block => subst ha; exact registerWrite_tc hm hj h
  case timer => subst ha; exact registerWrite_frt hm hk hs hd

end Sys2Proof.Machine
end
